-- ==== Sys2Proof/Word.lean ====
section
/-! DEFINITION. The word types of the frames and packets: bytes, 24-bit identities, 48-bit codec frames. -/

namespace Sys2Proof

/-- One byte on the air or on the host link (01, Byte Layouts). -/
abbrev Byte := BitVec 8

/-- A 24-bit unit identity (00, Terms: unit identity). -/
abbrev Identity := BitVec 24

/-- One codec frame: 6 bytes of codec data covering 20 ms, most significant bit of byte 0 first (R150). -/
abbrev CodecFrame := BitVec 48

end Sys2Proof
end

