-- ==== Sys2Proof/Syntax.lean ====
section
/-! DEFINITION. The frames of the yard channel, the parameters of the host commands, and `Instr`: one constructor for each
row of spec/opcode_table.json, with the row's operands (log 26). -/

namespace Sys2Proof

/-- The three line rates (01, Line Rates and Bits on the Air). -/
inductive Rate where
  | full | half | quarter
deriving DecidableEq, Repr

/-- The three station roles (00, Station Roles). -/
inductive Role where
  | operator | assist | traction
deriving DecidableEq, Repr

/-- How a frame names those it is for (R12). -/
inductive DestMode where
  | unit | crew | yard
deriving DecidableEq, Repr

/-- The scope of a call or of a halt (R14, R120). -/
inductive Scope where
  | crew | yard
deriving DecidableEq, Repr

/-- The 21 frame kinds (R14). -/
inductive Kind where
  | halt | move | check | status | answer | resume | bindAsk | bindReply | take | release | handover | offer | settled
  | claim | clear | voice | note | probe | echo | present | dormant
deriving DecidableEq, Repr

/-- The outcome an ANSWER or a BIND-REPLY carries (R16). -/
inductive Verdict where
  | accepted | busy | refused
deriving DecidableEq, Repr

/-- The twelve reasons of a refusal (R16). -/
inductive Reason where
  | held | notBound | notOffered | full | crew | role | moving | untested | stopped | state | rate | declined
deriving DecidableEq, Repr

/-- The outcome of a SETTLED frame (R16). -/
inductive SettledOutcome where
  | completed | lapsed | declined
deriving DecidableEq, Repr

/-- The direction of a movement record (01, The movement record). -/
inductive Direction where
  | neutral | forward | reverse
deriving DecidableEq, Repr

/-- The brake setting of a movement record (01, The movement record). -/
inductive Brake where
  | released | light | fullService
deriving DecidableEq, Repr

/-- A movement record: the whole of one movement order (R15). -/
structure MoveRecord where
  direction : Direction
  step : BitVec 3
  brake : Brake
  horn : Bool
  uncouple : Bool
  sand : Bool
deriving DecidableEq, Repr

/-- The nine stop causes, bit n for cause n of the layout: UNSTARTED 0, UNATTENDED 1, LINK-LOST 2, CREW-HALT 3,
YARD-HALT 4, PORT-FAULT 5, LOCAL-STOP 6, TEST-FAIL 7, JAM-STOP 8 (01, Central bodies). -/
abbrev CauseSet := BitVec 9

/-- The fields of a STATUS frame (R14, R18). -/
structure StatusBody where
  check : Byte
  standstill : Bool
  stopAsserted : Bool
  portFailed : Bool
  transferPending : Bool
  causes : CauseSet
  speed : BitVec 3
  lastSeq : Option (BitVec 4)
deriving DecidableEq, Repr

/-- What the looped hunter made of one LOOP test frame (R176): the times in µs between successive transitions of its
preamble, from the first transition on, and its samples at the locked rate from the lock to the last check bit. -/
structure LoopReading where
  bitTimes : List Nat
  samples : List Bool
deriving DecidableEq, Repr

/-- The body of a frame, field by field (R14). Numbers that a layout gives a byte keep their byte, so that a value outside
the field's list can be written down and found malformed (R9). -/
inductive Body where
  | halt (originator : Identity) (number copy : Byte) (relay : Bool)
  | move (record : MoveRecord)
  | check (number units : Byte)
  | status (fields : StatusBody)
  | answer (kind : Kind) (seq : BitVec 4) (verdict : Verdict) (reason : Option Reason)
  | resume
  | bindAsk
  | bindReply (verdict : Verdict) (reason : Option Reason) (rate : Rate) (standstill controlled : Bool)
  | take (units : Byte) (byTransfer : Bool)
  | release (unbind : Bool)
  | handover (target : Identity)
  | offer (controller : Identity) (seconds : Byte)
  | settled (outcome : SettledOutcome)
  | claim (scope : Scope)
  | clear (sent : Byte)
  | voice (number : Byte) (block : List CodecFrame)
  | note (text : List Byte)
  | probe (pattern : List Byte)
  | echo (quality : Byte) (rate : Rate) (pattern : List Byte)
  | present
  | dormant
deriving DecidableEq, Repr

/-- The air header less its kind and body length, which the body gives (R12). -/
structure Header where
  sender : Identity
  role : Role
  authority : Bool
  seq : BitVec 4
  crew : Byte
  mode : DestMode
  dest : BitVec 24
deriving DecidableEq, Repr

/-- One frame on the yard channel, less its check (R14). -/
structure Frame where
  header : Header
  body : Body
deriving DecidableEq, Repr

/-- The eleven parameter bytes of CONFIGURE, in order (01, Host link packets; R182). -/
structure ConfigParams where
  role : Byte
  crew : Byte
  rate : Byte
  authority : Byte
  period : Byte
  dormancy : Byte
  talkLimit : Byte
  jamStops : Byte
  selects : Byte
  threshold : Byte
  timeout : Byte
deriving DecidableEq, Repr

/-- Why a hunt fails: a measured bit longer than the QUARTER maximum, in µs (R4), or bits passed since the sync window
restarted (R5). -/
inductive HuntFailure where
  | longBit (us : Nat)
  | windowPassed (bits : Nat)
deriving DecidableEq, Repr

/-- Why a frame ends as a failed frame: its check disagrees (R3), or its body length is more than 64 (R6). -/
inductive FrameFailure where
  | checkDisagrees
  | bodyTooLong
deriving DecidableEq, Repr

/-- A level that an input line has held without change for 20 ms (R137). -/
inductive InputSample where
  | still (level : Bool)
  | ready (level : Bool)
  | speed (band : BitVec 3)
deriving DecidableEq, Repr

/-- The commands of the block: one constructor for each row of spec/opcode_table.json. A slot is a slot of the bond table.
`dev` is the largest deviation of a transition of the frame from its bit grid, in whole sixteenths of a bit (R8). -/
inductive Instr where
  | resetn
  | initEnd
  | hselActive
  | hselInactive
  | answerReady
  | fetchRecordRemoved
  | unknownCommand (code : Byte) (params : List Byte)
  | readId
  | configure (params : ConfigParams)
  | start
  | reset
  | bind (traction : Identity)
  | unbind (traction : Identity)
  | take (traction : Identity)
  | release (traction : Identity)
  | move (traction : Identity) (record : BitVec 16)
  | resume (traction : Identity)
  | handover (traction target : Identity)
  | accept (traction : Identity)
  | decline (traction : Identity)
  | halt (scope : Byte)
  | localStop
  | localClear
  | talk (scope : Byte)
  | talkEnd
  | note (mode : Byte) (dest : BitVec 24) (text : List Byte)
  | probe (target : Identity) (pattern : List Byte)
  | test (code : Byte)
  | clearTest
  | clearHeld
  | readState
  | readPeer (index : Byte)
  | readBond (slot : Byte)
  | fetch
  | cdetActive
  | cdetInactive
  | rateLock
  | huntFailed (cause : HuntFailure)
  | syncWordFound (samples : BitVec 16)
  | failedFrame (cause : FrameFailure)
  | malformedFrame (bytes : List Byte)
  | haltFrame (dev : Nat) (header : Header) (originator : Identity) (number copy : Byte) (relay : Bool)
  | moveFrame (dev : Nat) (header : Header) (record : MoveRecord)
  | checkFrame (dev : Nat) (header : Header) (number units : Byte)
  | statusFrame (dev : Nat) (header : Header) (fields : StatusBody)
  | answerFrame (dev : Nat) (header : Header) (kind : Kind) (seq : BitVec 4) (verdict : Verdict) (reason : Option Reason)
  | resumeFrame (dev : Nat) (header : Header)
  | bindAskFrame (dev : Nat) (header : Header)
  | bindReplyFrame (dev : Nat) (header : Header) (verdict : Verdict) (reason : Option Reason) (rate : Rate)
      (standstill controlled : Bool)
  | takeFrame (dev : Nat) (header : Header) (units : Byte) (byTransfer : Bool)
  | releaseFrame (dev : Nat) (header : Header) (unbind : Bool)
  | handoverFrame (dev : Nat) (header : Header) (target : Identity)
  | offerFrame (dev : Nat) (header : Header) (controller : Identity) (seconds : Byte)
  | settledFrame (dev : Nat) (header : Header) (outcome : SettledOutcome)
  | claimFrame (dev : Nat) (header : Header) (scope : Scope)
  | clearFrame (dev : Nat) (header : Header) (sent : Byte)
  | voiceFrame (dev : Nat) (header : Header) (number : Byte) (block : List CodecFrame)
  | noteFrame (dev : Nat) (header : Header) (text : List Byte)
  | probeFrame (dev : Nat) (header : Header) (pattern : List Byte)
  | echoFrame (dev : Nat) (header : Header) (quality : Byte) (rate : Rate) (pattern : List Byte)
  | presentFrame (dev : Nat) (header : Header)
  | dormantFrame (dev : Nat) (header : Header)
  | keyFrame
  | leadEnd
  | wakePreambleEnd
  | frameSent
  | entryEligible
  | jamDetected
  | disagreeTimeout
  | peerAgeOut (peer : Identity)
  | conflictDeadline
  | probeTimeout
  | bindWaitExpiry (slot : Fin 4)
  | standbyAgeOut (slot : Fin 4)
  | answerWaitExpiry (slot : Fin 4)
  | retryWaitExpiry (slot : Fin 4)
  | checkDue (slot : Fin 4)
  | periodClose (slot : Fin 4)
  | abandon (slot : Fin 4)
  | offerRepeat
  | transferLapse
  | offerExpiry (slot : Fin 4)
  | haltMemoryExpiry (originator : Identity) (number : Byte)
  | strobeStart
  | strobeEnd
  | tackRise
  | tackFall
  | ackLimitExpiry
  | releaseLimitExpiry
  | inputSampled (sample : InputSample)
  | audioFrameBoundary (codec : CodecFrame)
  | floorTimeout
  | dormancyDelayExpiry
  | sniffWindowOpen
  | sniffWindowClose
  | loopTestEnd (full half quarter : LoopReading)
  | stoplineStep (aStop bStop : Bool)
  | stoplineTestEnd
  | timerTestEnd
  | reportTimeout
  | preambleBitMeasured (us : Nat)
deriving DecidableEq, Repr

end Sys2Proof
end

