-- ==== Sys2Proof/Machine/Frames.lean ====
section
/-! DEFINITION. The yard frame: codes of its fields, the classes and modes of its kinds, its bytes on the air, what makes a
checked frame malformed, its check, and its air time (01 The Yard Frame). -/

namespace Sys2Proof.Machine

/-! ## Codes (01, Byte Layouts) -/

/-- Line rate code: FULL 0, HALF 1, QUARTER 2. -/
def rateCode : Rate → Byte
  | .full => 0 | .half => 1 | .quarter => 2

/-- The rate of a code. -/
def rateOfCode (c : Byte) : Option Rate :=
  if c = 0 then some .full else if c = 1 then some .half else if c = 2 then some .quarter else none

/-- Role code: OPERATOR 0, ASSIST 1, TRACTION 2. -/
def roleCode : Role → BitVec 2
  | .operator => 0 | .assist => 1 | .traction => 2

/-- The role of a code. -/
def roleOfCode (c : BitVec 2) : Option Role :=
  if c = 0 then some .operator else if c = 1 then some .assist else if c = 2 then some .traction else none

/-- Destination mode code: UNIT 0, CREW 1, YARD 2. -/
def modeCode : DestMode → BitVec 2
  | .unit => 0 | .crew => 1 | .yard => 2

/-- The destination mode of a code. -/
def modeOfCode (c : BitVec 2) : Option DestMode :=
  if c = 0 then some .unit else if c = 1 then some .crew else if c = 2 then some .yard else none

/-- Scope code: CREW 1, YARD 2. -/
def scopeCode : Scope → Byte
  | .crew => 1 | .yard => 2

/-- The scope of a code. -/
def scopeOfCode (c : Byte) : Option Scope :=
  if c = 1 then some .crew else if c = 2 then some .yard else none

/-- The destination mode of a scope. -/
def scopeMode : Scope → DestMode
  | .crew => .crew | .yard => .yard

/-- Kind codes (01, Kind codes). -/
def kindCode : Kind → Byte
  | .halt => 0x01 | .move => 0x10 | .check => 0x11 | .status => 0x12 | .answer => 0x13 | .resume => 0x14
  | .bindAsk => 0x20 | .bindReply => 0x21 | .take => 0x22 | .release => 0x23 | .handover => 0x24 | .offer => 0x25
  | .settled => 0x26 | .claim => 0x30 | .clear => 0x31 | .voice => 0x32 | .note => 0x40 | .probe => 0x41
  | .echo => 0x42 | .present => 0x43 | .dormant => 0x44

/-- The 21 kinds, in the order of the kind table (R14). -/
def allKinds : List Kind :=
  [.halt, .move, .check, .status, .answer, .resume, .bindAsk, .bindReply, .take, .release, .handover, .offer, .settled,
   .claim, .clear, .voice, .note, .probe, .echo, .present, .dormant]

/-- The kind of a code, if the code is in the kind list (R9). -/
def kindOfCode (c : Byte) : Option Kind :=
  allKinds.find? (fun k => kindCode k == c)

/-- Outcome code: ACCEPTED 0, BUSY 1, REFUSED 2. -/
def verdictCode : Verdict → Byte
  | .accepted => 0 | .busy => 1 | .refused => 2

/-- The outcome of a code. -/
def verdictOfCode (c : Byte) : Option Verdict :=
  if c = 0 then some .accepted else if c = 1 then some .busy else if c = 2 then some .refused else none

/-- Reason codes (R16). -/
def reasonCode : Reason → Byte
  | .held => 1 | .notBound => 2 | .notOffered => 3 | .full => 4 | .crew => 5 | .role => 6 | .moving => 7
  | .untested => 8 | .stopped => 9 | .state => 10 | .rate => 11 | .declined => 12

/-- The twelve reasons, in the order of their codes (R16). -/
def allReasons : List Reason :=
  [.held, .notBound, .notOffered, .full, .crew, .role, .moving, .untested, .stopped, .state, .rate, .declined]

/-- The reason of a code. -/
def reasonOfCode (c : Byte) : Option Reason :=
  allReasons.find? (fun r => reasonCode r == c)

/-- SETTLED outcome code: COMPLETED 0, LAPSED 1, DECLINED 2. -/
def settledCode : SettledOutcome → Byte
  | .completed => 0 | .lapsed => 1 | .declined => 2

/-- The SETTLED outcome of a code. -/
def settledOfCode (c : Byte) : Option SettledOutcome :=
  if c = 0 then some .completed else if c = 1 then some .lapsed else if c = 2 then some .declined else none

/-- A yes or no field: 01h yes, 00h no. -/
def flagCode (b : Bool) : Byte := if b then 1 else 0

/-- A yes or no field read back. -/
def flagOfCode (c : Byte) : Option Bool :=
  if c = 1 then some true else if c = 0 then some false else none

/-! ## Byte order: most significant byte first (R1) -/

/-- A number as two bytes. -/
def be16 (n : Nat) : List Byte := [BitVec.ofNat 8 (n / 256), BitVec.ofNat 8 n]

/-- A number as four bytes. -/
def be32 (n : Nat) : List Byte := be16 (n / 65536) ++ be16 n

/-- An identity as three bytes. -/
def identityBytes (i : BitVec 24) : List Byte := [i.extractLsb' 16 8, i.extractLsb' 8 8, i.extractLsb' 0 8]

/-- Three bytes as an identity. -/
def identityOf (a b c : Byte) : BitVec 24 := a ++ b ++ c

/-- The six bytes of a codec frame, byte 0 first (R150). -/
def codecBytes (c : CodecFrame) : List Byte :=
  [c.extractLsb' 40 8, c.extractLsb' 32 8, c.extractLsb' 24 8, c.extractLsb' 16 8, c.extractLsb' 8 8, c.extractLsb' 0 8]

/-- The bytes of a voice block, oldest codec frame first (01, Central bodies). -/
def blockBytes (b : List CodecFrame) : List Byte := b.flatMap codecBytes

/-- Bytes read as codec frames of six; `none` when some are left over. -/
def codecFramesOf : List Byte → Option (List CodecFrame)
  | [] => some []
  | a :: b :: c :: d :: e :: f :: rest => (codecFramesOf rest).map ((a ++ b ++ c ++ d ++ e ++ f : CodecFrame) :: ·)
  | _ => none

/-! ## The movement record (R15; 01, Movement record) -/

/-- Direction code: NEUTRAL 0, FORWARD 1, REVERSE 2. -/
def directionCode : Direction → BitVec 2
  | .neutral => 0 | .forward => 1 | .reverse => 2

/-- Brake code: RELEASED 0, LIGHT 1, FULL-SERVICE 2. -/
def brakeCode : Brake → BitVec 2
  | .released => 0 | .light => 1 | .fullService => 2

/-- The ten bits of a record, as MOVE carries them and TCMD9..TCMD0 drive them: direction 9..8, speed step 7..5, brake 4..3,
horn 2, uncouple 1, sand 0. -/
def recordBits (r : MoveRecord) : BitVec 10 :=
  directionCode r.direction ++ r.step ++ brakeCode r.brake ++ BitVec.ofBool r.horn ++ BitVec.ofBool r.uncouple
    ++ BitVec.ofBool r.sand

/-- The two body bytes of a record: bits 15..10 are 0. -/
def recordWord (r : MoveRecord) : BitVec 16 := (recordBits r).setWidth 16

/-- The record that two bytes hold; `none` for a value outside its field's list or a non-zero bit in bits 15..10. -/
def recordOfWord (w : BitVec 16) : Option MoveRecord :=
  if w.extractLsb' 10 6 ≠ 0 then none else
  let direction : Option Direction :=
    let d := w.extractLsb' 8 2
    if d = 0 then some .neutral else if d = 1 then some .forward else if d = 2 then some .reverse else none
  let brake : Option Brake :=
    let b := w.extractLsb' 3 2
    if b = 0 then some .released else if b = 1 then some .light else if b = 2 then some .fullService else none
  match direction, brake with
  | some d, some b =>
    some { direction := d, step := w.extractLsb' 5 3, brake := b, horn := w.getLsbD 2, uncouple := w.getLsbD 1,
           sand := w.getLsbD 0 }
  | _, _ => none

/-- The safe record: NEUTRAL, speed step 0, FULL-SERVICE, horn off, uncouple no, sand off (R15). -/
def safeRecord : MoveRecord :=
  { direction := .neutral, step := 0, brake := .fullService, horn := false, uncouple := false, sand := false }

/-! ## Kinds, classes and modes (R13, R14) -/

/-- The access class of a queued frame (R13). VOICE is not held in the queue. -/
inductive AccessClass where
  | c0 | c1 | c2
deriving DecidableEq, Repr

/-- The number of a class; a greater number is a lower urgency. -/
def classNum : AccessClass → Nat
  | .c0 => 0 | .c1 => 1 | .c2 => 2

/-- The kind of a body. -/
def bodyKind : Body → Kind
  | .halt .. => .halt | .move .. => .move | .check .. => .check | .status .. => .status | .answer .. => .answer
  | .resume => .resume | .bindAsk => .bindAsk | .bindReply .. => .bindReply | .take .. => .take
  | .release .. => .release | .handover .. => .handover | .offer .. => .offer | .settled .. => .settled
  | .claim .. => .claim | .clear .. => .clear | .voice .. => .voice | .note .. => .note | .probe .. => .probe
  | .echo .. => .echo | .present => .present | .dormant => .dormant

/-- The kind of a frame. -/
def frameKind (f : Frame) : Kind := bodyKind f.body

/-- The class of a kind (R14). -/
def kindClass : Kind → AccessClass
  | .halt => .c0
  | .move | .check | .status | .answer | .resume => .c1
  | _ => .c2

/-- The destination modes a kind allows (R14). -/
def modeAllowed : Kind → DestMode → Bool
  | .halt, m | .claim, m | .clear, m | .voice, m => m != .unit
  | .note, _ => true
  | .present, m | .dormant, m => m == .crew
  | _, m => m == .unit

/-! ## Malformed frames (R9) -/

/-- An identity that no unit holds: 000000h or FFFFFFh. -/
def noUnit (i : Identity) : Bool := i == 0 || i == 0xFFFFFF

/-- A crew code lies in 1..250. -/
def crewValid (c : Byte) : Bool := decide (1 ≤ c.toNat) && decide (c.toNat ≤ 250)

/-- The destination field has the form its mode requires (R12). -/
def destValid (m : DestMode) (d : BitVec 24) : Bool :=
  match m with
  | .unit => !noUnit d
  | .crew => d.extractLsb' 8 16 == 0 && crewValid (d.extractLsb' 0 8)
  | .yard => d == 0

/-- An effective period in units of 100 ms lies in 4..20. -/
def unitsValid (u : Byte) : Bool := decide (4 ≤ u.toNat) && decide (u.toNat ≤ 20)

/-- Every field of the body lies in its list, and a field whose presence depends on another agrees with it (R9, R14, R16). -/
def bodyValid (m : DestMode) : Body → Bool
  | .halt _ _ copy _ => decide (copy.toNat ≤ 2)
  | .check _ units => unitsValid units
  | .answer _ _ verdict reason => (verdict == .refused) == reason.isSome
  | .bindReply verdict reason _ _ _ => verdict != .busy && (verdict == .refused) == reason.isSome
  | .take units _ => unitsValid units
  | .offer _ seconds => decide (seconds.toNat ≤ 15)
  | .claim scope => scopeMode scope == m
  | .clear sent => decide (sent.toNat ≤ 75)
  | .voice _ block => block.length == 10
  | .note text => decide (1 ≤ text.length) && decide (text.length ≤ 48)
  | .probe pattern => decide (pattern.length ≤ 16)
  | .echo quality _ pattern => decide (quality.toNat ≤ 7) && decide (pattern.length ≤ 16)
  | .move _ | .status _ | .resume | .bindAsk | .release _ | .handover _ | .settled _ | .present | .dormant => true

/-- A checked frame is well formed (R9). -/
def frameWellFormed (f : Frame) : Bool :=
  !noUnit f.header.sender && crewValid f.header.crew && modeAllowed (frameKind f) f.header.mode
    && destValid f.header.mode f.header.dest && bodyValid f.header.mode f.body

/-! ## Bytes on the air (01, Byte Layouts) -/

/-- The last byte of a STATUS: last accepted sequence in bits 7..4, its presence in bit 3, speed band in bits 2..0. -/
def statusTail (seq : Option (BitVec 4)) (speed : BitVec 3) : Byte :=
  seq.getD 0 ++ BitVec.ofBool seq.isSome ++ speed

/-- The bytes of a body. -/
def bodyBytes : Body → List Byte
  | .halt originator number copy relay => identityBytes originator ++ [number, copy, flagCode relay]
  | .move record => [(recordWord record).extractLsb' 8 8, (recordWord record).extractLsb' 0 8]
  | .check number units => [number, units]
  | .status f =>
    [f.check, flagCode f.standstill, flagCode f.stopAsserted, flagCode f.portFailed, flagCode f.transferPending,
     (f.causes.setWidth 16).extractLsb' 8 8, (f.causes.setWidth 16).extractLsb' 0 8, statusTail f.lastSeq f.speed]
  | .answer kind seq verdict reason =>
    [kindCode kind, seq.setWidth 8, verdictCode verdict] ++ (reason.map reasonCode).toList
  | .resume | .bindAsk | .present | .dormant => []
  | .bindReply verdict reason rate standstill controlled =>
    [verdictCode verdict, (reason.map reasonCode).getD 0, rateCode rate, flagCode standstill, flagCode controlled]
  | .take units byTransfer => [units, flagCode byTransfer]
  | .release unbind => [flagCode unbind]
  | .handover target => identityBytes target
  | .offer controller seconds => identityBytes controller ++ [seconds]
  | .settled outcome => [settledCode outcome]
  | .claim scope => [scopeCode scope]
  | .clear sent => [sent]
  | .voice number block => number :: blockBytes block
  | .note text => text
  | .probe pattern => pattern
  | .echo quality rate pattern => quality :: rateCode rate :: pattern

/-- The ten header bytes of a frame. -/
def headerBytes (f : Frame) : List Byte :=
  [kindCode (frameKind f), f.header.seq ++ modeCode f.header.mode ++ roleCode f.header.role]
    ++ identityBytes f.header.sender ++ [f.header.crew] ++ identityBytes f.header.dest
    ++ [BitVec.ofBool f.header.authority ++ BitVec.ofNat 7 (bodyBytes f.body).length]

/-- Header and body of a frame in the order sent (R1, R2). -/
def frameBytes (f : Frame) : List Byte := headerBytes f ++ bodyBytes f.body

/-- A four-bit sequence from the low half of a byte whose high half is 0. -/
def seqOfByte (b : Byte) : Option (BitVec 4) :=
  if b.extractLsb' 4 4 = 0 then some (b.extractLsb' 0 4) else none

/-- The body that the bytes of a kind hold; `none` where a field is outside its list or a bit that carries no field is 1
(log 22). -/
def bodyOfBytes : Kind → List Byte → Option Body
  | .halt, [a, b, c, number, copy, relay] => (flagOfCode relay).map (.halt (identityOf a b c) number copy ·)
  | .move, [a, b] => (recordOfWord (a ++ b)).map .move
  | .check, [number, units] => some (.check number units)
  | .status, [check, still, stop, failed, pending, hi, lo, tail] => do
    let still ← flagOfCode still
    let stop ← flagOfCode stop
    let failed ← flagOfCode failed
    let pending ← flagOfCode pending
    let causes : BitVec 16 := hi ++ lo
    if causes.extractLsb' 9 7 ≠ 0 then none else
    let seq := tail.extractLsb' 4 4
    let present := tail.getLsbD 3
    if !present && seq != 0 then none else
    some (.status { check := check, standstill := still, stopAsserted := stop, portFailed := failed,
                    transferPending := pending, causes := causes.setWidth 9, speed := tail.extractLsb' 0 3,
                    lastSeq := if present then some seq else none })
  | .answer, [kind, seq, verdict] => do
    some (.answer (← kindOfCode kind) (← seqOfByte seq) (← verdictOfCode verdict) none)
  | .answer, [kind, seq, verdict, reason] => do
    some (.answer (← kindOfCode kind) (← seqOfByte seq) (← verdictOfCode verdict) (some (← reasonOfCode reason)))
  | .resume, [] => some .resume
  | .bindAsk, [] => some .bindAsk
  | .bindReply, [verdict, reason, rate, still, controlled] => do
    let verdict ← verdictOfCode verdict
    let reason ← if reason = 0 then some none else (reasonOfCode reason).map some
    some (.bindReply verdict reason (← rateOfCode rate) (← flagOfCode still) (← flagOfCode controlled))
  | .take, [units, byTransfer] => (flagOfCode byTransfer).map (.take units ·)
  | .release, [unbind] => (flagOfCode unbind).map .release
  | .handover, [a, b, c] => some (.handover (identityOf a b c))
  | .offer, [a, b, c, seconds] => some (.offer (identityOf a b c) seconds)
  | .settled, [outcome] => (settledOfCode outcome).map .settled
  | .claim, [scope] => (scopeOfCode scope).map .claim
  | .clear, [sent] => some (.clear sent)
  | .voice, number :: rest => (codecFramesOf rest).map (.voice number ·)
  | .note, text => some (.note text)
  | .probe, pattern => some (.probe pattern)
  | .echo, quality :: rate :: pattern => (rateOfCode rate).map (.echo quality · pattern)
  | .present, [] => some .present
  | .dormant, [] => some .dormant
  | _, _ => none

/-- The frame that checked bytes hold; `none` when the frame is malformed (R9). -/
def frameOfBytes : List Byte → Option Frame
  | kind :: b1 :: s2 :: s1 :: s0 :: crew :: d2 :: d1 :: d0 :: b9 :: body => do
    let kind ← kindOfCode kind
    let mode ← modeOfCode (b1.extractLsb' 2 2)
    let role ← roleOfCode (b1.extractLsb' 0 2)
    if (b9.extractLsb' 0 7).toNat ≠ body.length then none else
    let body ← bodyOfBytes kind body
    let f : Frame :=
      { header := { sender := identityOf s2 s1 s0, role := role, authority := b9.getLsbD 7, seq := b1.extractLsb' 4 4,
                    crew := crew, mode := mode, dest := identityOf d2 d1 d0 }
        body := body }
    if frameWellFormed f then some f else none
  | _ => none

/-! ## The check (R3) -/

/-- One bit of the check: shift left, and apply 1021h when the bit shifted out differs from the bit taken in. -/
def crcBit (reg : BitVec 16) (bit : Bool) : BitVec 16 :=
  if (reg.msb != bit) then (reg <<< 1) ^^^ 0x1021 else reg <<< 1

/-- One byte of the check, most significant bit first. -/
def crcByte (reg : BitVec 16) (b : Byte) : BitVec 16 :=
  [7, 6, 5, 4, 3, 2, 1, 0].foldl (fun r i => crcBit r (b.getLsbD i)) reg

/-- The check over header and body, from FFFFh (R3). -/
def frameCheck (bytes : List Byte) : BitVec 16 := bytes.foldl crcByte 0xFFFF

/-- What goes to the air after the sync word: header, body and check (R2). -/
def wireBytes (f : Frame) : List Byte :=
  let c := frameCheck (frameBytes f)
  frameBytes f ++ [c.extractLsb' 8 8, c.extractLsb' 0 8]

/-- The sync word (01, The frame on the air). -/
def syncWord : BitVec 16 := 0x1B4E

/-! ## Air time (R2) -/

/-- The bit period of a rate in units of 1/24 ms: 1/4800 s is 5 of them. The handbook gives each rate both as bits per
second and as a nominal bit in whole µs; the bit periods here are those of the bits per second, the model's choice (log
28). -/
def bitUnits : Rate → Nat
  | .full => 5 | .half => 10 | .quarter => 20

/-- So many bits at a rate in milliseconds, rounded to the nearest (log 4). -/
def bitsMs (rate : Rate) (bits : Nat) : Nat := (bits * bitUnits rate + 12) / 24

/-- The key-up lead in ms (R2). -/
def leadMs : Nat := 5

/-- The alternating preamble of a wake burst in ms (R2, R30). -/
def wakeMs : Nat := 1200

/-- The air time of a frame in ms: the lead, the preamble of 16 bits or the wake preamble, and the rest (R2). -/
def airMs (f : Frame) (rate : Rate) (wake : Bool) : Nat :=
  let n := (wireBytes f).length
  if wake then leadMs + wakeMs + bitsMs rate (8 * n + 16) else leadMs + bitsMs rate (8 * n + 32)

/-! ## Bits on the line (R1, R2, R30) -/

/-- The bits of a byte, most significant first (R1). -/
def byteBits (b : Byte) : List Bool :=
  [b.getLsbD 7, b.getLsbD 6, b.getLsbD 5, b.getLsbD 4, b.getLsbD 3, b.getLsbD 2, b.getLsbD 1, b.getLsbD 0]

/-- The bits of bytes in the order sent (R1). -/
def bytesBits (bs : List Byte) : List Bool := bs.flatMap byteBits

/-- How many alternating bits come before the sync word: 16, or those of 1200 ms at the rate in a wake burst (R2, R30). -/
def preambleLength (rate : Rate) (wake : Bool) : Nat := if wake then wakeMs * 24 / bitUnits rate else 16

/-- Alternating bits that begin with a one (R2, R30). -/
def preambleBits (n : Nat) : List Bool := (List.range n).map (fun i => i % 2 == 0)

/-- The bits of a frame after the key-up lead: preamble, sync word, header, body and check, without a gap (R2). -/
def frameBits (f : Frame) (rate : Rate) (wake : Bool) : List Bool :=
  preambleBits (preambleLength rate wake) ++ bytesBits [syncWord.extractLsb' 8 8, syncWord.extractLsb' 0 8]
    ++ bytesBits (wireBytes f)

/-- How slow a rate is: 0 FULL, 1 HALF, 2 QUARTER. -/
def slowness : Rate → Nat
  | .full => 0 | .half => 1 | .quarter => 2

/-- The slower of two rates. -/
def slower (a b : Rate) : Rate := if slowness a ≤ slowness b then b else a

/-- The faster of two rates. -/
def faster (a b : Rate) : Rate := if slowness a ≤ slowness b then a else b

/-- The quality class of a frame from its largest deviation in whole sixteenths of a bit (R8). -/
def qualityClass (dev : Nat) : Nat := 7 - dev

end Sys2Proof.Machine
end

