-- ==== Sys2Proof/Machine/Operands.lean ====
section
/-! DEFINITION. Judging the operands of commands: the command table's parameter counts, and the parameters of CONFIGURE
(01, Host link packets; R181, R182). -/

namespace Sys2Proof.Machine

/-- The least and greatest count of parameters a command code takes; `none` for a code not in the command table (R181). -/
def commandCounts (code : Byte) : Option (Nat × Nat) :=
  match code.toNat with
  | 0x01 | 0x03 | 0x04 | 0x21 | 0x22 | 0x31 | 0x51 | 0x52 | 0x60 | 0x63 => some (0, 0)
  | 0x02 => some (11, 11)
  | 0x10 | 0x11 | 0x12 | 0x13 | 0x15 | 0x17 | 0x18 => some (3, 3)
  | 0x14 => some (5, 5)
  | 0x16 => some (6, 6)
  | 0x20 | 0x30 | 0x50 | 0x61 | 0x62 => some (1, 1)
  | 0x40 => some (5, 52)
  | 0x41 => some (3, 19)
  | _ => none

/-- A packet whose code is in the command table and whose count of parameters that command takes (R181, case 2). -/
def packetKnown (code : Byte) (count : Nat) : Bool :=
  match commandCounts code with
  | some (least, most) => decide (least ≤ count) && decide (count ≤ most)
  | none => false

/-- The configuration record: the eleven fields as they act (R182). -/
structure ConfigRec where
  role : Role
  crew : Byte
  rate : Rate
  authority : Bool
  /-- Supervision period in ms. -/
  period : Nat
  /-- Dormancy delay in ms; 0 for never. -/
  dormancy : Nat
  /-- Talk limit in blocks. -/
  talkLimit : Nat
  jamStops : Bool
  selects : BitVec 7
  /-- Report threshold in records. -/
  threshold : Nat
  /-- Report timeout in ms. -/
  timeout : Nat
deriving DecidableEq, Repr

/-- What the fields read as while no record is present. Before the first CONFIGURE SRQ uses the threshold of 4 and the
timeout of 50 ms (R182); the other fields act from START only, and START needs a record (log 25). -/
def defaultConfig : ConfigRec :=
  { role := .operator, crew := 0, rate := .full, authority := false, period := 600, dormancy := 0, talkLimit := 40,
    jamStops := false, selects := 0, threshold := 4, timeout := 50 }

/-- A byte in a range, or the default that 00h stands for. -/
def rangeOr (b : Byte) (least most default : Nat) : Option Nat :=
  if b = 0 then some default else if least ≤ b.toNat ∧ b.toNat ≤ most then some b.toNat else none

/-- The record that eleven parameters make; `none` if any lies outside its column (R182). -/
def configOfParams (p : ConfigParams) : Option ConfigRec := do
  let role ← if p.role.toNat < 4 then roleOfCode (p.role.setWidth 2) else none
  let crew ← if crewValid p.crew then some p.crew else none
  let rate ← rateOfCode p.rate
  let authority ← flagOfCode p.authority
  let period ← rangeOr p.period 4 20 6
  let dormancy ← rangeOr p.dormancy 3 60 0
  let talkLimit ← rangeOr p.talkLimit 10 75 40
  let jamStops ← flagOfCode p.jamStops
  let selects ← if p.selects.msb then none else some (p.selects.setWidth 7)
  let threshold ← rangeOr p.threshold 1 16 4
  let timeout ← rangeOr p.timeout 10 250 50
  some { role := role, crew := crew, rate := rate, authority := authority, period := period * 100,
         dormancy := dormancy * 10000, talkLimit := talkLimit, jamStops := jamStops, selects := selects,
         threshold := threshold, timeout := timeout }

end Sys2Proof.Machine
end

