-- ==== Sys2Proof/WellFormed.lean ====
section
/-! DEFINITION. The checks that make a command one its row of the table describes. A command that fails its check cannot
come from the hardware's surroundings as that row; what exec then does is said at its meaning (a packet with a wrong count
is answered BAD, a malformed frame acts as MALFORMED_FRAME, and an event that did not happen changes nothing). -/

namespace Sys2Proof

/-- The frame that a received-frame command carries. -/
def Instr.frame? : Instr → Option Frame
  | .haltFrame _ h originator number copy relay => some ⟨h, .halt originator number copy relay⟩
  | .moveFrame _ h record => some ⟨h, .move record⟩
  | .checkFrame _ h number units => some ⟨h, .check number units⟩
  | .statusFrame _ h fields => some ⟨h, .status fields⟩
  | .answerFrame _ h kind seq verdict reason => some ⟨h, .answer kind seq verdict reason⟩
  | .resumeFrame _ h => some ⟨h, .resume⟩
  | .bindAskFrame _ h => some ⟨h, .bindAsk⟩
  | .bindReplyFrame _ h verdict reason rate standstill controlled =>
    some ⟨h, .bindReply verdict reason rate standstill controlled⟩
  | .takeFrame _ h units byTransfer => some ⟨h, .take units byTransfer⟩
  | .releaseFrame _ h flag => some ⟨h, .release flag⟩
  | .handoverFrame _ h target => some ⟨h, .handover target⟩
  | .offerFrame _ h controller seconds => some ⟨h, .offer controller seconds⟩
  | .settledFrame _ h outcome => some ⟨h, .settled outcome⟩
  | .claimFrame _ h scope => some ⟨h, .claim scope⟩
  | .clearFrame _ h sent => some ⟨h, .clear sent⟩
  | .voiceFrame _ h number block => some ⟨h, .voice number block⟩
  | .noteFrame _ h text => some ⟨h, .note text⟩
  | .probeFrame _ h pattern => some ⟨h, .probe pattern⟩
  | .echoFrame _ h quality rate pattern => some ⟨h, .echo quality rate pattern⟩
  | .presentFrame _ h => some ⟨h, .present⟩
  | .dormantFrame _ h => some ⟨h, .dormant⟩
  | _ => none

/-- The count of parameters of a host command with text or pattern is one the command takes (R181, case 2). -/
def Instr.countsTaken : Instr → Bool
  | .note _ _ text => Machine.packetKnown 0x40 (4 + text.length)
  | .probe _ pattern => Machine.packetKnown 0x41 (3 + pattern.length)
  | .unknownCommand code params => !Machine.packetKnown code params.length
  | _ => true

/-- What a modem event says happened is what its rule calls so: the samples equal the sync word, the failing bit is longer
than the QUARTER maximum, 24 bits have passed, the bytes of a malformed frame hold no frame (R4, R5, R9). -/
def Instr.eventHappened : Instr → Bool
  | .syncWordFound samples => samples == Machine.syncWord
  | .huntFailed (.longBit us) => decide (1040 < us)
  | .huntFailed (.windowPassed bits) => decide (24 ≤ bits)
  | .malformedFrame bytes => (Machine.frameOfBytes bytes).isNone
  | _ => true

/-- A received frame is well formed (R9). -/
def Instr.frameValid (i : Instr) : Bool :=
  match i.frame? with
  | some f => Machine.frameWellFormed f
  | none => true

/-- The command is one its row describes. -/
def Instr.wellFormed (i : Instr) : Bool := i.countsTaken && i.eventHappened && i.frameValid

end Sys2Proof
end

