-- ==== Sys2Proof/Decode.lean ====
section
/-! DEFINITION. Decoding a word of the opcode table. spec/opcode_table.json gives no row of this block any bits: a command is
no word but an event on its lines. So no word spells a command. -/

namespace Sys2Proof

/-- The command that a word of so many bits spells: none, since the table gives no row any bits. -/
def decodeTableWord (_nbits _w : Nat) : Option Instr := none

end Sys2Proof
end

