-- ==== Sys2Proof/Config.lean ====
section
/-! DEFINITION. What a particular part and its surroundings fix, as constants with no body: the unit identity, the draws of
the backoff generator, and the levels and readings that no command carries. Nothing in Lean knows a value of any of them. -/

namespace Sys2Proof.Config

/-- The fused unit identity, less one: the 24-bit identities other than 000000h and FFFFFFh are 1..FFFFFEh
(00, Terms: unit identity). FREE VALUE, log 7. -/
opaque unitCode : Fin 16777214

/-- The unit identity fused into this part (00, Terms: unit identity; R183). -/
def unitIdentity : Identity := BitVec.ofNat 24 (unitCode.val + 1)

/-- The n-th number drawn since reset by the generator seeded from a unit identity (R24, R126). FREE VALUE, log 8. -/
opaque draw : Identity → Nat → Nat

/-- The level of TSTILL at a millisecond of the station clock, after so many resets, read before TSTILL has a sampled
value (R137). FREE VALUE, log 9. -/
opaque stillLevel : Nat → Nat → Bool

/-- The level of TRDY, read before it has a sampled value (R137). FREE VALUE, log 9. -/
opaque readyLevel : Nat → Nat → Bool

/-- The three TSPD lines, read before they have a sampled value (R137). FREE VALUE, log 9. -/
opaque speedLevel : Nat → Nat → BitVec 3

/-- The codec frame that ADI carried in the frame ending at a millisecond, when the boundary comes of itself (R150).
FREE VALUE, log 10. -/
opaque codecIn : Nat → Nat → CodecFrame

/-- Whether STOPA-RB shows stop when a STOPLINE step comes of itself (R177). FREE VALUE, log 10. -/
opaque readbackA : Nat → Nat → Bool

/-- Whether STOPB-RB shows stop when a STOPLINE step comes of itself (R177). FREE VALUE, log 10. -/
opaque readbackB : Nat → Nat → Bool

/-- The times in µs between the transitions of the preamble that the looped hunter measured of the LOOP test frame of a
rate (0 FULL, 1 HALF, 2 QUARTER), when the test ends of itself (R176). FREE VALUE, log 10. -/
opaque loopBitTimes : Nat → Nat → Nat → List Nat

/-- The samples that the looped hunter took of the LOOP test frame of a rate, when the test ends of itself (R176). FREE
VALUE, log 10. -/
opaque loopSamples : Nat → Nat → Nat → List Bool

/-- How many units of 0.1 ms the supervision timer counts in a millisecond of the station clock (R178: it runs from an
oscillator of its own). FREE VALUE, log 11. -/
opaque supTimerAdvance : Nat → Nat → Nat

end Sys2Proof.Config
end

