-- ==== Sys2Proof/Machine/State.lean ====
section
/-! DEFINITION. The state of the station, block by block as the handbook owns it, as plain data; the reasons a step could
stop; and the state right after reset. Times are milliseconds of the station clock, counted without wrapping (log 1). -/

namespace Sys2Proof.Machine

/-- The station stops with no fault: no rule of the handbook stops the part (INVENTORY, Faults). No constructor. -/
inductive Fault where
deriving DecidableEq, Repr

/-- The model has no meaning for a command. Raised by an arm of `exec` whose command is not modelled yet (safe); every
command of the table has its meaning, so no arm raises it. -/
inductive Refusal where
  | notModelled (mnemonic : String)
deriving DecidableEq, Repr

/-! ## Inputs -/

/-- Levels of the input lines whose changes are commands: CDET (R19), TACK (R134), HSEL (R180). -/
structure Pins where
  cdet : Bool
  tack : Bool
  hsel : Bool
deriving DecidableEq, Repr

/-! ## Modem and rate hunter (01) -/

/-- The receive state with its current rate entry, count of bits and time stamp (R4 to R8). -/
inductive RxState where
  | hunting
  | locking (entry : Rate) (bits : Nat)
  | locked (entry : Rate) (bits : Nat)
  | inFrame (entry : Rate) (bits : Nat) (stamp : Nat)
deriving DecidableEq, Repr

/-! ## Channel access unit (02) -/

/-- The channel view (R19). -/
inductive ChanView where
  | free (since : Nat)
  | busy
  | own
deriving DecidableEq, Repr

/-- The owner tag of a queued frame: the block that offered it and the record to be told of its fate (R21). -/
inductive OwnerTag where
  | request (slot : Fin 4) (kind : Kind) (seq : BitVec 4)
  | check (slot : Fin 4)
  | status | answer | bindReply | settled
  | offer
  | haltCopy (number : Byte) (copy : Nat)
  | relay (originator : Identity) (number : Byte)
  | claim | clear
  | dormantNotice | present
  | probe | echo
  | note
deriving DecidableEq, Repr

/-- An entry of the transmit queue (02, The Transmit Queue). `withdrawn`: a removal was answered ON AIR, so a cut takes the
entry out (R32). `eligibleTaken`: the moment its not-before time was reached has been taken (R23). -/
structure QEntry where
  frame : Frame
  cls : AccessClass
  entryTime : Nat
  notBefore : Option Nat
  needsWake : Bool
  rate : Rate
  k : Option Nat
  tag : OwnerTag
  onAir : Bool
  withdrawn : Bool
  eligibleTaken : Bool
deriving DecidableEq, Repr

/-- The phases of the frame on air (R28). -/
inductive AirPhase where
  | lead | wake | preamble | frame
deriving DecidableEq, Repr

/-- The frame on air (R28): the frame, its rate, whether it is a wake burst, the number of the voice block if it is one. -/
structure OnAir where
  frame : Frame
  rate : Rate
  wake : Bool
  voice : Option Byte
  keyedAt : Nat
  phase : AirPhase
deriving DecidableEq, Repr

/-- A spell of carrier and whether JAM became live in it (R36). -/
structure Spell where
  start : Nat
  jam : Bool
deriving DecidableEq, Repr

/-- What the channel access unit keeps (02). -/
structure Chan where
  view : ChanView
  queue : List QEntry
  onAir : Option OnAir
  spell : Option Spell
deriving DecidableEq, Repr

/-! ## Peer table (03) -/

/-- A peer entry (03, The Peer Entry). Pinned is not stored (R39). -/
structure PeerEntry where
  id : Identity
  role : Option Role
  crew : Option Byte
  rate : Rate
  quality : Option Nat
  lastHeard : Option Nat
  created : Nat
  dormant : Bool
deriving DecidableEq, Repr

/-- The conflict deadline and the identity that was told live (R47, log 17). -/
structure Conflict where
  deadline : Nat
  id : Identity
deriving DecidableEq, Repr

/-- The probe record (R49). -/
inductive ProbeRec where
  | none
  | queued (target : Identity) (pattern : List Byte)
  | awaiting (target : Identity) (pattern : List Byte) (sentAt : Nat)
deriving DecidableEq, Repr

/-- What the peer table keeps (03). -/
structure PeerTable where
  entries : List PeerEntry
  conflict : Option Conflict
  probe : ProbeRec
deriving DecidableEq, Repr

/-! ## Bond unit (04, 05, 06) -/

/-- A mark of a supervision history (R91). -/
inductive Mark where
  | heard | missed
deriving DecidableEq, Repr

/-- The states of an operator-side entry (R52). -/
inductive OpState where
  | asking | standby | taking | controlling | silent | offered
deriving DecidableEq, Repr

/-- What an outstanding request asks, with what its resend must carry again (R53, R72). -/
inductive ReqBody where
  | bindAsk
  | take (byTransfer : Bool) (period : Nat)
  | release (unbind : Bool)
  | move (record : MoveRecord)
  | resume
  | handover (target : Identity)
deriving DecidableEq, Repr

/-- The phase of an outstanding request, with the end of its wait (05, Requests at the Operator). -/
inductive ReqPhase where
  | queued
  | awaiting (until_ : Nat)
  | retry (until_ : Nat)
deriving DecidableEq, Repr

/-- An outstanding request (R53). -/
structure Request where
  body : ReqBody
  seq : BitVec 4
  resends : Nat
  phase : ReqPhase
deriving DecidableEq, Repr

/-- Check number and effective period in ms, held in TAKING, CONTROLLING and SILENT (R52, R77). -/
structure OpLink where
  check : Byte
  period : Nat
deriving DecidableEq, Repr

/-- The operator's supervision: history oldest first, whether the running period was heard, the next due time (R89 to R91). -/
structure OpSup where
  history : List Mark
  heard : Bool
  due : Nat
deriving DecidableEq, Repr

/-- An offer of control: handing operator, expiry, whether the entry was made for it (R101). -/
structure Offer where
  controller : Identity
  expiry : Nat
  madeForOffer : Bool
deriving DecidableEq, Repr

/-- An operator-side entry (R52, R53). -/
structure OpEntry where
  traction : Identity
  st : OpState
  nextSeq : BitVec 4
  req : Option Request
  link : Option OpLink
  sup : Option OpSup
  offer : Option Offer
  handing : Option Identity
deriving DecidableEq, Repr

/-- The states of a traction-side entry (R54). -/
inductive TrState where
  | standby | controlling | lost
deriving DecidableEq, Repr

/-- The last accepted request with its answer (R68). -/
structure LastReq where
  kind : Kind
  seq : BitVec 4
  verdict : Verdict
  reason : Option Reason
deriving DecidableEq, Repr

/-- The traction's supervision: effective period in ms, history oldest first, heard this period, the close of the running
period (R92 to R94). -/
structure TrSup where
  period : Nat
  history : List Mark
  heard : Bool
  closeAt : Nat
deriving DecidableEq, Repr

/-- A pending transfer (R97), with the time of its next OFFER if one is to come (R100). -/
structure Transfer where
  target : Identity
  handing : Identity
  expiry : Nat
  nextOffer : Option Nat
deriving DecidableEq, Repr

/-- A traction-side entry (R54). -/
structure TrEntry where
  operator : Identity
  st : TrState
  offered : Bool
  last : Option LastReq
  sup : Option TrSup
  lostSince : Option Nat
  transfer : Option Transfer
deriving DecidableEq, Repr

/-- An entry of the bond table: operator-side or traction-side (R52). -/
inductive BondEntry where
  | op (e : OpEntry)
  | tr (e : TrEntry)
deriving DecidableEq, Repr

/-- The four slots of the bond table (R52). -/
structure Slots where
  s0 : Option BondEntry
  s1 : Option BondEntry
  s2 : Option BondEntry
  s3 : Option BondEntry
deriving DecidableEq, Repr

/-- What the bond unit keeps: the slots, and a detached transfer (R97). -/
structure BondTable where
  slots : Slots
  detached : Option Transfer
deriving DecidableEq, Repr

/-! ## Halt unit (07) -/

/-- The own halt record (R121). -/
inductive OwnHalt where
  | idle
  | sending (number : Byte) (scope : Scope) (copy : Nat)
deriving DecidableEq, Repr

/-- An entry of the halt memory; `relayQueued` is the relay state QUEUED (R122). -/
structure HaltEntry where
  originator : Identity
  number : Byte
  firstHeard : Nat
  relayQueued : Bool
deriving DecidableEq, Repr

/-- What the halt unit keeps; memory entries in the order they were made. -/
structure HaltUnit where
  own : OwnHalt
  counter : Option Byte
  memory : List HaltEntry
deriving DecidableEq, Repr

/-! ## Stop unit (07) -/

/-- The drive of a stop line; the test level is still stop to the brake equipment (R113, R177). -/
inductive LineDrive where
  | released | asserted | testLevel
deriving DecidableEq, Repr

/-- What the stop unit keeps (R112, R113). -/
structure StopUnit where
  causes : CauseSet
  stopA : LineDrive
  stopB : LineDrive
deriving DecidableEq, Repr

/-! ## Traction port (08) -/

/-- The port state with the moments it waits for (R130, R133, R134). -/
inductive PortState where
  | idle
  | setup (strobeAt : Nat)
  | strobe (endAt limit : Nat) (acked fell : Bool)
  | waitAck (limit : Nat)
  | waitRelease (limit : Nat)
  | failed
deriving DecidableEq, Repr

/-- What the traction port keeps (R130), with the sampled inputs (R137) and the disagreement input (R138). -/
structure Port where
  st : PortState
  slot : Option MoveRecord
  last : MoveRecord
  still : Option Bool
  ready : Option Bool
  speed : Option (BitVec 3)
  disagree : Bool
deriving DecidableEq, Repr

/-! ## Floor unit (09) -/

/-- Why a spurt ends (R153). -/
inductive SpurtEnd where
  | talkEnd | limit | overridden | lost
deriving DecidableEq, Repr

/-- The phase of a spurt; in CLEARING the end cause, whether the CLEAR has been offered, and the blocks left (R140, R153). -/
inductive SpurtPhase where
  | talking
  | clearing (cause : SpurtEnd) (clearOffered : Bool) (left : Nat)
deriving DecidableEq, Repr

/-- The spurt record (R140). `started`: a frame boundary has passed since the floor became OWN (R150). -/
structure Spurt where
  scope : Scope
  phase : SpurtPhase
  sent : Nat
  discarded : Nat
  nextNo : Byte
  assembly : List CodecFrame
  started : Bool
deriving DecidableEq, Repr

/-- The record of a held floor (R140). -/
structure Held where
  talker : Identity
  taken : Nat
  last : Option Byte
  missed : Nat
deriving DecidableEq, Repr

/-- The floor state (R140). A claim's pending end is TALK-END or OVERRIDDEN (R143, R149). -/
inductive FloorState where
  | free
  | claiming (scope : Scope) (pendingEnd : Option SpurtEnd)
  | own (spurt : Spurt)
  | held (record : Held)
deriving DecidableEq, Repr

/-- A completed block of own speech with its number (R151). -/
structure VoiceBlock where
  number : Byte
  frames : List CodecFrame
deriving DecidableEq, Repr

/-- What the floor unit keeps (R140, R150). `playPos`: codec frames of the oldest playout block already begun. `ado`: the
codec frame of the running 20 ms, absent before the first boundary; `boundary`: the next frame boundary, absent in INIT. -/
structure Floor where
  st : FloorState
  outlet : List VoiceBlock
  playout : List (List CodecFrame)
  playPos : Nat
  ado : Option CodecFrame
  boundary : Option Nat
deriving DecidableEq, Repr

/-! ## Station control (10, 12) -/

/-- The life state (R159). -/
inductive LifeState where
  | init | setup | active | dormant
deriving DecidableEq, Repr

/-- The dormancy notice record (R159). -/
inductive Notice where
  | idle | queued | withdrawing
deriving DecidableEq, Repr

/-- What station control keeps (R159, R164, R182). `sniff`: opening of the next sniff window; `window`: end of the open one. -/
structure Life where
  st : LifeState
  config : Option ConfigRec
  activity : Option Nat
  notice : Notice
  sniff : Option Nat
  window : Option Nat
deriving DecidableEq, Repr

/-! ## Fault monitor and test unit (11) -/

/-- What the fault monitor keeps: flags with bit n for condition code n (R168), and the ALARM line (R170). -/
structure FaultUnit where
  live : BitVec 7
  held : BitVec 7
  selects : BitVec 7
  timer : Option Nat
  alarm : Bool
deriving DecidableEq, Repr

/-- The result of a self-test (R174). -/
inductive TestResult where
  | notRun | pass | fail
deriving DecidableEq, Repr

/-- The test now running (R174). `sent`: the frame that LOOP sends at each rate (R176, log 35). `pos`: how
many of the eight moments of STOPLINE have been taken (R177); `failed`: the first failed step. `noted`: the supervision
timer's count at the start of TIMER (R178). -/
inductive RunningTest where
  | loop (start : Nat) (sent : Frame)
  | stopline (start : Nat) (pos : Nat) (failed : Option Nat)
  | timer (start : Nat) (noted : Nat)
deriving DecidableEq, Repr

/-- What the test unit keeps (R174). `gate` is true for PASS. -/
structure TestUnit where
  running : Option RunningTest
  loop : TestResult
  stopline : TestResult
  timer : TestResult
  gate : Bool
deriving DecidableEq, Repr

/-! ## Host link (12) -/

/-- The report kinds (01, Report record). -/
inductive ReportKind where
  | haltHeard | stopChange | bond | outcome | offer | settled | dormancy | floor | spurtEnd | note | echo | fault
  | testDone | authority
deriving DecidableEq, Repr

/-- A record of the report queue (R185). -/
structure Report where
  kind : ReportKind
  urgent : Bool
  lostBefore : Bool
  time : Nat
  subject : Identity
  detail : List Byte
  text : List Byte
  entryTime : Nat
deriving DecidableEq, Repr

/-- The results of an answer packet (01, Host link packets). -/
inductive ResultCode where
  | ok | busy | refused | notReady | bad | unconfigured
deriving DecidableEq, Repr

/-- An answer packet: result and data (R180, R181). -/
structure Answer where
  result : ResultCode
  data : List Byte
deriving DecidableEq, Repr

/-- What an exchange in PREPARING will answer: an answer as it stands, or a report record that FETCH returns (R186). -/
inductive Prepared where
  | plain (a : Answer)
  | record (r : Report)
deriving DecidableEq, Repr

/-- The exchange on the host link (R180). In ANSWERING, `fetch` is present while the answer to a FETCH is clocked out and
says whether its end clears the lost mark: the answer showed lost-before, and no report has been discarded since (R186). -/
inductive Exchange where
  | between
  | receiving
  | preparing (takenAt : Nat) (answer : Prepared)
  | answering (answer : Answer) (fetch : Option Bool)
deriving DecidableEq, Repr

/-- What the host link keeps (R180, R185, R187). -/
structure HostLink where
  exchange : Exchange
  reports : List Report
  lost : Bool
  srq : Bool
deriving DecidableEq, Repr

/-! ## The whole state -/

/-- The state of the station. `pending` and `resets` are the model's own (log 2, log 24). -/
structure State where
  pending : List Instr
  unitId : Identity
  resets : Nat
  now : Nat
  draws : Nat
  supTimer : Nat
  pins : Pins
  modem : RxState
  chan : Chan
  peers : PeerTable
  bond : BondTable
  halt : HaltUnit
  stop : StopUnit
  port : Port
  floor : Floor
  life : Life
  fault : FaultUnit
  test : TestUnit
  host : HostLink
deriving DecidableEq, Repr

/-- The channel access unit after reset (R38). -/
def Chan.reset : Chan := { view := .busy, queue := [], onAir := none, spell := none }

/-- The peer table after reset (R39). -/
def PeerTable.reset : PeerTable := { entries := [], conflict := none, probe := .none }

/-- The bond table after reset (R70). -/
def BondTable.reset : BondTable := { slots := ⟨none, none, none, none⟩, detached := none }

/-- The halt unit after reset (R121, R122). -/
def HaltUnit.reset : HaltUnit := { own := .idle, counter := none, memory := [] }

/-- The stop unit after reset: UNSTARTED alone, both lines asserted (R112, R113). -/
def StopUnit.reset : StopUnit := { causes := 1, stopA := .asserted, stopB := .asserted }

/-- The traction port after reset (R130, R138). -/
def Port.reset : Port :=
  { st := .idle, slot := none, last := safeRecord, still := none, ready := none, speed := none, disagree := false }

/-- The floor unit after reset (R140). -/
def Floor.reset : Floor :=
  { st := .free, outlet := [], playout := [], playPos := 0, ado := none, boundary := none }

/-- Station control after reset (R159, R182). -/
def Life.reset : Life :=
  { st := .init, config := none, activity := none, notice := .idle, sniff := none, window := none }

/-- The fault monitor after reset (R168). -/
def FaultUnit.reset : FaultUnit := { live := 0, held := 0, selects := 0, timer := none, alarm := false }

/-- The test unit after reset (R174). -/
def TestUnit.reset : TestUnit :=
  { running := none, loop := .notRun, stopline := .notRun, timer := .notRun, gate := false }

/-- The host link after reset (R180, R185, R187). -/
def HostLink.reset : HostLink := { exchange := .between, reports := [], lost := false, srq := false }

/-- The station right after reset: every block at the values its chapter gives, the clock at 0, INIT begun (R183). The
input lines are inactive and the supervision timer stands at 0: DESIGN CHOICE, log 11 and log 12. -/
def State.reset : State :=
  { pending := [], unitId := Config.unitIdentity, resets := 0, now := 0, draws := 0, supTimer := 0,
    pins := { cdet := false, tack := false, hsel := false }, modem := .hunting, chan := Chan.reset,
    peers := PeerTable.reset, bond := BondTable.reset, halt := HaltUnit.reset, stop := StopUnit.reset,
    port := Port.reset, floor := Floor.reset, life := Life.reset, fault := FaultUnit.reset, test := TestUnit.reset,
    host := HostLink.reset }

end Sys2Proof.Machine
end

