-- ==== Sys2Proof/Machine/Ops.lean ====
section
/-! DEFINITION. The operations every block uses: replacing one block of the state, reading the configuration and the clock,
drawing from the generator, queuing a report and judging SRQ. -/

namespace Sys2Proof.Machine

/-! ## Replacing one block -/

def State.setNow (n : Nat) (s : State) : State := { s with now := n }
def State.setDraws (n : Nat) (s : State) : State := { s with draws := n }
def State.setSupTimer (n : Nat) (s : State) : State := { s with supTimer := n }
def State.setPins (p : Pins) (s : State) : State := { s with pins := p }
def State.setModem (r : RxState) (s : State) : State := { s with modem := r }
def State.setChan (c : Chan) (s : State) : State := { s with chan := c }
def State.setPeers (p : PeerTable) (s : State) : State := { s with peers := p }
def State.setBond (b : BondTable) (s : State) : State := { s with bond := b }
def State.setHalt (h : HaltUnit) (s : State) : State := { s with halt := h }
def State.setStop (u : StopUnit) (s : State) : State := { s with stop := u }
def State.setPort (p : Port) (s : State) : State := { s with port := p }
def State.setFloor (f : Floor) (s : State) : State := { s with floor := f }
def State.setLife (l : Life) (s : State) : State := { s with life := l }
def State.setFault (f : FaultUnit) (s : State) : State := { s with fault := f }
def State.setTest (t : TestUnit) (s : State) : State := { s with test := t }
def State.setHost (h : HostLink) (s : State) : State := { s with host := h }

/-! ## Configuration, clock, levels -/

/-- The configuration record, or what its fields read as while it is absent (R182, log 25). -/
def State.cfg (s : State) : ConfigRec := s.life.config.getD defaultConfig

/-- The station's role; absent before the first CONFIGURE (R181). -/
def State.role (s : State) : Option Role := s.life.config.map ConfigRec.role

/-- The station is a TRACTION. -/
def State.isTraction (s : State) : Bool := s.role == some .traction

/-- The station is an OPERATOR. -/
def State.isOperator (s : State) : Bool := s.role == some .operator

/-- START has been taken since reset: the life state is ACTIVE or DORMANT (R159). -/
def State.started (s : State) : Bool := s.life.st == .active || s.life.st == .dormant

/-- An identity that no command may name: 000000h, FFFFFFh or the station's own (R49, R55). -/
def State.badIdentity (s : State) (i : Identity) : Bool := noUnit i || i == s.unitId

/-- TSTILL as a reader takes it: the sampled value, or the line's level where there is none yet (R137). -/
def State.still (s : State) : Bool := s.port.still.getD (Config.stillLevel s.resets s.now)

/-- TRDY as a reader takes it (R137). -/
def State.ready (s : State) : Bool := s.port.ready.getD (Config.readyLevel s.resets s.now)

/-- TSPD as a reader takes it (R137). -/
def State.speed (s : State) : BitVec 3 := s.port.speed.getD (Config.speedLevel s.resets s.now)

/-- A moment of the station clock has been reached. -/
def State.reached (s : State) (t : Nat) : Bool := decide (t ≤ s.now)

/-- A LOOP test is running (R37). -/
def State.loopRunning (s : State) : Bool :=
  match s.test.running with
  | some (.loop _ _) => true
  | _ => false

/-! ## Drawing (R24, R126) -/

/-- The next number of the generator, modulo a bound. -/
def State.drawn (s : State) (bound : Nat) : Nat := Config.draw s.unitId s.draws % bound

/-- The generator has given one more number. -/
def countDraw (s : State) : State := s.setDraws (s.draws + 1)

/-! ## Reports (R185) and SRQ (R187) -/

/-- The greatest number of records in the report queue. -/
def reportCapacity : Nat := 24

/-- Whether SRQ is to be active: the threshold is met, the oldest record has reached the timeout, or a record is urgent. -/
def srqWanted (s : State) : Bool :=
  decide (s.cfg.threshold ≤ s.host.reports.length)
    || (match s.host.reports.head? with
        | some r => s.reached (r.entryTime + s.cfg.timeout)
        | none => false)
    || s.host.reports.any Report.urgent

/-- SRQ is judged again (R187). -/
def judgeSrq (s : State) : State := s.setHost { s.host with srq := srqWanted s }

/-- The exchange after a report has been discarded: the end of an answer to a FETCH now being clocked out no longer clears
the lost mark, which the discard has set again (R186). -/
def markLostAgain (x : Exchange) : Exchange :=
  match x with
  | .answering a (some _) => .answering a (some false)
  | x => x

/-- A report reaches the queue: appended while there is room, else discarded with the lost mark set (R185, R186). -/
def postReport (r : Report) (s : State) : State :=
  if s.host.reports.length < reportCapacity then
    judgeSrq (s.setHost { s.host with reports := s.host.reports ++ [r] })
  else s.setHost { s.host with lost := true, exchange := markLostAgain s.host.exchange }

/-- A block raises a report about an event at a moment (R185). -/
def raiseAt (time : Nat) (kind : ReportKind) (urgent : Bool) (subject : Identity) (detail : List Byte) (s : State) : State :=
  postReport { kind := kind, urgent := urgent, lostBefore := false, time := time, subject := subject, detail := detail,
               text := [], entryTime := s.now } s

/-- A block raises a report about an event of this moment. -/
def raise (kind : ReportKind) (urgent : Bool) (subject : Identity) (detail : List Byte) (s : State) : State :=
  raiseAt s.now kind urgent subject detail s

/-- The identity a report shows where it names no station. -/
def noSubject : Identity := 0

end Sys2Proof.Machine
end

