-- ==== Sys2Proof/Machine/Flags.lean ====
section
/-! DEFINITION. The fault monitor: live and held flags, the ALARM line, FAULT reports (R168 to R171). -/

namespace Sys2Proof.Machine

/-- The seven fault conditions (11, The Fault Conditions). -/
inductive Condition where
  | link | port | jam | disagree | loopFail | stopFail | idConflict
deriving DecidableEq, Repr

/-- The code of a condition: its bit in the flag bytes. -/
def conditionCode : Condition → Nat
  | .link => 0 | .port => 1 | .jam => 2 | .disagree => 3 | .loopFail => 4 | .stopFail => 5 | .idConflict => 6

/-- The flag of a condition alone. -/
def conditionBit (c : Condition) : BitVec 7 := 1 <<< conditionCode c

/-- The live flag of a condition is set. -/
def State.isLive (s : State) (c : Condition) : Bool := s.fault.live.getLsbD (conditionCode c)

/-- ALARM is active while some condition has its held flag set and its alarm select on (R170). -/
def alarmWanted (f : FaultUnit) : Bool := f.held &&& f.selects != 0

/-- ALARM is judged again (R170). -/
def judgeAlarm (s : State) : State := s.setFault { s.fault with alarm := alarmWanted s.fault }

/-- The detail of a FAULT report: code, event, live flags, held flags (R169). -/
def faultDetail (c : Condition) (event : Byte) (f : FaultUnit) : List Byte :=
  [BitVec.ofNat 8 (conditionCode c), event, f.live.setWidth 8, f.held.setWidth 8]

/-- A message that a condition has become live: a rise if its live flag was clear (R169). -/
def faultLive (c : Condition) (subject : Identity) (s : State) : State :=
  if s.isLive c then s else
  let t := judgeAlarm (s.setFault { s.fault with live := s.fault.live ||| conditionBit c,
                                                 held := s.fault.held ||| conditionBit c })
  raise .fault true subject (faultDetail c 1 t.fault) t

/-- A message that a condition has ended: a fall if its live flag was set (R169). -/
def faultEnd (c : Condition) (subject : Identity) (s : State) : State :=
  if s.isLive c then
    let t := s.setFault { s.fault with live := s.fault.live &&& ~~~conditionBit c }
    raise .fault false subject (faultDetail c 2 t.fault) t
  else s

/-- CLEAR-HELD: every held flag whose live flag is clear is cleared, and ALARM is judged (R171). -/
def clearHeldFlags (s : State) : State :=
  judgeAlarm (s.setFault { s.fault with held := s.fault.held &&& s.fault.live })

/-- CONFIGURE sets the alarm selects, and ALARM is judged (R168). -/
def setSelects (selects : BitVec 7) (s : State) : State :=
  judgeAlarm (s.setFault { s.fault with selects := selects })

end Sys2Proof.Machine
end

