-- ==== Sys2Proof/Machine/StopPort.lean ====
section
/-! DEFINITION. The stop unit and the traction port: the stop cause set and the stop lines, the pending slot and the
presentation cycle, failure and recovery, the disagreement input, the RESUME judgement (07, 08). -/

namespace Sys2Proof.Machine

/-! ## Causes (R112) -/

def causeUnstarted : CauseSet := 0x001
def causeUnattended : CauseSet := 0x002
def causeLinkLost : CauseSet := 0x004
def causeCrewHalt : CauseSet := 0x008
def causeYardHalt : CauseSet := 0x010
def causePortFault : CauseSet := 0x020
def causeLocalStop : CauseSet := 0x040
def causeTestFail : CauseSet := 0x080
def causeJamStop : CauseSet := 0x100

/-- The latched causes: UNATTENDED, LINK-LOST, CREW-HALT, YARD-HALT, PORT-FAULT (R112, R119). -/
def latchedCauses : CauseSet := 0x03E

/-- The causes that refuse a RESUME: UNSTARTED, LOCAL-STOP, TEST-FAIL, JAM-STOP (R119). -/
def holdingCauses : CauseSet := 0x1C1

/-- A cause set as the two bytes of the layout (01, Central bodies). -/
def causeBytes (c : CauseSet) : List Byte := be16 c.toNat

/-! ## Presentation (R133) -/

/-- TSTB settles for this many ms before STROBE (R133). -/
def settleMs : Nat := 2

/-- TSTB stays active for this many ms (R133). -/
def strobeMs : Nat := 10

/-- The acknowledge and release limits in ms (R133, R134). -/
def handshakeMs : Nat := 400

/-- A port that is IDLE with a full slot begins a presentation at once (R133). -/
def beginPresentation (s : State) : State :=
  match s.port.st, s.port.slot with
  | .idle, some r =>
    s.setPort { s.port with st := .setup (s.now + settleMs), slot := none, last := r }
  | _, _ => s

/-- A presentation is complete: the port returns to IDLE, and a full slot begins the next one (R134). -/
def completePresentation (s : State) : State :=
  beginPresentation (s.setPort { s.port with st := .idle })

/-- The bond unit offers an accepted MOVE's record: taken into an empty slot, or `none` for FULL (R131). -/
def offerRecord (r : MoveRecord) (s : State) : Option State :=
  if s.port.slot.isSome then none
  else some (beginPresentation (s.setPort { s.port with slot := some r }))

/-- The stop unit writes the safe record into the slot (R114, R132). -/
def writeSafeRecord (s : State) : State :=
  beginPresentation (s.setPort { s.port with slot := some safeRecord })

/-- The port leaves FAILED when PORT-FAULT is absent and TACK is inactive, and presents the safe record (R136). -/
def recoverPort (s : State) : State :=
  if s.port.st = .failed ∧ s.stop.causes &&& causePortFault = 0 ∧ s.pins.tack = false then
    beginPresentation (faultEnd .port noSubject (s.setPort { s.port with st := .idle }))
  else s

/-! ## The disagreement input (R138, R173) -/

/-- The input: given from START at a TRACTION, true while the set is non-empty and TSTILL is false (R138). -/
def disagreeWanted (s : State) : Bool :=
  s.isTraction && s.started && s.stop.causes != 0 && !s.still

/-- The input is judged again; the fault monitor times a true input and ends DISAGREE on a false one (R138, R173). It is
judged at START, at a change of the set and at a sample of TSTILL: that a level read before the first sample stands between
these moments is the model's choice (log 30). -/
def judgeDisagree (s : State) : State :=
  let wanted := disagreeWanted s
  if wanted = s.port.disagree then s
  else
    let t := s.setPort { s.port with disagree := wanted }
    if wanted then t.setFault { t.fault with timer := some t.now }
    else faultEnd .disagree noSubject (t.setFault { t.fault with timer := none })

/-! ## A STOPLINE test whose set becomes empty (R177, R179) -/

/-- The detail of a TEST DONE report (R179). -/
def testDoneDetail (test result b2 b3 : Byte) : List Byte := [test, result, b2, b3]

/-- A running STOPLINE test ends with no result when the set becomes empty (R177). -/
def abandonStopline (s : State) : State :=
  match s.test.running with
  | some (.stopline _ _ failed) =>
    raise .testDone false noSubject (testDoneDetail 2 2 (BitVec.ofNat 8 (failed.getD 0)) 0)
      (s.setTest { s.test with running := none })
  | _ => s

/-! ## A change of the set (R113, R114) -/

/-- The set and its lines after a change: both lines are asserted when it turns non-empty and released when it turns empty,
and are left as they are otherwise (R113). -/
def stopAfter (u : StopUnit) (causes : CauseSet) : StopUnit :=
  if causes = 0 then { causes := causes, stopA := .released, stopB := .released }
  else if u.causes = 0 then { causes := causes, stopA := .asserted, stopB := .asserted }
  else { u with causes := causes }

/-- One change of the stop cause set, adding and removing causes, with its STOP CHANGE report and all it brings about in
the same event. A change that changes nothing makes no report (R112 to R114, R136, R138, R177). -/
def changeCauses (add remove : CauseSet) (subject : Identity) (s : State) : State :=
  let old := s.stop.causes
  let new := (old &&& ~~~remove) ||| add
  if new = old then s else
  let s := s.setStop (stopAfter s.stop new)
  let s := raise .stopChange true subject
    (causeBytes new ++ causeBytes (new &&& ~~~old) ++ causeBytes (old &&& ~~~new)) s
  let s := if old = 0 then writeSafeRecord s else s
  let s := judgeDisagree s
  let s := if old &&& causePortFault ≠ 0 then recoverPort s else s
  if new = 0 then abandonStopline s else s

/-- Adding causes (R112). -/
def addCause (c : CauseSet) (subject : Identity) (s : State) : State := changeCauses c 0 subject s

/-- Removing causes (R112). -/
def removeCause (c : CauseSet) (subject : Identity) (s : State) : State := changeCauses 0 c subject s

/-! ## Failure (R135) -/

/-- The port enters FAILED: TCMD and the slot turn to the safe record, PORT-FAULT is added, PORT is live (R135). -/
def failPort (s : State) : State :=
  faultLive .port noSubject (addCause causePortFault noSubject
    (s.setPort { s.port with st := .failed, last := safeRecord, slot := some safeRecord }))

/-! ## JAM (R117, R172) -/

/-- JAM has become live; after START with jam stops selected JAM-STOP is added (R172). -/
def jamLive (s : State) : State :=
  let t := faultLive .jam noSubject s
  if s.started && s.cfg.jamStops then addCause causeJamStop noSubject t else t

/-- JAM has ended; after START with jam stops selected JAM-STOP is removed (R172). -/
def jamEnded (s : State) : State :=
  let t := faultEnd .jam noSubject s
  if s.started && s.cfg.jamStops then removeCause causeJamStop noSubject t else t

/-! ## The RESUME judgement (R119) -/

/-- The stop unit judges a RESUME of a CONTROLLING sender: ACCEPTED with the latched causes removed, or the reason of the
refusal (R119). -/
def judgeResume (sender : Identity) (s : State) : State × Verdict × Option Reason :=
  if !s.still then (s, .refused, some .moving)
  else if !s.ready then (s, .refused, some .state)
  else if s.stop.causes &&& holdingCauses ≠ 0 then (s, .refused, some .stopped)
  else (removeCause latchedCauses sender s, .accepted, none)

end Sys2Proof.Machine
end

