-- ==== Sys2Proof/Machine/Tables.lean ====
section
/-! DEFINITION. The bond table as slots, and the peer table: pins, aging, ensuring, rates, dormant marks
(03 The Peer Table; 04 The Bond Table). -/

namespace Sys2Proof.Machine

/-! ## Slots (R52) -/

/-- The entry of a slot, if it is not free. -/
def slotGet (t : Slots) (i : Fin 4) : Option BondEntry :=
  match i with
  | 0 => t.s0
  | 1 => t.s1
  | 2 => t.s2
  | 3 => t.s3

/-- A slot filled, or freed with `none`. -/
def slotSet (t : Slots) (i : Fin 4) (e : Option BondEntry) : Slots :=
  match i with
  | 0 => { t with s0 := e }
  | 1 => { t with s1 := e }
  | 2 => { t with s2 := e }
  | 3 => { t with s3 := e }

/-- The slots in order. -/
def allSlots : List (Fin 4) := [0, 1, 2, 3]

/-- The entry in a slot. -/
def State.entry (s : State) (i : Fin 4) : Option BondEntry := slotGet s.bond.slots i

/-- The operator-side entry in a slot. -/
def State.opEntry (s : State) (i : Fin 4) : Option OpEntry :=
  match s.entry i with
  | some (.op e) => some e
  | _ => none

/-- The traction-side entry in a slot. -/
def State.trEntry (s : State) (i : Fin 4) : Option TrEntry :=
  match s.entry i with
  | some (.tr e) => some e
  | _ => none

/-- The lowest-numbered free slot (R52). -/
def State.freeSlot (s : State) : Option (Fin 4) := allSlots.find? (fun i => (s.entry i).isNone)

/-- The slot whose entry names a traction. -/
def State.opSlot (s : State) (id : Identity) : Option (Fin 4) :=
  allSlots.find? (fun i => match s.opEntry i with | some e => e.traction == id | none => false)

/-- The slot whose entry names an operator. -/
def State.trSlot (s : State) (id : Identity) : Option (Fin 4) :=
  allSlots.find? (fun i => match s.trEntry i with | some e => e.operator == id | none => false)

/-- The operator-side entry naming a traction, with its slot. -/
def State.findOp (s : State) (id : Identity) : Option (Fin 4 × OpEntry) :=
  (s.opSlot id).bind fun i => (s.opEntry i).map fun e => (i, e)

/-- The traction-side entry naming an operator, with its slot. -/
def State.findTr (s : State) (id : Identity) : Option (Fin 4 × TrEntry) :=
  (s.trSlot id).bind fun i => (s.trEntry i).map fun e => (i, e)

/-- Some slot but one holds an operator-side entry of which a test holds. -/
def State.otherOp (s : State) (i : Fin 4) (p : OpEntry → Bool) : Bool :=
  allSlots.any (fun j => j != i && (s.opEntry j).any p)

/-- Some slot but one holds a traction-side entry of which a test holds. -/
def State.otherTr (s : State) (i : Fin 4) (p : TrEntry → Bool) : Bool :=
  allSlots.any (fun j => j != i && (s.trEntry j).any p)

/-- A traction-side entry is in control: CONTROLLING or LOST. -/
def inControl (e : TrEntry) : Bool := e.st == .controlling || e.st == .lost

/-- Some entry of the traction is CONTROLLING or LOST (R116). -/
def State.anyInControl (s : State) : Bool := allSlots.any (fun i => (s.trEntry i).any inControl)

/-- How many operator-side entries are TAKING, CONTROLLING or SILENT (R78). -/
def State.takenCount (s : State) : Nat :=
  (allSlots.filter (fun i => (s.opEntry i).any
    (fun e => e.st == .taking || e.st == .controlling || e.st == .silent))).length

/-! ## Pins (R42) -/

/-- The identities an entry names in its fields. -/
def namedBy : BondEntry → List Identity
  | .op e => e.traction :: ((e.offer.map Offer.controller).toList ++ e.handing.toList)
  | .tr e => e.operator :: (e.transfer.map Transfer.target).toList

/-- An identity is pinned while some entry of the bond table names it (R42). -/
def State.pinned (s : State) (id : Identity) : Bool :=
  allSlots.any (fun i => match s.entry i with | some e => (namedBy e).contains id | none => false)

/-! ## Peer entries (R39 to R43) -/

/-- The greatest number of peer entries (R39). -/
def peerCapacity : Nat := 32

/-- A peer entry unheard this long ages out when it is unpinned, in ms (R43). -/
def peerAgeMs : Nat := 300000

/-- Last heard, or created for an unheard entry (R40, R43). -/
def heardBase (p : PeerEntry) : Nat := p.lastHeard.getD p.created

/-- The entry of an identity. -/
def State.peer (s : State) (id : Identity) : Option PeerEntry := s.peers.entries.find? (fun p => p.id == id)

/-- The role of a peer as its entry keeps it; absent for an unheard or unknown peer (R42, R47). -/
def State.peerRole (s : State) (id : Identity) : Option Role := (s.peer id).bind PeerEntry.role

/-- The crew of a peer as its entry keeps it (R42, R47). -/
def State.peerCrew (s : State) (id : Identity) : Option Byte := (s.peer id).bind PeerEntry.crew

/-- The learned rate toward a peer; QUARTER where the table holds no entry (R44). -/
def State.peerRate (s : State) (id : Identity) : Rate :=
  match s.peer id with
  | some p => p.rate
  | none => .quarter

/-- The peer carries a dormant mark. -/
def State.marked (s : State) (id : Identity) : Bool := (s.peer id).any PeerEntry.dormant

/-- The table with other entries. -/
def State.setEntries (es : List PeerEntry) (s : State) : State := s.setPeers { s.peers with entries := es }

/-- The entry is unpinned and 300 s or more have passed since it was heard (R43). -/
def State.agedOut (s : State) (p : PeerEntry) : Bool := !s.pinned p.id && s.reached (heardBase p + peerAgeMs)

/-- Every aged entry is removed, as it is at the moment a pin ends (R43). -/
def agePeers (s : State) : State := s.setEntries (s.peers.entries.filter (fun p => !s.agedOut p))

/-- The first entry of the list that was heard least recently. -/
def leastRecent : List PeerEntry → Option PeerEntry
  | [] => none
  | p :: ps =>
    match leastRecent ps with
    | some q => if heardBase p ≤ heardBase q then some p else some q
    | none => some p

/-- Room for one more entry: in a full table the unpinned entry heard least recently is evicted (R40). A table whose
entries are all pinned cannot be reached (R42: at most 8 are); it is left as it is, and takes no entry (log 21). -/
def State.roomFor (s : State) : Option (List PeerEntry) :=
  if s.peers.entries.length < peerCapacity then some s.peers.entries
  else
    match leastRecent (s.peers.entries.filter (fun p => !s.pinned p.id)) with
    | some q => some (s.peers.entries.filter (fun p => p.id != q.id))
    | none => none

/-- A new entry is placed last in table order (R39, R40, R42). -/
def addPeer (p : PeerEntry) (s : State) : State :=
  match s.roomFor with
  | some es => s.setEntries (es ++ [p])
  | none => s

/-- The bond unit asks the peer table to ensure an identity (R42). That the station's own identity, which an OFFER may name
as the present controller, is ensured like any other is the model's choice, R45 saying the station is never an entry
(log 37). -/
def ensurePeer (id : Identity) (s : State) : State :=
  if (s.peer id).isSome then s
  else addPeer { id := id, role := none, crew := none, rate := .quarter, quality := none, lastHeard := none,
                 created := s.now, dormant := false } s

/-! ## Choosing the line rate (R44, R45) -/

/-- An entry counts: it is heard, within 300 s before the offer, and in the scope (R45). That one heard exactly 300 s before
the offer counts is the model's choice (log 29). -/
def State.counts (s : State) (mode : DestMode) (crew : Byte) (p : PeerEntry) : Bool :=
  (match p.lastHeard with
   | some t => decide (s.now ≤ t + peerAgeMs)
   | none => false)
    && (mode != .crew || p.crew == some crew)

/-- The rate of a frame by its destination (R44, R45). -/
def State.rateTo (s : State) (mode : DestMode) (dest : BitVec 24) : Rate :=
  match mode with
  | .unit => slower s.cfg.rate (s.peerRate dest)
  | m => ((s.peers.entries.filter (s.counts m (dest.setWidth 8))).map PeerEntry.rate).foldl slower s.cfg.rate

/-- The rate a frame is offered at: QUARTER for a HALT, and by its destination otherwise (R13). -/
def State.rateFor (s : State) (f : Frame) : Rate :=
  match f.body with
  | .halt .. => .quarter
  | _ => s.rateTo f.header.mode f.header.dest

/-- The marks make a frame need a wake burst: in UNIT mode to a marked peer, or a CLAIM with a marked peer in its scope
(R22). -/
def State.wakeNeeded (s : State) (f : Frame) : Bool :=
  match f.body, f.header.mode with
  | _, .unit => s.marked f.header.dest
  | .claim _, .crew => s.peers.entries.any (fun p => p.dormant && p.crew == some (f.header.dest.setWidth 8))
  | .claim _, .yard => s.peers.entries.any PeerEntry.dormant
  | _, _ => false

/-! ## Writing the bond table -/

/-- A slot is written. -/
def putEntry (i : Fin 4) (e : Option BondEntry) (s : State) : State :=
  s.setBond { s.bond with slots := slotSet s.bond.slots i e }

/-- A slot is freed; its pins end, and a peer entry aged by then goes at once (R43, R52). -/
def freeEntry (i : Fin 4) (s : State) : State := agePeers (putEntry i none s)

/-- The operator-side entry of a slot is changed. -/
def modOp (i : Fin 4) (f : OpEntry → OpEntry) (s : State) : State :=
  match s.opEntry i with
  | some e => putEntry i (some (.op (f e))) s
  | none => s

/-- The traction-side entry of a slot is changed. -/
def modTr (i : Fin 4) (f : TrEntry → TrEntry) (s : State) : State :=
  match s.trEntry i with
  | some e => putEntry i (some (.tr (f e))) s
  | none => s

/-! ## BOND and OUTCOME reports (R69) -/

/-- State codes of the BOND report: operator side. -/
def opStateCode : OpState → Byte
  | .asking => 1 | .standby => 2 | .taking => 3 | .controlling => 4 | .silent => 5 | .offered => 6

/-- State codes of the BOND report: traction side. -/
def trStateCode : TrState → Byte
  | .standby => 2 | .controlling => 4 | .lost => 7

/-- The causes of a BOND report (R69). -/
inductive BondCause where
  | bound | unbound | aged | notBound | taken | released | lost | regained | abandoned | transferred | offer | lapsed
  | declined
deriving DecidableEq, Repr

/-- The code of a cause (R69). -/
def bondCauseCode : BondCause → Byte
  | .bound => 1 | .unbound => 2 | .aged => 3 | .notBound => 4 | .taken => 5 | .released => 6 | .lost => 7
  | .regained => 8 | .abandoned => 9 | .transferred => 10 | .offer => 11 | .lapsed => 12 | .declined => 13

/-- A BOND report: urgent when the new state is SILENT or LOST (R69). -/
def raiseBond (i : Fin 4) (peer : Identity) (newState : Byte) (cause : BondCause) (s : State) : State :=
  raise .bond (newState == 5 || newState == 7) peer [BitVec.ofNat 8 i.val, newState, bondCauseCode cause] s

end Sys2Proof.Machine
end

