-- ==== Sys2Proof/Machine/Channel.lean ====
section
/-! DEFINITION. The channel access unit: the channel view, building and offering frames, removal and replacement, the
candidate, keying, the frame on air and its cutting (02 Channel Access). -/

namespace Sys2Proof.Machine

/-! ## Building a frame (R12) -/

/-- A frame of this station: its identity, role, authority and crew in the header (R12). -/
def State.frameTo (s : State) (mode : DestMode) (dest : BitVec 24) (seq : BitVec 4) (body : Body) : Frame :=
  { header := { sender := s.unitId, role := s.cfg.role, authority := s.cfg.authority, seq := seq, crew := s.cfg.crew,
                mode := mode, dest := dest }
    body := body }

/-- A frame in UNIT mode to a station. -/
def State.unitFrame (s : State) (dest : Identity) (seq : BitVec 4) (body : Body) : Frame := s.frameTo .unit dest seq body

/-- A frame in CREW mode to the station's own crew. -/
def State.crewFrame (s : State) (body : Body) : Frame := s.frameTo .crew (s.cfg.crew.setWidth 24) 0 body

/-- A frame in YARD mode. -/
def State.yardFrame (s : State) (body : Body) : Frame := s.frameTo .yard 0 0 body

/-- A frame to the own crew or the yard, as a scope says. -/
def State.scopeFrame (s : State) (scope : Scope) (body : Body) : Frame :=
  match scope with
  | .crew => s.crewFrame body
  | .yard => s.yardFrame body

/-! ## The view (R19, R20, R24) -/

/-- The hunter is reading a frame. -/
def State.inFrame (s : State) : Bool :=
  match s.modem with
  | .inFrame _ _ _ => true
  | _ => false

/-- The view that KEY, CDET and the receive state call for (R19, R20). -/
def viewNow (s : State) : ChanView :=
  if s.life.st = .init then .busy
  else if s.chan.onAir.isSome then .own
  else if s.pins.cdet || s.inFrame then .busy
  else
    match s.chan.view with
    | .free t => .free t
    | _ => .free s.now

/-- The range of k of a class (R24, R25). -/
def kBound : AccessClass → Nat
  | .c0 => 1 | .c1 => 4 | .c2 => 8

/-- A k drawn for a class, absent for class 0 (R24). -/
def drawnK (unit : Identity) (n : Nat) : AccessClass → Option Nat
  | .c0 => none
  | c => some (Config.draw unit n % kBound c)

/-- Every class 1 and class 2 entry redraws its k, in queue order; also the number of draws then made (R24). -/
def redrawAll (unit : Identity) : Nat → List QEntry → List QEntry × Nat
  | n, [] => ([], n)
  | n, e :: es =>
    match e.cls with
    | .c0 => let r := redrawAll unit n es; (e :: r.1, r.2)
    | c => let r := redrawAll unit (n + 1) es; ({ e with k := drawnK unit n c } :: r.1, r.2)

/-- The waiting entries redraw (R24). -/
def redraw (s : State) : State :=
  let r := redrawAll s.unitId s.draws s.chan.queue
  (s.setDraws r.2).setChan { s.chan with queue := r.1 }

/-- The view is free. -/
def isFree : ChanView → Bool
  | .free _ => true
  | _ => false

/-- The view is judged again; a turn from BUSY to FREE redraws every waiting k (R19, R24). -/
def judgeView (s : State) : State :=
  let v := viewNow s
  let t := s.setChan { s.chan with view := v }
  if s.chan.view = .busy ∧ isFree v then redraw t else t

/-! ## The queue (R21 to R23) -/

/-- The greatest number of entries of the transmit queue. -/
def queueCapacity : Nat := 12

/-- The queue replaced. -/
def State.setQueue (q : List QEntry) (s : State) : State := s.setChan { s.chan with queue := q }

/-- A frame taken as a new entry at the end of a queue (R21). -/
def enqueue (q : List QEntry) (f : Frame) (notBefore : Option Nat) (tag : OwnerTag) (s : State) : State :=
  let c := kindClass (frameKind f)
  let e : QEntry :=
    { frame := f, cls := c, entryTime := s.now, notBefore := notBefore, needsWake := s.wakeNeeded f, rate := s.rateFor f,
      k := drawnK s.unitId s.draws c, tag := tag, onAir := false, withdrawn := false,
      eligibleTaken := notBefore.isNone }
  let t := s.setQueue (q ++ [e])
  if c = .c0 then t else countDraw t

/-- The last entry of a list of which a test holds, and the list without it. -/
def takeLast (p : QEntry → Bool) : List QEntry → Option (QEntry × List QEntry)
  | [] => none
  | e :: es =>
    match takeLast p es with
    | some (x, rest) => some (x, e :: rest)
    | none => if p e then some (e, es) else none

/-- An entry waits and has a class. -/
def waits (c : AccessClass) (e : QEntry) : Bool := !e.onAir && e.cls == c

/-- The entry that a frame of a class displaces from a full queue: of the waiting entries of greater class number, the
newest of the greatest (R34). -/
def displaced (c : AccessClass) (q : List QEntry) : Option (QEntry × List QEntry) :=
  match c with
  | .c0 => (takeLast (waits .c2) q).orElse (fun _ => takeLast (waits .c1) q)
  | .c1 => takeLast (waits .c2) q
  | .c2 => none

/-- A place for a frame of a class: the queue as it is while it has room, else the queue without the entry displaced, with
that entry's tag; `none` where the offer is refused (R34, R35). -/
def makeRoom (c : AccessClass) (s : State) : Option (State × Option OwnerTag) :=
  if s.chan.queue.length < queueCapacity then some (s, none)
  else (displaced c s.chan.queue).map fun r => (s.setQueue r.2, some r.1.tag)

/-- A frame taken as the newest entry (R21). -/
def arrive (f : Frame) (notBefore : Option Nat) (tag : OwnerTag) (s : State) : State :=
  enqueue s.chan.queue f notBefore tag s

/-- The flags are read again when a mark has changed: a waiting entry takes the flag when a mark now calls for it (R22). -/
def refreshWake (s : State) : State :=
  s.setQueue (s.chan.queue.map fun e =>
    if e.onAir then e else { e with needsWake := e.needsWake || s.wakeNeeded e.frame })

/-! ## Removal and replacement (R32, R33) -/

/-- The answer to a removal request (R32). -/
inductive Removal where
  | removed | onAir | absent
deriving DecidableEq, Repr

/-- A waiting entry with a tag. -/
def waitsTagged (tag : OwnerTag) (e : QEntry) : Bool := e.tag == tag && !e.onAir

/-- The entry on air with a tag. -/
def airsTagged (tag : OwnerTag) (e : QEntry) : Bool := e.tag == tag && e.onAir

/-- The answer a removal request for a tag gets (R32). -/
def removalAnswer (tag : OwnerTag) (s : State) : Removal :=
  if s.chan.queue.any (waitsTagged tag) then .removed
  else if s.chan.queue.any (airsTagged tag) then .onAir
  else .absent

/-- The effect of a removal request: a waiting entry is taken out; an entry on air is marked, so that a cut takes it out
(R32). -/
def withdraw (tag : OwnerTag) (s : State) : State :=
  match removalAnswer tag s with
  | .removed => s.setQueue (s.chan.queue.filter (fun e => !waitsTagged tag e))
  | .onAir => s.setQueue (s.chan.queue.map (fun e => if airsTagged tag e then { e with withdrawn := true } else e))
  | .absent => s

/-- A removal request for every entry whose tag passes a test: those that wait are taken out, and one on air is marked
(R32). -/
def withdrawEach (p : OwnerTag → Bool) (s : State) : State :=
  s.setQueue ((s.chan.queue.filter (fun e => !(p e.tag && !e.onAir))).map fun e =>
    if p e.tag && e.onAir then { e with withdrawn := true } else e)

/-- The waiting entry of which a test holds carries another frame of the same kind; its flag is judged afresh and a set flag
stays (R33). `none` where no such entry waits: the answer is ON AIR or ABSENT. -/
def replaceWhere (p : QEntry → Bool) (f : Frame) (s : State) : Option State :=
  if s.chan.queue.any p then
    some (s.setQueue (s.chan.queue.map fun e =>
      if p e then { e with frame := f, needsWake := e.needsWake || s.wakeNeeded f } else e))
  else none

/-- The waiting entry with a tag carries another frame (R33). -/
def replaceFrame (tag : OwnerTag) (f : Frame) (s : State) : Option State := replaceWhere (waitsTagged tag) f s

/-! ## The candidate (R23, R25, R26) -/

/-- An entry not on air is eligible: it has no not-before time, or the clock has reached it (R23). -/
def State.eligible (s : State) (e : QEntry) : Bool :=
  !e.onAir && (match e.notBefore with | none => true | some t => s.reached t)

/-- The frame the unit would send next (R26). -/
inductive Candidate where
  | entry (e : QEntry)
  | voice (b : VoiceBlock) (scope : Scope)
deriving DecidableEq, Repr

/-- An eligible entry of a class. -/
def State.ready? (s : State) (c : AccessClass) (e : QEntry) : Bool := e.cls == c && s.eligible e

/-- The head of the voice outlet while the floor is OWN (R26). -/
def State.voiceHead (s : State) : Option Candidate :=
  match s.floor.st, s.floor.outlet with
  | .own sp, b :: _ => some (.voice b sp.scope)
  | _, _ => none

/-- The candidate (R26). -/
def State.candidate (s : State) : Option Candidate :=
  (((s.chan.queue.find? (s.ready? .c0)).map Candidate.entry).orElse fun _ =>
    ((s.chan.queue.find? (s.ready? .c1)).map Candidate.entry).orElse fun _ =>
      s.voiceHead.orElse fun _ => (s.chan.queue.find? (s.ready? .c2)).map Candidate.entry)

/-- The required free time by class and k, in ms (R25). -/
def classFreeMs (e : QEntry) : Nat :=
  match e.cls with
  | .c0 => 4
  | .c1 => 10 + 4 * e.k.getD 0
  | .c2 => 40 + 4 * e.k.getD 0

/-- The required free time of a candidate, in ms: 30 for voice, at least 50 with the wake flag (R25). -/
def requiredFreeMs : Candidate → Nat
  | .entry e => if e.needsWake then max (classFreeMs e) 50 else classFreeMs e
  | .voice _ _ => 30

/-- The candidate may be keyed: ACTIVE, no LOOP test, nothing on air, and FREE for its required free time (R27). -/
def State.mayKey (s : State) (c : Candidate) : Bool :=
  s.life.st == .active && !s.loopRunning && s.chan.onAir.isNone
    && (match s.chan.view with | .free t => s.reached (t + requiredFreeMs c) | _ => false)

/-! ## Keying and leaving the air (R28 to R30) -/

/-- The first entry of which a test holds is marked on air. -/
def markFirst (p : QEntry → Bool) : List QEntry → List QEntry
  | [] => []
  | e :: es => if p e then { e with onAir := true } :: es else e :: markFirst p es

/-- KEY is asserted and the frame on air begins (R28). A spell of carrier ends (R36), and the hunter is held in HUNTING
(R1). -/
def assertKey (a : OnAir) (s : State) : State :=
  judgeView ((s.setChan { s.chan with onAir := some a, spell := none }).setModem .hunting)

/-- The candidate is keyed: an entry is marked on air and stays in the queue; a voice block leaves the outlet (R28). -/
def keyCandidate (c : Candidate) (s : State) : State :=
  match c with
  | .entry e =>
    assertKey { frame := e.frame, rate := e.rate, wake := e.needsWake, voice := none, keyedAt := s.now, phase := .lead }
      (s.setQueue (markFirst (s.ready? e.cls) s.chan.queue))
  | .voice b scope =>
    assertKey { frame := s.scopeFrame scope (.voice b.number b.frames), rate := .full, wake := false,
                voice := some b.number, keyedAt := s.now, phase := .lead }
      (s.setFloor { s.floor with outlet := s.floor.outlet.drop 1 })

/-- KEY is released: nothing is on air, the view is judged, and a carrier still present begins a spell (R19, R29, R36). -/
def releaseKey (s : State) : State :=
  judgeView (s.setChan { s.chan with onAir := none,
                                     spell := if s.pins.cdet then some { start := s.now, jam := false } else none })

/-- The frame on air is a wake burst in its LEAD or WAKE phase (R31). -/
def State.cuttable (s : State) : Bool :=
  match s.chan.onAir with
  | some a => a.wake && (a.phase == .lead || a.phase == .wake)
  | none => false

/-- The tag of the entry on air that a removal request was answered ON AIR for (R32). -/
def State.withdrawnOnAir (s : State) : Option OwnerTag :=
  (s.chan.queue.find? (fun e => e.onAir && e.withdrawn)).map QEntry.tag

/-- The queue after a cut: the entry on air waits again in its place, or goes if it was withdrawn (R31, R32). -/
def queueAfterCut (q : List QEntry) : List QEntry :=
  (q.filter (fun e => !(e.onAir && e.withdrawn))).map (fun e => { e with onAir := false })

/-- The wake burst on air is cut; also the tag whose owner is to be told "dropped" (R31, R32). -/
def cutBurst (s : State) : State × Option OwnerTag :=
  (releaseKey (s.setQueue (queueAfterCut s.chan.queue)), s.withdrawnOnAir)

/-- The tag of the queue entry on air. -/
def State.airTag (s : State) : Option OwnerTag := (s.chan.queue.find? QEntry.onAir).map QEntry.tag

/-- The frame on air leaves the air: its queue entry is removed and KEY is released (R29). -/
def leaveAir (s : State) : State :=
  releaseKey (s.setQueue (s.chan.queue.filter (fun e => !e.onAir)))

/-! ## Offering -/

/-- A way to offer a frame with its not-before time and owner tag: `none` when the queue refuses it (R35). -/
abbrev Offering := Frame → Option Nat → OwnerTag → State → Option State

/-- A frame that a block makes of its own accord and does not follow further: a refusal is a drop that changes nothing
(R35). -/
def offerOr (off : Offering) (f : Frame) (tag : OwnerTag) (s : State) : State := (off f none tag s).getD s

end Sys2Proof.Machine
end

