-- ==== Sys2Proof/Machine/Requests.lean ====
section
/-! DEFINITION. The operator's side of a bond: request frames, how a request ends, resends, CHECK frames, entering and leaving
control, removing an entry (04, 05). Every operation that may offer a frame takes the way to offer it. -/

namespace Sys2Proof.Machine

/-- The frame kind of a request. -/
def reqKind : ReqBody → Kind
  | .bindAsk => .bindAsk | .take _ _ => .take | .release _ => .release | .move _ => .move | .resume => .resume
  | .handover _ => .handover

/-- The frame body of a request; a period is carried in units of 100 ms (R77). -/
def reqFrameBody : ReqBody → Body
  | .bindAsk => .bindAsk
  | .take byTransfer period => .take (BitVec.ofNat 8 (period / 100)) byTransfer
  | .release unbind => .release unbind
  | .move record => .move record
  | .resume => .resume
  | .handover target => .handover target

/-- The host command a request's OUTCOME report names: ACCEPT for a by-transfer TAKE, UNBIND for a RELEASE with the unbind
flag (R69, R63, R103). -/
def reqCommand : ReqBody → Byte
  | .bindAsk => 0x10 | .take false _ => 0x12 | .take true _ => 0x17 | .release true => 0x11 | .release false => 0x13
  | .move _ => 0x14 | .resume => 0x15 | .handover _ => 0x16

/-- The answer wait of a request in ms (R56, R72). -/
def answerWaitMs : Nat := 300

/-- The retry wait after a BUSY answer in ms (R73). -/
def retryWaitMs : Nat := 150

/-- The most resends of a request (R53). -/
def maxResends : Nat := 2

/-- The frame of an entry's request (R12). -/
def State.requestFrame (s : State) (traction : Identity) (seq : BitVec 4) (body : ReqBody) : Frame :=
  s.unitFrame traction seq (reqFrameBody body)

/-- The owner tag of a request in a slot. -/
def requestTag (i : Fin 4) (seq : BitVec 4) (body : ReqBody) : OwnerTag := .request i (reqKind body) seq

/-! ## OUTCOME (R69) -/

/-- How a request ended. -/
inductive ReqEnd where
  | accepted
  | refused (r : Reason)
  | noAnswer
deriving DecidableEq, Repr

/-- Result code of an OUTCOME report (R69). -/
def reqEndCode : ReqEnd → Byte
  | .accepted => 0 | .refused _ => 1 | .noAnswer => 2

/-- Reason code of an OUTCOME report (R69). -/
def reqEndReason : ReqEnd → Byte
  | .refused r => reasonCode r
  | _ => 0

/-- An OUTCOME report of four bytes: command, sequence, result, reason (R69). -/
def raiseOutcome (peer : Identity) (command : Byte) (seq : BitVec 4) (result reason : Byte) (s : State) : State :=
  raise .outcome false peer [command, seq.setWidth 8, result, reason] s

/-! ## Leaving control and removal (R63, R96) -/

/-- An operator-side entry is under the limit of two and supervised: TAKING, CONTROLLING or SILENT. -/
def inOpControl (e : OpEntry) : Bool := e.st == .taking || e.st == .controlling || e.st == .silent

/-- No other entry of the station is SILENT: a SILENT entry that leaves that state ends LINK (R90, R96). -/
def endLinkIfSilent (i : Fin 4) (e : OpEntry) (s : State) : State :=
  if e.st = .silent ∧ s.otherOp i (fun x => x.st == .silent) = false then faultEnd .link e.traction s else s

/-- Every CHECK of a slot is withdrawn: those that wait are taken out, and one on air is marked, so that a cut takes it out
(R96, R32). -/
def withdrawChecks (i : Fin 4) (s : State) : State := withdrawEach (fun tag => tag == .check i) s

/-- A tag of a frame of a slot's entry: a CHECK or a request, also one that a MOVE has superseded (R85). -/
def tagOfSlot (i : Fin 4) : OwnerTag → Bool
  | .check j | .request j _ _ => j == i
  | _ => false

/-- Every frame of a slot's entry is withdrawn, as it is when the entry is removed (R63, R65). -/
def withdrawSlot (i : Fin 4) (s : State) : State := withdrawEach (tagOfSlot i) s

/-- An entry in TAKING, CONTROLLING or SILENT returns to STANDBY: its waiting CHECK is withdrawn and its supervision fields
are dropped; a cause is told in a BOND report (R96). -/
def leaveControl (i : Fin 4) (cause : Option BondCause) (s : State) : State :=
  match s.opEntry i with
  | some e =>
    if inOpControl e then
      let s := withdrawChecks i s
      let s := modOp i (fun x => { x with st := .standby, link := none, sup := none }) s
      let s := match cause with
        | some c => raiseBond i e.traction 2 c s
        | none => s
      endLinkIfSilent i e s
    else s
  | none => s

/-- An operator-side entry is removed, with its queued frames; a cause is told in a BOND report (R63, R65, R96). -/
def removeOp (i : Fin 4) (cause : Option BondCause) (s : State) : State :=
  match s.opEntry i with
  | some e =>
    let s := freeEntry i (withdrawSlot i s)
    let s := match cause with
      | some c => raiseBond i e.traction 0 c s
      | none => s
    endLinkIfSilent i e s
  | none => s

/-! ## CHECK frames (R89) -/

/-- A waiting CHECK of a slot that carries a check number: an older CHECK that waits again after a cut of its wake preamble
is not the entry's previous one (R89, R31). -/
def waitsCheck (i : Fin 4) (number : Byte) (e : QEntry) : Bool :=
  waitsTagged (.check i) e && (match e.frame.body with | .check n _ => n == number | _ => false)

/-- The next CHECK of an entry: its number advances by one, and the frame replaces the entry's previous CHECK where that
still waits, or is offered anew. A CHECK refused is not offered again (R89). -/
def makeCheck (off : Offering) (i : Fin 4) (s : State) : State :=
  match s.opEntry i with
  | some e =>
    match e.link with
    | some l =>
      let n := l.check + 1
      let s := modOp i (fun x => { x with link := some { l with check := n } }) s
      let f := s.unitFrame e.traction 0 (.check n (BitVec.ofNat 8 (l.period / 100)))
      match replaceWhere (waitsCheck i l.check) f s with
      | some t => t
      | none => offerOr off f (.check i) s
    | none => s
  | none => s

/-- A history of eight HEARD marks (R79, R80). -/
def freshHistory : List Mark := List.replicate 8 .heard

/-- An accepted TAKE: the entry becomes CONTROLLING and its first period begins with the first CHECK (R80, R89). -/
def enterControl (off : Offering) (i : Fin 4) (s : State) : State :=
  makeCheck off i (modOp i (fun x =>
    { x with st := .controlling
             sup := some { history := freshHistory, heard := false,
                           due := s.now + (x.link.map OpLink.period).getD 0 } }) s)

/-! ## The end of a request (R63, R65, R80, R83, R84, R87, R109) -/

/-- What the end of a request does to its entry once it has been reported (a refused RELEASE: log 18; the order of effects
of one event, here and in the other operations: log 19). -/
def afterRequest (off : Offering) (i : Fin 4) (body : ReqBody) (r : ReqEnd) (s : State) : State :=
  match body, r with
  | .bindAsk, .accepted => modOp i (fun x => { x with st := .standby }) s
  | .bindAsk, _ => removeOp i none s
  | .release true, _ => removeOp i none s
  | _, .refused .notBound => removeOp i (some .notBound) s
  | .take _ _, .accepted => enterControl off i s
  | .take _ _, _ => leaveControl i none s
  | .release false, _ => leaveControl i none (agePeers (modOp i (fun x => { x with handing := none }) s))
  | .move _, _ | .resume, _ | .handover _, .accepted => s
  | .handover _, _ => agePeers (modOp i (fun x => { x with handing := none }) s)

/-- The outstanding request of a slot ends: it is cleared, told to the host in one OUTCOME report, and has the effect its
kind's rule gives. -/
def endRequest (off : Offering) (i : Fin 4) (r : ReqEnd) (s : State) : State :=
  match s.opEntry i with
  | some e =>
    match e.req with
    | some q =>
      let s := modOp i (fun x => { x with req := none }) s
      let s := raiseOutcome e.traction (reqCommand q.body) q.seq (reqEndCode r) (reqEndReason r) s
      afterRequest off i q.body r s
    | none => s
  | none => s

/-! ## Resends (R56, R58, R72, R74) -/

/-- The outstanding request of a slot is changed. -/
def modReq (i : Fin 4) (f : Request → Request) (s : State) : State :=
  modOp i (fun x => { x with req := x.req.map f }) s

/-- The request of a slot is sent again: its count rises and its frame is offered anew; a frame the queue refuses is a
dropped one, which acts at once again, and the count of two ends the request with NO-ANSWER (R56, R58, R72, R74). The
first argument bounds the repetition; three rounds reach the end from any count. -/
def resendOrEnd (off : Offering) : Nat → Fin 4 → State → State
  | 0, i, s => endRequest off i .noAnswer s
  | n + 1, i, s =>
    match s.opEntry i with
    | some e =>
      match e.req with
      | some q =>
        if q.resends < maxResends then
          let s := modReq i (fun r => { r with resends := r.resends + 1, phase := .queued }) s
          match off (s.requestFrame e.traction q.seq q.body) none (requestTag i q.seq q.body) s with
          | some t => t
          | none => resendOrEnd off n i s
        else endRequest off i .noAnswer s
      | none => s
    | none => s

/-- A sending of the request found no answer: it is sent again, or ends with NO-ANSWER. -/
def noAnswerYet (off : Offering) (i : Fin 4) (s : State) : State := resendOrEnd off 3 i s

/-- The request of a slot is the one a tag names. -/
def State.requestIs (s : State) (i : Fin 4) (kind : Kind) (seq : BitVec 4) : Bool :=
  match s.opEntry i with
  | some e =>
    match e.req with
    | some q => reqKind q.body == kind && q.seq == seq
    | none => false
  | none => false

/-- The request of a slot is in QUEUED. -/
def State.requestQueued (s : State) (i : Fin 4) : Bool :=
  match s.opEntry i with
  | some e =>
    match e.req with
    | some q => q.phase == .queued
    | none => false
  | none => false

/-- The owner is told "dropped" for a request frame: it acts at once, if that request is in QUEUED (R58, R74). -/
def requestDropped (off : Offering) (i : Fin 4) (kind : Kind) (seq : BitVec 4) (s : State) : State :=
  if s.requestIs i kind seq && s.requestQueued i then noAnswerYet off i s else s

/-- The owner is told "sent" for a request frame: the answer wait begins (R56, R72). -/
def requestSent (i : Fin 4) (kind : Kind) (seq : BitVec 4) (s : State) : State :=
  if s.requestIs i kind seq && s.requestQueued i then
    modReq i (fun r => { r with phase := .awaiting (s.now + answerWaitMs) }) s
  else s

/-! ## New requests (R53, R66) -/

/-- A new request of an entry: its frame is offered under the entry's next sequence; when the queue takes it the sequence
advances and the request is outstanding in QUEUED (R66). `none` when the queue refuses it. -/
def sendRequest (off : Offering) (i : Fin 4) (e : OpEntry) (body : ReqBody) (s : State) : Option State :=
  (off (s.requestFrame e.traction e.nextSeq body) none (requestTag i e.nextSeq body) s).map fun t =>
    modOp i (fun x => { x with nextSeq := e.nextSeq + 1
                               req := some { body := body, seq := e.nextSeq, resends := 0, phase := .queued } }) t

/-- The effective period of a new bond at the operator: the configured one, but at least 1000 ms toward a peer whose
learned rate is QUARTER (R77). -/
def State.opPeriod (s : State) (traction : Identity) : Nat :=
  if s.peerRate traction = .quarter then max s.cfg.period 1000 else s.cfg.period

end Sys2Proof.Machine
end

