-- ==== Sys2Proof/Machine/FloorOps.lean ====
section
/-! DEFINITION. The floor unit: the floor state, claims, spurts, the voice outlet, playout and the audio port (09). -/

namespace Sys2Proof.Machine

/-- The floor state replaced. -/
def State.setFloorState (f : FloorState) (s : State) : State := s.setFloor { s.floor with st := f }

/-- The most blocks of the voice outlet and of the playout buffer (R140). -/
def outletCapacity : Nat := 2
def playoutCapacity : Nat := 3

/-! ## Reports (R158) -/

/-- Results of a FLOOR report. -/
inductive FloorResult where
  | taken | lost | overridden | dropped
deriving DecidableEq, Repr

/-- The code of a FLOOR result (R158). -/
def floorResultCode : FloorResult → Byte
  | .taken => 1 | .lost => 2 | .overridden => 3 | .dropped => 4

/-- A FLOOR report (R158). -/
def raiseFloor (r : FloorResult) (scope : Scope) (subject : Identity) (s : State) : State :=
  raise .floor false subject [floorResultCode r, scopeCode scope] s

/-- The code of a spurt's end cause (R158). -/
def spurtEndCode : SpurtEnd → Byte
  | .talkEnd => 1 | .limit => 2 | .overridden => 3 | .lost => 4

/-- A SPURT END report (R158). -/
def raiseSpurtEnd (cause : SpurtEnd) (sp : Spurt) (left : Nat) (subject : Identity) (s : State) : State :=
  raise .spurtEnd false subject
    [spurtEndCode cause, scopeCode sp.scope, BitVec.ofNat 8 sp.sent, BitVec.ofNat 8 sp.discarded, BitVec.ofNat 8 left] s

/-! ## The end of a spurt (R153, R154) -/

/-- A voice block is on air. -/
def State.voiceOnAir (s : State) : Bool :=
  match s.chan.onAir with
  | some a => a.voice.isSome
  | none => false

/-- The CLEAR of a spurt that is CLEARING is offered, and its SPURT END report is made; a CLEAR the queue refuses frees the
floor (R153, R154). -/
def sendClear (off : Offering) (s : State) : State :=
  match s.floor.st with
  | .own sp =>
    match sp.phase with
    | .clearing cause false left =>
      let f := s.scopeFrame sp.scope (.clear (BitVec.ofNat 8 sp.sent))
      let t := match off f none .clear s with
        | some t => t.setFloorState (.own { sp with phase := .clearing cause true left })
        | none => s.setFloorState .free
      raiseSpurtEnd cause sp left noSubject t
    | _ => s
  | _ => s

/-- A spurt ends by TALK-END, LIMIT or OVERRIDDEN: CLEARING, nothing under assembly, the outlet emptied; the CLEAR follows
at once unless a block is on air (R153). -/
def endSpurt (off : Offering) (cause : SpurtEnd) (s : State) : State :=
  match s.floor.st with
  | .own sp =>
    let s := s.setFloor { s.floor with
      st := .own { sp with phase := .clearing cause false s.floor.outlet.length, assembly := [] }, outlet := [] }
    if s.voiceOnAir then s else sendClear off s
  | _ => s

/-- The spurt record as it opens (R142). -/
def openSpurt (scope : Scope) : Spurt :=
  { scope := scope, phase := .talking, sent := 0, discarded := 0, nextNo := 0, assembly := [], started := false }

/-! ## The fate of the claim, the CLEAR and the blocks (R142, R152 to R154) -/

/-- The CLAIM has left the air (R142). -/
def claimSent (off : Offering) (s : State) : State :=
  match s.floor.st with
  | .claiming scope none => s.setFloorState (.own (openSpurt scope))
  | .claiming scope (some cause) => endSpurt off cause (s.setFloorState (.own (openSpurt scope)))
  | _ => s

/-- The CLAIM has been dropped (R142). -/
def claimDropped (s : State) : State :=
  match s.floor.st with
  | .claiming scope none => raiseFloor .dropped scope noSubject (s.setFloorState .free)
  | .claiming scope (some .overridden) => raiseFloor .overridden scope noSubject (s.setFloorState .free)
  | .claiming _ (some _) => s.setFloorState .free
  | _ => s

/-- The CLEAR has left the air or has been dropped: the floor is FREE (R154). -/
def clearGone (s : State) : State :=
  match s.floor.st with
  | .own sp =>
    match sp.phase with
    | .clearing _ _ _ => s.setFloorState .free
    | .talking => s
  | _ => s

/-- A VOICE of the spurt has left the air: it is counted; in TALKING the talk limit ends the spurt, and in CLEARING the
CLEAR follows (R152, R153). -/
def voiceSent (off : Offering) (s : State) : State :=
  match s.floor.st with
  | .own sp =>
    let t := s.setFloorState (.own { sp with sent := sp.sent + 1 })
    match sp.phase with
    | .talking => if sp.sent + 1 = s.cfg.talkLimit then endSpurt off .limit t else t
    | .clearing _ _ _ => sendClear off t
  | _ => s

/-! ## Frames heard (R144 to R148, R155) -/

/-- The floor becomes HELD by a sender, with the number of its VOICE if the frame was one (R144). -/
def holdFloor (sender : Identity) (number : Option Byte) (s : State) : State :=
  s.setFloorState (.held { talker := sender, taken := s.now, last := number, missed := 0 })

/-- A VOICE is in scope: addressed to the yard or to the station's own crew (R155). -/
def State.voiceInScope (s : State) (h : Header) : Bool :=
  h.mode == .yard || (h.mode == .crew && h.dest == s.cfg.crew.setWidth 24)

/-- A block enters the playout buffer; a full buffer loses its oldest block first (R155). -/
def enterPlayout (block : List CodecFrame) (s : State) : State :=
  if s.floor.playout.length < playoutCapacity then s.setFloor { s.floor with playout := s.floor.playout ++ [block] }
  else s.setFloor { s.floor with playout := s.floor.playout.drop 1 ++ [block], playPos := 0 }

/-- What a CLAIM or a VOICE brings to the floor unit: for a VOICE its number and block (R144). -/
abbrev Speech := Option (Byte × List CodecFrame)

/-- A VOICE in scope is offered to the playout buffer (R155). -/
def playSpeech (h : Header) (v : Speech) (s : State) : State :=
  match v with
  | some (_, block) => if s.voiceInScope h then enterPlayout block s else s
  | none => s

/-- How many numbers are passed over from a recorded block number to a new one, counting forward; none when the new number
is equal or runs backward (R155, log 16). -/
def blocksMissed (recorded new : Byte) : Nat :=
  let ahead := (new - recorded).toNat
  if ahead = 0 ∨ 128 ≤ ahead then 0 else ahead - 1

/-- The HELD record renewed by its talker; a VOICE is checked for missed blocks (R145, R155). -/
def renewHeld (h : Held) (v : Speech) (now : Nat) : Held :=
  match v with
  | some (number, _) =>
    { h with taken := now, last := some number
             missed := match h.last with
               | some r => min 255 (h.missed + blocksMissed r number)
               | none => h.missed }
  | none => { h with taken := now }

/-- The number of a VOICE. -/
def speechNumber (v : Speech) : Option Byte := v.map Prod.fst

/-- A CLAIM or a VOICE of another station reaches the floor unit (R144, R145, R147, R148). -/
def hearSpeech (h : Header) (v : Speech) (s : State) : State :=
  match s.floor.st with
  | .free => playSpeech h v (holdFloor h.sender (speechNumber v) s)
  | .held r =>
    if h.sender = r.talker then playSpeech h v (s.setFloorState (.held (renewHeld r v s.now)))
    else if h.sender.toNat < r.talker.toNat then
      let s := holdFloor h.sender (speechNumber v) s
      playSpeech h v (s.setFloor { s.floor with playout := [], playPos := 0 })
    else s
  | .claiming scope _ =>
    let s := holdFloor h.sender (speechNumber v) (withdraw .claim s)
    playSpeech h v (raiseFloor .taken scope h.sender s)
  | .own sp =>
    match sp.phase with
    | .talking =>
      if h.sender.toNat < s.unitId.toNat then
        let left := s.floor.outlet.length
        let s := holdFloor h.sender (speechNumber v) s
        let s := s.setFloor { s.floor with outlet := [] }
        let s := raiseFloor .lost sp.scope h.sender s
        playSpeech h v (raiseSpurtEnd .lost sp left h.sender s)
      else s
    | .clearing _ offered _ =>
      let s := if offered then withdraw .clear s else s
      playSpeech h v (holdFloor h.sender (speechNumber v) s)

/-- A CLEAR of another station: the talker's frees a HELD floor; any other is ignored (R144, R145, R147, R148). -/
def hearClear (sender : Identity) (s : State) : State :=
  match s.floor.st with
  | .held r => if sender = r.talker then s.setFloorState .free else s
  | _ => s

/-! ## Halt notice (R149) -/

/-- The halt unit's notice acts by the floor state (R149). -/
def haltNotice (off : Offering) (s : State) : State :=
  match s.floor.st with
  | .own sp =>
    match sp.phase with
    | .talking => endSpurt off .overridden (raiseFloor .overridden sp.scope noSubject s)
    | .clearing _ _ _ => s
  | .claiming scope none =>
    match removalAnswer .claim s with
    | .removed => raiseFloor .overridden scope noSubject ((withdraw .claim s).setFloorState .free)
    | .onAir => (withdraw .claim s).setFloorState (.claiming scope (some .overridden))
    | .absent => s
  | _ => s

/-! ## The audio port (R150, R151, R156) -/

/-- The 20 ms frame boundaries (R150). -/
def audioFrameMs : Nat := 20

/-- The silence frame: six bytes of 00h (R156). -/
def silence : CodecFrame := 0

/-- A completed block enters the outlet as its newest; a full outlet loses its oldest, counted as discarded (R151). -/
def completeBlock (sp : Spurt) (frames : List CodecFrame) (f : Floor) : Floor :=
  let block : VoiceBlock := { number := sp.nextNo, frames := frames }
  let sp := { sp with nextNo := sp.nextNo + 1, assembly := [] }
  if f.outlet.length < outletCapacity then { f with st := .own sp, outlet := f.outlet ++ [block] }
  else { f with st := .own { sp with discarded := min 255 (sp.discarded + 1) }, outlet := f.outlet.drop 1 ++ [block] }

/-- The codec frame that a boundary completes goes to the block under assembly in OWN and TALKING, if its 20 ms began at a
boundary after the floor became OWN (R150, R151). -/
def assemble (codec : CodecFrame) (f : Floor) : Floor :=
  match f.st with
  | .own sp =>
    match sp.phase with
    | .talking =>
      if sp.started then
        let frames := sp.assembly ++ [codec]
        if frames.length < 10 then { f with st := .own { sp with assembly := frames } } else completeBlock sp frames f
      else { f with st := .own { sp with started := true } }
    | .clearing _ _ _ => f
  | _ => f

/-- A playout block whose tenth codec frame has been sent leaves the buffer at the boundary (R156). -/
def retireBlock (f : Floor) : Floor :=
  if 10 ≤ f.playPos then { f with playout := f.playout.drop 1, playPos := 0 } else f

/-- The output chosen at a boundary: the next codec frame of the oldest block, or the silence frame (R156). -/
def choosePlayout (f : Floor) : Floor :=
  let f := retireBlock f
  match f.playout with
  | block :: _ => { f with ado := some (block.getD f.playPos silence), playPos := f.playPos + 1 }
  | [] => { f with ado := some silence }

/-- A frame boundary (R150, R151, R156). -/
def passBoundary (codec : CodecFrame) (f : Floor) : Floor :=
  let f := choosePlayout (assemble codec f)
  { f with boundary := f.boundary.map (· + audioFrameMs) }

end Sys2Proof.Machine
end

