-- ==== Sys2Proof/Machine/HaltOps.lean ====
section
/-! DEFINITION. The halt unit: the halt memory, the own halt record and its copies, the relay (R120 to R122, R126, R127). -/

namespace Sys2Proof.Machine

/-! ## The halt memory (R122) -/

/-- The most entries of the halt memory. -/
def haltMemoryCapacity : Nat := 8

/-- A pair stays in the memory for this many ms. -/
def haltMemoryMs : Nat := 5000

/-- An entry holds a pair. -/
def pairIs (originator : Identity) (number : Byte) (e : HaltEntry) : Bool :=
  e.originator == originator && e.number == number

/-- The entry of a pair. -/
def State.haltEntry (s : State) (originator : Identity) (number : Byte) : Option HaltEntry :=
  s.halt.memory.find? (pairIs originator number)

/-- The memory replaced. -/
def State.setMemory (m : List HaltEntry) (s : State) : State := s.setHalt { s.halt with memory := m }

/-- An entry is removed; a relay of it in QUEUED is withdrawn (R122). -/
def forgetPair (e : HaltEntry) (s : State) : State :=
  let t := s.setMemory (s.halt.memory.filter (fun x => !pairIs e.originator e.number x))
  if e.relayQueued then withdraw (.relay e.originator e.number) t else t

/-- The entry heard first; of two heard together, the one made first (R122). -/
def earliestHeard : List HaltEntry → Option HaltEntry
  | [] => none
  | e :: es =>
    match earliestHeard es with
    | some x => if e.firstHeard ≤ x.firstHeard then some e else some x
    | none => some e

/-- In a full memory the entry heard first is removed (R122). -/
def roomForPair (s : State) : State :=
  if s.halt.memory.length < haltMemoryCapacity then s
  else
    match earliestHeard s.halt.memory with
    | some e => forgetPair e s
    | none => s

/-- A pair is entered with relay state NONE and this moment as first heard (R122). A pair already held is not entered
again, since no two entries hold the same pair. -/
def enterPair (originator : Identity) (number : Byte) (s : State) : State :=
  if (s.haltEntry originator number).isSome then s
  else
    let t := roomForPair s
    t.setMemory (t.halt.memory ++ [{ originator := originator, number := number, firstHeard := t.now,
                                     relayQueued := false }])

/-- The relay state of a pair, if it is in the memory (R127). -/
def setRelay (originator : Identity) (number : Byte) (queued : Bool) (s : State) : State :=
  s.setMemory (s.halt.memory.map (fun e => if pairIs originator number e then { e with relayQueued := queued } else e))

/-! ## The own halt (R120, R121) -/

/-- The spacing of halt copies in ms (R121). -/
def haltSpacingMs : Nat := 80

/-- The number of the next halt: the station clock modulo 256 for the first after reset, then one above the last (R121). -/
def State.nextHaltNumber (s : State) : Byte :=
  match s.halt.counter with
  | none => BitVec.ofNat 8 s.now
  | some n => n + 1

/-- The frame of an own halt copy (R120). -/
def State.haltFrame (s : State) (scope : Scope) (number : Byte) (copy : Nat) : Frame :=
  s.scopeFrame scope (.halt s.unitId number (BitVec.ofNat 8 copy) false)

/-- The own halt record replaced. -/
def State.setOwnHalt (o : OwnHalt) (s : State) : State := s.setHalt { s.halt with own := o }

/-- The copy that the own halt record names has left the air or has been dropped: the next copy follows with not-before
80 ms after this moment, and after copy 2 the record is IDLE. A next copy the queue refuses is a dropped one. A notice
that names another halt or copy is ignored (R121). The first argument bounds the repetition; three rounds suffice. -/
def haltCopyGone (off : Offering) : Nat → Byte → Nat → State → State
  | 0, _, _, s => s
  | n + 1, number, copy, s =>
    match s.halt.own with
    | .idle => s
    | .sending own scope current =>
      if own = number ∧ current = copy then
        if copy < 2 then
          let s := s.setOwnHalt (.sending own scope (copy + 1))
          match off (s.haltFrame scope own (copy + 1)) (some (s.now + haltSpacingMs)) (.haltCopy own (copy + 1)) s with
          | some t => t
          | none => haltCopyGone off n number (copy + 1) s
        else s.setOwnHalt .idle
      else s

/-- The three copies of a halt bound the rounds of `haltCopyGone`. -/
def haltCopies : Nat := 3

/-! ## The relay (R126) -/

/-- The drawn relay delay: 20, 40, 60, 80 or 100 ms (R126). -/
def State.relayDelay (s : State) : Nat := (s.drawn 5 + 1) * 20

/-- The relay frame of a pair (R126). -/
def State.relayFrame (s : State) (originator : Identity) (number : Byte) : Frame :=
  s.yardFrame (.halt originator number 0 true)

/-- A new authorized yard halt is relayed: one frame not before the drawn delay, the relay state QUEUED; a relay the queue
refuses is dropped and leaves the state NONE (R126, R127). -/
def relayHalt (off : Offering) (originator : Identity) (number : Byte) (s : State) : State :=
  let at_ := s.now + s.relayDelay
  let s := countDraw s
  match off (s.relayFrame originator number) (some at_) (.relay originator number) s with
  | some t => setRelay originator number true t
  | none => s

/-- A relay of the same pair from another station: a relay of this station still waiting is removed and its state turns
NONE; any other answer leaves the state (R127). -/
def suppressRelay (originator : Identity) (number : Byte) (s : State) : State :=
  match removalAnswer (.relay originator number) s with
  | .removed => setRelay originator number false (withdraw (.relay originator number) s)
  | .onAir => withdraw (.relay originator number) s
  | .absent => s

/-- The cause that a halt of a scope adds at a TRACTION (R112). -/
def haltCause : Scope → CauseSet
  | .crew => causeCrewHalt
  | .yard => causeYardHalt

/-- A halt of a scope adds its cause, at a TRACTION alone (R112, R120, R124). -/
def addHaltCause (scope : Scope) (subject : Identity) (s : State) : State :=
  if s.isTraction then addCause (haltCause scope) subject s else s

end Sys2Proof.Machine
end

