-- ==== Sys2Proof/Machine/StationOps.lean ====
section
/-! DEFINITION. Station control: the last activity time, the DORMANT notice, going dormant and waking (10 Dormancy and
Wake). -/

namespace Sys2Proof.Machine

/-! ## DORMANCY reports (R167) -/

/-- Events of a DORMANCY report. -/
inductive DormancyEvent where
  | entered | woke | cancelled | peerDormant | peerPresent
deriving DecidableEq, Repr

/-- The code of a DORMANCY event (R167). -/
def dormancyEventCode : DormancyEvent → Byte
  | .entered => 1 | .woke => 2 | .cancelled => 3 | .peerDormant => 4 | .peerPresent => 5

/-- A DORMANCY report with its wake cause, 0 where there is none (R167). -/
def raiseDormancy (e : DormancyEvent) (wake : Byte) (subject : Identity) (s : State) : State :=
  raise .dormancy false subject [dormancyEventCode e, wake] s

/-! ## Activity (R160) -/

/-- The last activity time becomes the present moment (R160). -/
def noteActivity (s : State) : State := s.setLife { s.life with activity := some s.now }

/-- The notice record replaced. -/
def State.setNotice (n : Notice) (s : State) : State := s.setLife { s.life with notice := n }

/-! ## The conditions (R161) -/

/-- A bond entry is STANDBY and holds no outstanding request (condition 4). -/
def restsInStandby : BondEntry → Bool
  | .op e => e.st == .standby && e.req.isNone
  | .tr e => e.st == .standby

/-- Every bond entry is STANDBY and holds no outstanding request (condition 4; R176). -/
def State.bondsRest (s : State) : Bool :=
  allSlots.all (fun i => match s.entry i with | some e => restsInStandby e | none => true)

/-- The floor state is FREE (condition 6). -/
def State.floorFree (s : State) : Bool :=
  match s.floor.st with
  | .free => true
  | _ => false

/-- The queue holds no entry but a DORMANT notice (condition 5, which the notice itself does not break: log 15). -/
def State.queueRests (s : State) : Bool := s.chan.queue.all (fun e => e.tag == .dormantNotice)

/-- The own halt record is IDLE (condition 8). -/
def State.ownHaltIdle (s : State) : Bool :=
  match s.halt.own with
  | .idle => true
  | .sending _ _ _ => false

/-- The probe record is NONE (condition 7). -/
def State.noProbe (s : State) : Bool :=
  match s.peers.probe with
  | .none => true
  | _ => false

/-- Conditions 4 to 9 (R161). -/
def State.dormancyQuiet (s : State) : Bool :=
  s.bondsRest && s.queueRests && s.floorFree && s.noProbe && s.ownHaltIdle && s.test.running.isNone

/-- Conditions 1 to 3 (R161). -/
def State.dormancyDelayPassed (s : State) : Bool :=
  (s.role == some .operator || s.role == some .assist) && s.cfg.dormancy != 0
    && s.life.st == .active && s.life.notice == .idle
    && (match s.life.activity with | some t => s.reached (t + s.cfg.dormancy) | none => false)

/-- The notice is to be offered: every condition of R161 holds. -/
def State.dormancyDue (s : State) : Bool :=
  s.dormancyDelayPassed && s.dormancyQuiet && s.chan.queue.isEmpty

/-! ## Withdrawing the notice (R163) -/

/-- A notice in QUEUED is withdrawn: REMOVED brings IDLE with a CANCELLED report, ON AIR brings WITHDRAWING, ABSENT changes
nothing (R163). -/
def withdrawNotice (s : State) : State :=
  match s.life.notice with
  | .queued =>
    match removalAnswer .dormantNotice s with
    | .removed => raiseDormancy .cancelled 0 noSubject ((withdraw .dormantNotice s).setNotice .idle)
    | .onAir => (withdraw .dormantNotice s).setNotice .withdrawing
    | .absent => s
  | _ => s

/-- The notice is withdrawn when one of the conditions 4 to 9 has ceased to hold (R162). -/
def judgeNotice (s : State) : State := if s.dormancyQuiet then s else withdrawNotice s

/-! ## Going dormant and waking (R162, R164, R165) -/

/-- Time between sniff windows and length of a window in ms (R164). -/
def sniffPeriodMs : Nat := 1000
def sniffWindowMs : Nat := 60

/-- The station enters DORMANT: the first window opens 1000 ms later, the playout buffer is emptied, the host is told
(R162, R156). -/
def enterDormant (s : State) : State :=
  let s := s.setLife { s.life with st := .dormant, notice := .idle, sniff := some (s.now + sniffPeriodMs), window := none }
  let s := s.setFloor { s.floor with playout := [], playPos := 0 }
  raiseDormancy .entered 0 noSubject s

/-- A PRESENT frame is offered; a refused or dropped one is not offered again (R165). -/
def sendPresent (off : Offering) (s : State) : State := offerOr off (s.crewFrame .present) .present s

/-- The notice has left the air: the station enters DORMANT from QUEUED, and ends the withdrawal from WITHDRAWING (R162,
R163). -/
def noticeSent (off : Offering) (s : State) : State :=
  match s.life.notice with
  | .queued => enterDormant s
  | .withdrawing => raiseDormancy .cancelled 0 noSubject (sendPresent off (s.setNotice .idle))
  | .idle => s

/-- The notice has been dropped: the record is IDLE, with no report (R162). -/
def noticeDropped (s : State) : State := s.setNotice .idle

/-- Wake causes (R167). -/
def wakeByCommand : Byte := 1
def wakeByPreamble : Byte := 2

/-- A DORMANT station wakes; a wake event that finds it in another life state does nothing (R165). -/
def wake (off : Offering) (cause : Byte) (s : State) : State :=
  if s.life.st = .dormant then
    let s := s.setLife { s.life with st := .active, sniff := none, window := none, activity := some s.now }
    raiseDormancy .woke cause noSubject (sendPresent off s)
  else s

end Sys2Proof.Machine
end

