-- ==== Sys2Proof/Machine/TransferOps.lean ====
section
/-! DEFINITION. The pending transfer of a traction in its two homes, its OFFER frames and its SETTLED (R97, R100). -/

namespace Sys2Proof.Machine

/-- A transfer lasts this many ms (R99). -/
def transferMs : Nat := 15000

/-- An OFFER follows the one before by this many ms (R100). -/
def offerRepeatMs : Nat := 5000

/-- The least time that must remain for a further OFFER, in ms (R100). -/
def offerLeastMs : Nat := 2000

/-- The slot that holds the attached transfer, with it (R97). -/
def State.attached (s : State) : Option (Fin 4 × Transfer) :=
  allSlots.findSome? (fun i => ((s.trEntry i).bind TrEntry.transfer).map (fun x => (i, x)))

/-- The pending transfer, in either home (R97). -/
def State.pendingTransfer (s : State) : Option Transfer := (s.attached.map Prod.snd).orElse (fun _ => s.bond.detached)

/-- The detached transfer replaced. -/
def State.setDetached (x : Option Transfer) (s : State) : State := s.setBond { s.bond with detached := x }

/-- The pending transfer is changed where it stands. -/
def modTransfer (f : Transfer → Transfer) (s : State) : State :=
  match s.attached with
  | some (i, _) => modTr i (fun e => { e with transfer := e.transfer.map f }) s
  | none => s.setDetached (s.bond.detached.map f)

/-- The transfer is cleared, with any OFFER of it still waiting (R97, R100). -/
def clearTransfer (s : State) : State :=
  withdraw .offer
    (match s.attached with
     | some (i, _) => agePeers (modTr i (fun e => { e with transfer := none }) s)
     | none => s.setDetached none)

/-- An OFFER has left the air or was dropped: the next is due 5000 ms later (R100). -/
def offerGone (s : State) : State := modTransfer (fun x => { x with nextOffer := some (s.now + offerRepeatMs) }) s

/-- An OFFER of the pending transfer is sent with the whole seconds that remain (R100). -/
def sendOffer (off : Offering) (s : State) : State :=
  match s.pendingTransfer with
  | some x =>
    let f := s.unitFrame x.target 0 (.offer x.handing (BitVec.ofNat 8 ((x.expiry - s.now) / 1000)))
    let s := modTransfer (fun y => { y with nextOffer := none }) s
    match off f none .offer s with
    | some t => t
    | none => offerGone s
  | none => s

/-- A SETTLED frame is offered to the handing operator; it is not offered again (R104, R106, R107, R110). -/
def sendSettled (off : Offering) (outcome : SettledOutcome) (handing : Identity) (s : State) : State :=
  offerOr off (s.unitFrame handing 0 (.settled outcome)) .settled s

/-- The target's entry, if it is STANDBY with offered set, is removed with a BOND report (R104, R107, R108). -/
def removeOffered (target : Identity) (cause : BondCause) (s : State) : State :=
  match s.findTr target with
  | some (i, e) =>
    if e.st = .standby ∧ e.offered = true then raiseBond i target 0 cause (freeEntry i s) else s
  | none => s

end Sys2Proof.Machine
end

