-- ==== Sys2Proof/Machine/Notices.lean ====
section
/-! DEFINITION. The notices of the channel access unit, "sent" and "dropped", handed to the owner an entry's tag names
(R29, R32, R34, R35), and the way a block offers a frame. -/

namespace Sys2Proof.Machine

/-- Results of an ECHO report (R50). -/
inductive EchoResult where
  | echoed | unmatched | silent | dropped
deriving DecidableEq, Repr

/-- The code of an ECHO result (R50). -/
def echoResultCode : EchoResult → Byte
  | .echoed => 0 | .unmatched => 1 | .silent => 2 | .dropped => 3

/-- The probe record replaced. -/
def State.setProbe (p : ProbeRec) (s : State) : State := s.setPeers { s.peers with probe := p }

/-- An ECHO report for a probe that ended without an echo: its detail is the result alone (R50). -/
def endProbe (r : EchoResult) (target : Identity) (s : State) : State :=
  raise .echo false target [echoResultCode r] (s.setProbe .none)

/-- The PROBE has been dropped (R49). -/
def probeDropped (s : State) : State :=
  match s.peers.probe with
  | .queued target _ => endProbe .dropped target s
  | _ => s

/-- The PROBE has left the air (R49). -/
def probeSent (s : State) : State :=
  match s.peers.probe with
  | .queued target pattern => s.setProbe (.awaiting target pattern s.now)
  | _ => s

/-- The owner of a tag is told "dropped" (R34, R35). STATUS, ANSWER, CHECK, BIND-REPLY, SETTLED, ECHO, PRESENT and NOTE
frames are not offered again and change nothing. -/
def ownerDropped (off : Offering) (tag : OwnerTag) (s : State) : State :=
  match tag with
  | .request i kind seq => requestDropped off i kind seq s
  | .offer => offerGone s
  | .haltCopy number copy => haltCopyGone off haltCopies number copy s
  | .relay originator number => setRelay originator number false s
  | .claim => claimDropped s
  | .clear => clearGone s
  | .dormantNotice => noticeDropped s
  | .probe => probeDropped s
  | .check _ | .status | .answer | .bindReply | .settled | .present | .echo | .note => s

/-- The owner of a tag is told "sent" (R29). -/
def ownerSent (off : Offering) (tag : OwnerTag) (s : State) : State :=
  match tag with
  | .request i kind seq => requestSent i kind seq s
  | .offer => offerGone s
  | .haltCopy number copy => haltCopyGone off haltCopies number copy s
  | .relay originator number => setRelay originator number false s
  | .claim => claimSent off s
  | .clear => clearGone s
  | .dormantNotice => noticeSent off s
  | .probe => probeSent s
  | .check _ | .status | .answer | .bindReply | .settled | .present | .echo | .note => s

/-- Offers made while an owner is told of a drop at a cut. They never displace an entry, since the owner of the frame just
dropped has no frame of a more urgent class to send, and no one is to be told. -/
def offerQuiet : Offering := fun f notBefore tag s => (makeRoom (kindClass (frameKind f)) s).map fun r => arrive f notBefore tag r.1

/-- Offers made while the owner of a displaced entry is told of the drop: the place just freed is the arrival's (R34; log
20), so one place fewer is left. -/
def offerBeside : Offering := fun f notBefore tag s =>
  if s.chan.queue.length + 1 < queueCapacity then some (arrive f notBefore tag s) else none

/-- An owner that has a tag to be told of is told "dropped". -/
def tellDropped (off : Offering) (tag : Option OwnerTag) (s : State) : State :=
  match tag with
  | some t => ownerDropped off t s
  | none => s

/-- A class 0 arrival cuts a wake burst in its LEAD or WAKE phase; the owner of an entry withdrawn on air is then told
"dropped" (R31, R32). -/
def classZeroArrival (s : State) : State :=
  if s.cuttable then
    let r := cutBurst s
    tellDropped offerQuiet r.2 r.1
  else s

/-- A frame has been taken: a class 0 frame without a not-before time cuts a wake burst (R31). -/
def afterArrival (f : Frame) (notBefore : Option Nat) (s : State) : State :=
  if kindClass (frameKind f) = .c0 ∧ notBefore = none then classZeroArrival s else s

/-- A block offers a frame: `none` when the queue refuses it. The owner of a displaced entry is told "dropped", then the
frame is taken, then a class 0 frame without a not-before time cuts a wake burst (R21, R31, R34, R35; log 20). -/
def offer : Offering := fun f notBefore tag s =>
  (makeRoom (kindClass (frameKind f)) s).map fun r =>
    afterArrival f notBefore (arrive f notBefore tag (tellDropped offerBeside r.2 r.1))

/-- An offer whose refusal changes nothing more. -/
def offerAnyway (f : Frame) (tag : OwnerTag) (s : State) : State := offerOr offer f tag s

end Sys2Proof.Machine
end

