-- ==== Sys2Proof/Machine/TractionOps.lean ====
section
/-! DEFINITION. The traction's side of a bond: contact, duplicates, the ANSWER and the record of a request, control given and
lost, the completion of a transfer (04, 05, 06). -/

namespace Sys2Proof.Machine

/-! ## Periods and histories (R77, R91, R94) -/

/-- The effective period at the traction: the carried one, but at least 1000 ms at a station configured at QUARTER (R77). -/
def State.trPeriod (s : State) (units : Byte) : Nat :=
  if s.cfg.rate = .quarter then max (units.toNat * 100) 1000 else units.toNat * 100

/-- A period closes: its mark becomes the newest and the oldest is dropped (R91, R94). -/
def addMark (heard : Bool) (history : List Mark) : List Mark :=
  history.drop 1 ++ [if heard then .heard else .missed]

/-- The loss rule: 5 or more MISSED among the marks, or the 3 newest all MISSED (R91, R94). -/
def lossRule (history : List Mark) : Bool :=
  decide (5 ≤ history.count .missed) || ((history.drop 5).length == 3 && (history.drop 5).all (· == .missed))

/-- The traction-side supervision fields of a slot are changed. -/
def modSup (i : Fin 4) (f : TrSup → TrSup) (s : State) : State := modTr i (fun e => { e with sup := e.sup.map f }) s

/-- The entry takes a carried period, from its next period (R77). -/
def takePeriod (i : Fin 4) (units : Byte) (s : State) : State := modSup i (fun x => { x with period := s.trPeriod units }) s

/-! ## Contact (R92) -/

/-- No other entry is LOST: a LOST entry that leaves that state ends LINK (R92, R96). -/
def endLinkIfLost (i : Fin 4) (e : TrEntry) (s : State) : State :=
  if e.st = .lost ∧ s.otherTr i (fun x => x.st == .lost) = false then faultEnd .link e.operator s else s

/-- Contact from the sender of a frame: its period is heard, and a LOST entry returns to CONTROLLING with its history
refilled, a BOND report and the end of LINK (R92). -/
def contact (sender : Identity) (s : State) : State :=
  match s.findTr sender with
  | some (i, e) =>
    if inControl e then
      let s := modSup i (fun x => { x with heard := true }) s
      if e.st = .lost then
        let s := modTr i (fun x => { x with st := .controlling, lostSince := none
                                            sup := x.sup.map (fun y => { y with history := freshHistory }) }) s
        endLinkIfLost i e (raiseBond i sender 4 .regained s)
      else s
    else s
  | none => s

/-! ## Requests (R67, R68, R76) -/

/-- An ANSWER to a station (R17). -/
def sendAnswer (dest : Identity) (kind : Kind) (seq : BitVec 4) (verdict : Verdict) (reason : Option Reason) (s : State) :
    State :=
  offerAnyway (s.unitFrame dest 0 (.answer kind seq verdict reason)) .answer s

/-- The recorded answer of which a request frame is a duplicate (R67). -/
def State.duplicate (s : State) (sender : Identity) (kind : Kind) (seq : BitVec 4) : Option LastReq :=
  (s.findTr sender).bind fun x => x.2.last.filter fun l => l.kind == kind && l.seq == seq

/-- What follows the ANSWER and its record. -/
inductive Sequel where
  | none
  | firstOffer
  | settled (outcome : SettledOutcome) (handing : Identity)
deriving DecidableEq, Repr

/-- A judgement of a request: the state after it, its outcome and reason, and what follows the ANSWER. -/
structure Judged where
  state : State
  verdict : Verdict
  reason : Option Reason
  sequel : Sequel

/-- A refusal changes nothing. -/
def refuse (r : Reason) (s : State) : Judged := ⟨s, .refused, some r, .none⟩

/-- An acceptance with the state it leaves. -/
def accept (s : State) : Judged := ⟨s, .accepted, none, .none⟩

/-- A request answered BUSY changes nothing. -/
def busy (s : State) : Judged := ⟨s, .busy, none, .none⟩

/-- An ACCEPTED or REFUSED request is recorded in the slot of the sender's entry, if that still stands (R68). -/
def recordRequest (slot : Option (Fin 4)) (kind : Kind) (seq : BitVec 4) (verdict : Verdict) (reason : Option Reason)
    (s : State) : State :=
  if verdict = .busy then s
  else
    match slot with
    | some i => modTr i (fun e => { e with last := some { kind := kind, seq := seq, verdict := verdict, reason := reason } }) s
    | none => s

/-- What follows the ANSWER. -/
def runSequel (q : Sequel) (s : State) : State :=
  match q with
  | .none => s
  | .firstOffer => sendOffer offer s
  | .settled outcome handing => sendSettled offer outcome handing s

/-- A judged request is answered, recorded in the slot that the sender had when it came, and followed up (R76, steps 4
and 5). -/
def answerRequest (h : Header) (kind : Kind) (slot : Option (Fin 4)) (j : Judged) : State :=
  runSequel j.sequel
    (recordRequest slot kind h.seq j.verdict j.reason (sendAnswer h.sender kind h.seq j.verdict j.reason j.state))

/-- A request frame for this station in the order of R76: another role refuses it ROLE; a traction takes contact, answers a
duplicate from the record, and otherwise judges, answers and records it. -/
def takeRequest (h : Header) (kind : Kind) (isContact : Bool) (judge : State → Judged) (s : State) : State :=
  if s.isTraction then
    let s := if isContact then contact h.sender s else s
    match s.duplicate h.sender kind h.seq with
    | some l => sendAnswer h.sender l.kind l.seq l.verdict l.reason s
    | none => answerRequest h kind (s.trSlot h.sender) (judge s)
  else sendAnswer h.sender kind h.seq .refused (some .role) s

/-! ## Judging the sender -/

/-- Some entry of another operator is CONTROLLING or LOST. -/
def State.heldByOther (s : State) (sender : Identity) : Bool :=
  allSlots.any (fun i => (s.trEntry i).any (fun e => inControl e && e.operator != sender))

/-- The sender's entry is CONTROLLING. -/
def State.controls (s : State) (sender : Identity) : Bool :=
  match s.findTr sender with
  | some (_, e) => e.st == .controlling
  | none => false

/-- The reason for a sender that is not CONTROLLING: HELD, NOT-BOUND or STATE (R86, R88, R99). -/
def State.notInControl (s : State) (sender : Identity) : Reason :=
  if s.heldByOther sender then .held else if (s.trSlot sender).isNone then .notBound else .state

/-! ## Control given and left (R79, R82, R106) -/

/-- An entry becomes CONTROLLING with a fresh history, and its first period begins (R79, R106). -/
def giveControl (i : Fin 4) (period : Nat) (s : State) : State :=
  modTr i (fun e =>
    { e with st := .controlling, offered := false, lostSince := none
             sup := some { period := period, history := freshHistory, heard := false, closeAt := s.now + period } }) s

/-- The transfer an entry holds is taken out of it and held apart (R97). -/
def detachTransfer (i : Fin 4) (s : State) : State :=
  match s.trEntry i with
  | some e =>
    match e.transfer with
    | some x => agePeers (modTr i (fun y => { y with transfer := none }) (s.setDetached (some x)))
    | none => s
  | none => s

/-- An entry returns to STANDBY and drops its supervision fields (R82, R96, R106). -/
def toStandby (i : Fin 4) (s : State) : State := modTr i (fun e => { e with st := .standby, sup := none, lostSince := none }) s

/-- UNATTENDED is added when a change of the table has left no entry CONTROLLING or LOST (R116). -/
def addUnattended (subject : Identity) (s : State) : State :=
  if s.anyInControl then s else addCause causeUnattended subject s

/-- A pending transfer whose target has lost its entry is cleared (R108); also the handing operator to be told. -/
def clearIfTarget (target : Identity) (s : State) : State × Sequel :=
  match s.pendingTransfer with
  | some x => if x.target = target then (clearTransfer s, .settled .declined x.handing) else (s, .none)
  | none => (s, .none)

/-- The entry that holds an attached transfer leaves control at its completion: CONTROLLING turns to STANDBY, LOST is
removed and ends LINK (R106). -/
def handOver (i : Fin 4) (s : State) : State :=
  match s.trEntry i with
  | some e =>
    match e.st with
    | .controlling => raiseBond i e.operator 2 .transferred (toStandby i s)
    | .lost => endLinkIfLost i e (raiseBond i e.operator 0 .transferred (freeEntry i s))
    | .standby => s
  | none => s

/-- The pending transfer completes for the entry of its target, with the cause of the target's BOND report (R106, R108). -/
def completeTransfer (i : Fin 4) (target : Identity) (period : Nat) (cause : BondCause) (s : State) : State :=
  let holder := s.attached.map Prod.fst
  let s := raiseBond i target 4 cause (giveControl i period s)
  match holder with
  | some j => handOver j (clearTransfer s)
  | none => clearTransfer s

end Sys2Proof.Machine
end

