-- ==== Sys2Proof/Machine/Receive.lean ====
section
/-! DEFINITION. The way of a received frame: the end of reading, the tests of acceptance, the peer table's learning, the
handing to an owner (R6, R7, R9 to R11, R40, R41, R46, R47). -/

namespace Sys2Proof.Machine

/-- The hunter returns to HUNTING at the end of a frame, and the view is judged (R6, R19). -/
def endReading (s : State) : State := judgeView (s.setModem .hunting)

/-! ## Conflicts (R10, R47) -/

/-- The time a conflict stays live, in ms (R10, R47). -/
def conflictMs : Nat := 30000

/-- A frame shows a conflict over an identity: the deadline is set 30 s after its stamp, and IDCONFLICT is live if the
deadline was absent (R10, R47). -/
def showConflict (id : Identity) (stamp : Nat) (s : State) : State :=
  match s.peers.conflict with
  | some c => s.setPeers { s.peers with conflict := some { c with deadline := stamp + conflictMs } }
  | none =>
    faultLive .idConflict id (s.setPeers { s.peers with conflict := some { deadline := stamp + conflictMs, id := id } })

/-! ## Learning (R40, R41, R46) -/

/-- The rate a frame states: the traction rate of a BIND-REPLY, the responder rate of an ECHO (R41). -/
def statedRate : Body → Option Rate
  | .bindReply _ _ rate _ _ => some rate
  | .echo _ rate _ => some rate
  | _ => none

/-- The learned rate after a frame: a stated rate, else the faster of what was known and the frame's rate (R41). -/
def learnedRate (known rate : Rate) (b : Body) : Rate := (statedRate b).getD (faster known rate)

/-- The frame sets the sender's dormant mark; any other clears it (R46). -/
def isDormant : Body → Bool
  | .dormant => true
  | _ => false

/-- An entry's role and crew differ from those of a header (R47). -/
def conflicts (p : PeerEntry) (h : Header) : Bool :=
  match p.role, p.crew with
  | some r, some c => r != h.role || c != h.crew
  | _, _ => false

/-- An entry updated by a frame heard (R41, R46). An unheard entry takes role and crew from the header. -/
def updatePeer (p : PeerEntry) (f : Frame) (rate : Rate) (stamp quality : Nat) : PeerEntry :=
  { p with role := some (p.role.getD f.header.role), crew := some (p.crew.getD f.header.crew)
           rate := learnedRate p.rate rate f.body, quality := some quality, lastHeard := some stamp
           dormant := isDormant f.body }

/-- The entry a first frame makes (R40). -/
def newPeer (f : Frame) (rate : Rate) (stamp quality now : Nat) : PeerEntry :=
  { id := f.header.sender, role := some f.header.role, crew := some f.header.crew
    rate := learnedRate rate rate f.body, quality := some quality, lastHeard := some stamp, created := now
    dormant := isDormant f.body }

/-- The peer table learns the sender of a frame (R40, R41, R46, R47). -/
def learn (f : Frame) (rate : Rate) (stamp quality : Nat) (s : State) : State :=
  match s.peer f.header.sender with
  | some p =>
    let t := s.setEntries (s.peers.entries.map fun q =>
      if q.id = p.id then updatePeer q f rate stamp quality else q)
    let t := if conflicts p f.header then showConflict p.id stamp t else t
    if p.dormant = isDormant f.body then t else refreshWake t
  | none =>
    let t := addPeer (newPeer f rate stamp quality s.now) s
    if isDormant f.body then refreshWake t else t

/-! ## For this station (R11) -/

/-- A frame is for this station (R11). -/
def State.forMe (s : State) (h : Header) : Bool :=
  match h.mode with
  | .unit => h.dest == s.unitId
  | .crew => h.dest == s.cfg.crew.setWidth 24
  | .yard => true

/-- The kinds the floor unit takes whatever their scope (R11). -/
def floorKind : Kind → Bool
  | .claim | .clear | .voice => true
  | _ => false

/-- The kinds that set no last activity time (R160). -/
def quietKind : Kind → Bool
  | .present | .dormant => true
  | _ => false

/-- A frame for this station, other than a PRESENT or a DORMANT, is activity and withdraws a DORMANT notice (R160, R162). That
a HALT which the screen of R123 then discards is no exception is the model's choice (log 38). -/
def frameActivity (f : Frame) (s : State) : State :=
  if s.forMe f.header && !quietKind (frameKind f) then withdrawNotice (noteActivity s) else s

/-- What an owner does with a frame, given the frame's time stamp and quality class. -/
abbrev Owner := Nat → Nat → State → State

/-- A well-formed frame of another station: learned, then handed to its owner if it is for this station or the floor unit
takes it (R11). The notice is withdrawn if the owner's work has ended its conditions (R162). Activity is noted before the
owner's work, so before the screen of R123: the model's choice (log 38). -/
def deliver (f : Frame) (rate : Rate) (stamp quality : Nat) (owner : Owner) (s : State) : State :=
  let s := learn f rate stamp quality s
  if s.forMe f.header || floorKind (frameKind f) then judgeNotice (owner stamp quality (frameActivity f s)) else s

/-- A checked frame: delivered in ACTIVE alone; a malformed frame ends there, and a frame of the own identity shows a
conflict (R7, R9, R10; log 6). -/
def acceptFrame (f : Frame) (rate : Rate) (stamp quality : Nat) (owner : Owner) (s : State) : State :=
  if s.life.st = .active ∧ frameWellFormed f = true then
    if f.header.sender = s.unitId then showConflict s.unitId stamp s else deliver f rate stamp quality owner s
  else s

/-- A received-frame event: it ends the reading of a frame and takes the frame. In any other receive state no frame ends,
and nothing changes (R6, R8; log 3). -/
def receive (dev : Nat) (f : Frame) (owner : Owner) (s : State) : State :=
  match s.modem with
  | .inFrame rate _ stamp => acceptFrame f rate stamp (qualityClass dev) owner (endReading s)
  | _ => s

end Sys2Proof.Machine
end

