-- ==== Sys2Proof/Machine/HostOps.lean ====
section
/-! DEFINITION. The host link: taking a command, its answer, the data of READ-STATE, READ-PEER, READ-BOND and FETCH, and the
reset of the part (12 Host Link, Configuration and Start). -/

namespace Sys2Proof.Machine

/-! ## Answers (R180, R181) -/

/-- The code of a result (01, Host link packets). -/
def resultCode : ResultCode → Byte
  | .ok => 0 | .busy => 1 | .refused => 2 | .notReady => 3 | .bad => 4 | .unconfigured => 5

/-- The bytes of an answer packet: result, length, data (01, Host link packets). -/
def answerBytes (a : Answer) : List Byte := resultCode a.result :: BitVec.ofNat 8 a.data.length :: a.data

/-- OK with data. -/
def okWith (data : List Byte) : Prepared := .plain ⟨.ok, data⟩

/-- OK without data. -/
def okAnswer : Prepared := okWith []

/-- BUSY. -/
def busyAnswer : Prepared := .plain ⟨.busy, []⟩

/-- BAD. -/
def badAnswer : Prepared := .plain ⟨.bad, []⟩

/-- NOT-READY. -/
def notReadyAnswer : Prepared := .plain ⟨.notReady, []⟩

/-- UNCONFIGURED. -/
def unconfiguredAnswer : Prepared := .plain ⟨.unconfigured, []⟩

/-- REFUSED, with its reason code as the one data byte (R181). -/
def refusedAnswer (r : Reason) : Prepared := .plain ⟨.refused, [reasonCode r]⟩

/-- The exchange is in RECEIVING. -/
def State.receiving (s : State) : Bool :=
  match s.host.exchange with
  | .receiving => true
  | _ => false

/-- The command is taken and its answer is being made ready (R180). -/
def prepare (a : Prepared) (s : State) : State := s.setHost { s.host with exchange := .preparing s.now a }

/-- A command's own rule: its effect and its answer. -/
abbrev Command := State → State × Prepared

/-- A command's own rule is run and answered. -/
def runCommand (c : Command) (s : State) : State := prepare (c s).2 (c s).1

/-- A complete command packet with a count its command takes (R181, cases 1 and 3 to 5), with what R160, R162 and R165 do
at a command taken, before its own rule: READ-STATE's seconds since the last activity are then 0, the model's choice (log
31), and a queued DORMANT notice is withdrawn even where the rule then answers BAD, the model's choice too (log 34). A packet
is complete only in RECEIVING; in another phase its bytes are ignored (R180, log 13). -/
def takeCommand (inSetup : Bool) (c : Command) (s : State) : State :=
  if s.receiving then
    match s.life.st with
    | .init => prepare notReadyAnswer s
    | .setup =>
      if inSetup then runCommand c (noteActivity s)
      else prepare (if s.life.config.isNone then unconfiguredAnswer else refusedAnswer .state) (noteActivity s)
    | .active => runCommand c (withdrawNotice (noteActivity s))
    | .dormant => runCommand c (wake offer wakeByCommand s)
  else s

/-- A packet with an unknown code or a wrong count: NOT-READY in INIT and BAD otherwise, with no other effect (R181). -/
def rejectPacket (s : State) : State :=
  if s.receiving then prepare (if s.life.st = .init then notReadyAnswer else badAnswer) s else s

/-! ## Reset (R183) -/

/-- The part after a reset: every block at its reset values and the clock at 0. The identity, the levels of the input
lines, the supervision timer and the commands still to come are not reset (log 11, log 12, log 24). -/
def afterReset (s : State) : State :=
  { State.reset with pending := s.pending, unitId := s.unitId, resets := s.resets + 1, supTimer := s.supTimer, pins := s.pins }

/-! ## Report records (R186; 01, Report record) -/

/-- The code of a report kind. -/
def reportKindCode : ReportKind → Byte
  | .haltHeard => 0x01 | .stopChange => 0x02 | .bond => 0x03 | .outcome => 0x04 | .offer => 0x05 | .settled => 0x06
  | .dormancy => 0x07 | .floor => 0x08 | .spurtEnd => 0x09 | .note => 0x0A | .echo => 0x0B | .fault => 0x0C
  | .testDone => 0x0D | .authority => 0x0E

/-- Byte 1 of a record: lost-before in bit 1, urgent in bit 0. -/
def recordFlags (r : Report) : Byte := (BitVec.ofBool r.lostBefore ++ BitVec.ofBool r.urgent).setWidth 8

/-- A record as FETCH returns it, with the text of a NOTE after the detail (R186). -/
def recordBytes (r : Report) : List Byte :=
  [reportKindCode r.kind, recordFlags r] ++ be32 r.time ++ identityBytes r.subject
    ++ [BitVec.ofNat 8 r.detail.length] ++ r.detail ++ r.text

/-! ## Fields of the reading commands -/

/-- A count saturating at 255 as a byte. -/
def satByte (n : Nat) : Byte := BitVec.ofNat 8 (min n 255)

/-- A count saturating at 65535 as two bytes. -/
def satWord (n : Nat) : List Byte := be16 (min n 65535)

/-- Whole seconds of ms, rounded down. -/
def wholeSeconds (ms : Nat) : Nat := ms / 1000

/-- A history as a byte: bit 7 oldest to bit 0 newest, 1 for MISSED (R189). -/
def historyByte (h : List Mark) : Byte := h.foldl (fun b m => b * 2 + if m = .missed then 1 else 0) 0

/-- An identity or 000000h. -/
def identityOr (i : Option Identity) : List Byte := identityBytes (i.getD 0)

/-- Life state codes (R188). -/
def lifeCode : LifeState → Byte
  | .init => 0 | .setup => 1 | .active => 2 | .dormant => 3

/-- Channel view codes (R188). -/
def viewCode : ChanView → Byte
  | .free _ => 0 | .busy => 1 | .own => 2

/-- Floor state codes (R188). -/
def floorCode : FloorState → Byte
  | .free => 0 | .claiming _ _ => 1 | .own _ => 2 | .held _ => 3

/-- Port state codes (R188). -/
def portCode : PortState → Byte
  | .idle => 0 | .setup _ => 1 | .strobe _ _ _ _ => 2 | .waitAck _ => 3 | .waitRelease _ => 4 | .failed => 5

/-- Result codes of a self-test (R188). -/
def testResultCode : TestResult → Byte
  | .notRun => 0 | .pass => 1 | .fail => 2

/-- Codes of the test running (R188). -/
def runningCode : Option RunningTest → Byte
  | none => 0 | some (.loop _ _) => 1 | some (.stopline _ _ _) => 2 | some (.timer _ _) => 3

/-- Notice record codes (R188). -/
def noticeCode : Notice → Byte
  | .idle => 0 | .queued => 1 | .withdrawing => 2

/-- Bytes 1 to 3 of READ-STATE: role, crew and rate; FFh, 00h, FFh before CONFIGURE (R188). -/
def configBytes (c : Option ConfigRec) : List Byte :=
  match c with
  | some c => [(roleCode c.role).setWidth 8, c.crew, rateCode c.rate]
  | none => [0xFF, 0, 0xFF]

/-- The time since t while FREE, and 0 otherwise (R188). -/
def freeMs (v : ChanView) (now : Nat) : Nat :=
  match v with
  | .free t => now - t
  | _ => 0

/-- Bytes 16 to 19 of READ-STATE: the talker in HELD; the missed blocks in HELD or the blocks sent in OWN (R188). -/
def floorBytes (f : FloorState) : List Byte :=
  match f with
  | .held h => identityBytes h.talker ++ [satByte h.missed]
  | .own sp => [0, 0, 0, satByte sp.sent]
  | _ => [0, 0, 0, 0]

/-- A movement record as two bytes; 0 where none is held. -/
def recordField (r : Option MoveRecord) : List Byte :=
  match r with
  | some r => be16 (recordWord r).toNat
  | none => [0, 0]

/-- The 48 bytes of READ-STATE (R188). -/
def readStateBytes (s : State) : List Byte :=
  [lifeCode s.life.st] ++ configBytes s.life.config ++ be32 s.now ++ [viewCode s.chan.view]
    ++ satWord (freeMs s.chan.view s.now)
    ++ [BitVec.ofNat 8 s.chan.queue.length, BitVec.ofNat 8 s.peers.entries.length] ++ causeBytes s.stop.causes
    ++ [floorCode s.floor.st] ++ floorBytes s.floor.st
    ++ [BitVec.ofNat 8 s.floor.outlet.length, BitVec.ofNat 8 s.floor.playout.length, portCode s.port.st,
        flagCode s.port.slot.isSome]
    ++ recordField s.port.slot ++ recordField (some s.port.last)
    ++ [(s.speed ++ BitVec.ofBool s.ready ++ BitVec.ofBool s.still).setWidth 8, s.fault.live.setWidth 8,
        s.fault.held.setWidth 8, s.fault.selects.setWidth 8, runningCode s.test.running, testResultCode s.test.loop,
        testResultCode s.test.stopline, testResultCode s.test.timer, flagCode s.test.gate, noticeCode s.life.notice]
    ++ satWord (match s.life.activity with | some t => wholeSeconds (s.now - t) | none => 0)
    ++ [BitVec.ofNat 8 s.host.reports.length, (BitVec.ofBool s.host.srq ++ BitVec.ofBool s.host.lost).setWidth 8]
    ++ identityOr (s.bond.detached.map Transfer.target)
    ++ [satByte (match s.bond.detached with | some x => wholeSeconds (x.expiry - s.now) | none => 0), 0, 0]

/-- One peer entry as READ-PEER returns it (R51; 01, Host link packets). -/
def peerBytes (p : PeerEntry) (s : State) : List Byte :=
  identityBytes p.id
    ++ [match p.role with | some r => (roleCode r).setWidth 8 | none => 0xFF, p.crew.getD 0, rateCode p.rate,
        match p.quality with | some q => BitVec.ofNat 8 q | none => 0xFF, flagCode p.dormant, flagCode (s.pinned p.id)]
    ++ satWord (wholeSeconds (s.now - heardBase p))

/-- The code of a request's phase (R189). -/
def phaseCode : ReqPhase → BitVec 2
  | .queued => 0 | .awaiting _ => 1 | .retry _ => 2

/-- Bytes 5 to 7 of an operator-side entry: kind, sequence, resend count and phase of its request (R189). -/
def requestBytes (q : Option Request) : List Byte :=
  match q with
  | some q => [kindCode (reqKind q.body), q.seq.setWidth 8, (phaseCode q.phase ++ BitVec.ofNat 2 q.resends).setWidth 8]
  | none => [0, 0, 0]

/-- The period of an entry in units of 100 ms. -/
def periodByte (ms : Nat) : Byte := BitVec.ofNat 8 (ms / 100)

/-- An operator-side entry as READ-BOND returns it (R189). -/
def opEntryBytes (e : OpEntry) (now : Nat) : List Byte :=
  [opStateCode e.st] ++ identityBytes e.traction ++ [e.nextSeq.setWidth 8] ++ requestBytes e.req
    ++ [flagCode e.handing.isSome, (e.link.map OpLink.check).getD 0, periodByte ((e.link.map OpLink.period).getD 0),
        historyByte ((e.sup.map OpSup.history).getD [])]
    ++ identityOr (e.handing.orElse (fun _ => e.offer.map Offer.controller))
    ++ [satByte (match e.offer with | some o => wholeSeconds (o.expiry - now) | none => 0)]

/-- Bytes 5 to 8 of a traction-side entry: the last accepted request and its answer (R189). -/
def lastBytes (l : Option LastReq) : List Byte :=
  match l with
  | some l => [kindCode l.kind, l.seq.setWidth 8, verdictCode l.verdict, (l.reason.map reasonCode).getD 0]
  | none => [0, 0, 0, 0]

/-- A traction-side entry as READ-BOND returns it (R189). -/
def trEntryBytes (e : TrEntry) (now : Nat) : List Byte :=
  [trStateCode e.st] ++ identityBytes e.operator ++ [flagCode e.offered] ++ lastBytes e.last
    ++ [flagCode ((e.sup.map TrSup.heard).getD false), periodByte ((e.sup.map TrSup.period).getD 0),
        historyByte ((e.sup.map TrSup.history).getD [])]
    ++ identityOr (e.transfer.map Transfer.target)
    ++ [satByte (match e.transfer, e.lostSince with
         | some x, _ => wholeSeconds (x.expiry - now)
         | none, some t => wholeSeconds (now - t)
         | none, none => 0)]

/-- A slot as READ-BOND returns it: one byte 00h for a free slot, 16 bytes for an entry (R189). -/
def slotBytes (e : Option BondEntry) (now : Nat) : List Byte :=
  match e with
  | some (.op e) => opEntryBytes e now
  | some (.tr e) => trEntryBytes e now
  | none => [0]

/-- The identification record: part code 24, revision 3, unit identity (R183; 01, Host link packets). -/
def idBytes (s : State) : List Byte := [24, 3] ++ identityBytes s.unitId

end Sys2Proof.Machine
end

