-- ==== Sys2Proof/Machine/HostLink.lean ====
section
/-! DEFINITION. The meanings of the reset, of the exchange on the host link, and of the commands of configuration, start and
reading (12; 03, Reading the Table). -/

namespace Sys2Proof.Machine

/-- RESETN held active and released: every block at its reset values, the clock at 0, INIT begun (R183). -/
def execResetn (s : State) : Host.Outcome State Fault Refusal := .next (afterReset s)

/-- INIT lasts this many ms (R183). -/
def initMs : Nat := 5

/-- INIT is over. -/
def initEndDue (s : State) : Bool := s.life.st == .init && s.reached initMs

/-- The end of INIT: SETUP, the view taken up from CDET, the audio port started with its first frame boundary at this
moment, and a carrier present starting a spell (R183, R20, R36, R150). -/
def endInit (s : State) : State :=
  let s := s.setLife { s.life with st := .setup }
  let s := s.setChan { s.chan with view := if s.pins.cdet then .busy else .free s.now
                                   spell := if s.pins.cdet then some { start := s.now, jam := false } else none }
  s.setFloor { s.floor with boundary := some s.now }

/-- INIT_END: 5 ms after the clock starts INIT ends (R183). Before that nothing changes (log 3). -/
def execInitEnd (s : State) : Host.Outcome State Fault Refusal := .next (if initEndDue s then endInit s else s)

/-- HSEL_ACTIVE: a new exchange in RECEIVING; an answer left unread is discarded (R180). -/
def execHselActive (s : State) : Host.Outcome State Fault Refusal :=
  .next (if s.pins.hsel then s
         else (s.setPins { s.pins with hsel := true }).setHost { s.host with exchange := .receiving })

/-- HSEL_INACTIVE: a partial packet is discarded, or the rest of the answer is lost; a record not wholly read stays
(R180, R186). -/
def execHselInactive (s : State) : Host.Outcome State Fault Refusal :=
  .next ((s.setPins { s.pins with hsel := false }).setHost { s.host with exchange := .between })

/-- An answer made ready: a record's copy takes the lost-before flag from the lost mark (R186). -/
def makeReady (a : Prepared) (lost : Bool) : Exchange :=
  match a with
  | .plain a => .answering a none
  | .record r => .answering ⟨.ok, recordBytes { r with lostBefore := lost }⟩ (some lost)

/-- ANSWER_READY: the exchange moves from PREPARING to ANSWERING (R180). -/
def execAnswerReady (s : State) : Host.Outcome State Fault Refusal :=
  .next (match s.host.exchange with
    | .preparing _ a => s.setHost { s.host with exchange := makeReady a s.host.lost }
    | _ => s)

/-- FETCH_RECORD_REMOVED: the last byte of a record has been clocked out; the record leaves the queue, the lost mark is
cleared if the answer showed it and no report was discarded meanwhile, and SRQ is judged (R186, R187). -/
def execFetchRecordRemoved (s : State) : Host.Outcome State Fault Refusal :=
  .next (match s.host.exchange with
    | .answering a (some clears) =>
      judgeSrq (s.setHost { s.host with exchange := .answering a none, reports := s.host.reports.drop 1
                                        lost := if clears then false else s.host.lost })
    | _ => s)

/-- UNKNOWN_COMMAND: a packet with a code not in the table or a count not allowed is answered BAD (R181, case 2); one that
is neither is no such packet and changes nothing. -/
def execUnknownCommand (code : Byte) (params : List Byte) (s : State) : Host.Outcome State Fault Refusal :=
  .next (if packetKnown code params.length then s else rejectPacket s)

/-- READ_ID: the identification record (R183). -/
def execReadId (s : State) : Host.Outcome State Fault Refusal :=
  .next (takeCommand true (fun s => (s, okWith (idBytes s))) s)

/-- The rule of CONFIGURE (R182, R168, R187). -/
def configureCommand (p : ConfigParams) : Command := fun s =>
  if s.life.st = .setup then
    match configOfParams p with
    | some c => (judgeSrq (setSelects c.selects (s.setLife { s.life with config := some c })), okAnswer)
    | none => (s, badAnswer)
  else (s, refusedAnswer .state)

/-- CONFIGURE (R182). -/
def execConfigure (params : ConfigParams) (s : State) : Host.Outcome State Fault Refusal :=
  .next (takeCommand true (configureCommand params) s)

/-- The causes START adds and removes: at a TRACTION UNSTARTED gives way to UNATTENDED; JAM-STOP is added where JAM is live
and jam stops are selected (R115). -/
def startChange (s : State) : State :=
  let jam : CauseSet := if s.isLive .jam && s.cfg.jamStops then causeJamStop else 0
  if s.isTraction then changeCauses (causeUnattended ||| jam) causeUnstarted noSubject s
  else changeCauses jam 0 noSubject s

/-- The rule of START (R182, R159, R115, R138). -/
def startCommand : Command := fun s =>
  if s.life.st = .setup then
    if s.life.config.isNone then (s, unconfiguredAnswer)
    else
      let t := s.setLife { s.life with st := .active, activity := some s.now }
      (judgeDisagree (startChange t), okAnswer)
  else (s, refusedAnswer .state)

/-- START (R182). -/
def execStart (s : State) : Host.Outcome State Fault Refusal := .next (takeCommand true startCommand s)

/-- RESET: taken at the end of its packet, the reset follows at once and its answer is never ready; NOT-READY in INIT
(R181, R183). -/
def execReset (s : State) : Host.Outcome State Fault Refusal :=
  .next (if s.receiving then (if s.life.st = .init then prepare notReadyAnswer s else afterReset s) else s)

/-- READ_STATE (R188). -/
def execReadState (s : State) : Host.Outcome State Fault Refusal :=
  .next (takeCommand true (fun s => (s, okWith (readStateBytes s))) s)

/-- The rule of READ-PEER (R51). -/
def readPeerCommand (index : Byte) : Command := fun s =>
  if 31 < index.toNat then (s, badAnswer)
  else
    match s.peers.entries[index.toNat]? with
    | some p => (s, okWith (peerBytes p s))
    | none => (s, okAnswer)

/-- READ_PEER (R51). -/
def execReadPeer (index : Byte) (s : State) : Host.Outcome State Fault Refusal :=
  .next (takeCommand true (readPeerCommand index) s)

/-- The slot a number names. -/
def slotOfNat (n : Nat) : Option (Fin 4) := if h : n < 4 then some ⟨n, h⟩ else none

/-- The rule of READ-BOND (R189). -/
def readBondCommand (slot : Byte) : Command := fun s =>
  match slotOfNat slot.toNat with
  | some i => (s, okWith (slotBytes (s.entry i) s.now))
  | none => (s, badAnswer)

/-- READ_BOND (R189). -/
def execReadBond (slot : Byte) (s : State) : Host.Outcome State Fault Refusal :=
  .next (takeCommand true (readBondCommand slot) s)

/-- The rule of FETCH (R186). -/
def fetchCommand : Command := fun s =>
  match s.host.reports.head? with
  | some r => (s, .record r)
  | none => (s, okAnswer)

/-- FETCH (R186). -/
def execFetch (s : State) : Host.Outcome State Fault Refusal := .next (takeCommand true fetchCommand s)

end Sys2Proof.Machine
end

