-- ==== Sys2Proof/Machine/BondCommands.lean ====
section
/-! DEFINITION. The meanings of the host commands of the bond unit: BIND, UNBIND, TAKE, RELEASE, MOVE, RESUME, HANDOVER,
ACCEPT, DECLINE (04, 05, 06). -/

namespace Sys2Proof.Machine

/-- The order every command on a bond begins with: BAD for an identity no command may name, REFUSED ROLE for a station
that is no OPERATOR, REFUSED NOT-BOUND where no entry names the identity; then the entry's own rule. -/
def withBond (traction : Identity) (rule : Fin 4 → OpEntry → Command) : Command := fun s =>
  if s.badIdentity traction then (s, badAnswer)
  else if !s.isOperator then (s, refusedAnswer .role)
  else
    match s.findOp traction with
    | some (i, e) => rule i e s
    | none => (s, refusedAnswer .notBound)

/-- A taken frame is answered OK and a refused one BUSY with no effect (R35). -/
def okOrBusy (t : Option State) (s : State) : State × Prepared :=
  match t with
  | some t => (t, okAnswer)
  | none => (s, busyAnswer)

/-- The entry is in control: CONTROLLING or SILENT. -/
def commands (e : OpEntry) : Bool := e.st == .controlling || e.st == .silent

/-- The ASKING entry that BIND makes (R53). -/
def askingEntry (traction : Identity) : OpEntry :=
  { traction := traction, st := .asking, nextSeq := 0
    req := some { body := .bindAsk, seq := 0, resends := 0, phase := .queued }
    link := none, sup := none, offer := none, handing := none }

/-- The rule of BIND (R55, R53). Answered BUSY, the entry is gone again and the peer entry ensured for it stays. -/
def bindCommand (traction : Identity) : Command := fun s =>
  if s.badIdentity traction then (s, badAnswer)
  else if !s.isOperator then (s, refusedAnswer .role)
  else if (s.opSlot traction).isSome then (s, refusedAnswer .state)
  else
    match s.freeSlot with
    | some i =>
      let s := ensurePeer traction s
      let t := putEntry i (some (.op (askingEntry traction))) s
      okOrBusy (offer (t.requestFrame traction 0 .bindAsk) none (requestTag i 0 .bindAsk) t) s
    | none => (s, refusedAnswer .full)

/-- BIND (R55). -/
def execBind (traction : Identity) (s : State) : Host.Outcome State Fault Refusal :=
  .next (takeCommand false (bindCommand traction) s)

/-- The rule of UNBIND for an entry (R61). -/
def unbindRule (i : Fin 4) (e : OpEntry) : Command := fun s =>
  if e.st = .offered then (s, refusedAnswer .state)
  else if e.req.isSome then (s, busyAnswer)
  else okOrBusy (sendRequest offer i e (.release true) s) s

/-- UNBIND (R61). -/
def execUnbind (traction : Identity) (s : State) : Host.Outcome State Fault Refusal :=
  .next (takeCommand false (withBond traction unbindRule) s)

/-- A TAKE is sent and its entry becomes TAKING with check number 0 and the effective period of R77; an offer it answers
is dropped (R78, R103). -/
def sendTake (i : Fin 4) (e : OpEntry) (byTransfer : Bool) (s : State) : Option State :=
  let period := s.opPeriod e.traction
  (sendRequest offer i e (.take byTransfer period) s).map
    (modOp i (fun x => { x with st := .taking, link := some { check := 0, period := period }, offer := none }))

/-- The most entries in TAKING, CONTROLLING or SILENT (R78). -/
def takenLimit : Nat := 2

/-- The rule of TAKE for an entry (R78). -/
def takeRule (i : Fin 4) (e : OpEntry) : Command := fun s =>
  if e.st ≠ .standby then (s, refusedAnswer .state)
  else if e.req.isSome then (s, busyAnswer)
  else if takenLimit ≤ s.takenCount then (s, refusedAnswer .full)
  else okOrBusy (sendTake i e false s) s

/-- TAKE (R78). -/
def execTake (traction : Identity) (s : State) : Host.Outcome State Fault Refusal :=
  .next (takeCommand false (withBond traction takeRule) s)

/-- The rule of RELEASE for an entry (R81). -/
def releaseRule (i : Fin 4) (e : OpEntry) : Command := fun s =>
  if !commands e then (s, refusedAnswer .state)
  else if e.req.isSome then (s, busyAnswer)
  else okOrBusy (sendRequest offer i e (.release false) s) s

/-- RELEASE (R81). -/
def execRelease (traction : Identity) (s : State) : Host.Outcome State Fault Refusal :=
  .next (takeCommand false (withBond traction releaseRule) s)

/-- The OUTCOME of a superseded MOVE: result 3 with the old sequence (R85, R69). -/
def raiseSuperseded (traction : Identity) (seq : BitVec 4) (s : State) : State := raiseOutcome traction 0x14 seq 3 0 s

/-- A frame is taken out of the queue if it still waits there (R85). -/
def withdrawWaiting (tag : OwnerTag) (s : State) : State :=
  match removalAnswer tag s with
  | .removed => withdraw tag s
  | _ => s

/-- A MOVE given while a MOVE is outstanding: a first sending that still waits is replaced in place under its sequence;
otherwise a new MOVE is offered under the next one and a waiting resend of the old goes (R85). -/
def supersede (i : Fin 4) (e : OpEntry) (q : Request) (record : MoveRecord) : Command := fun s =>
  let replaced :=
    if q.phase = .queued ∧ q.resends = 0 then
      replaceFrame (requestTag i q.seq q.body) (s.requestFrame e.traction q.seq (.move record)) s
    else none
  match replaced with
  | some t => (raiseSuperseded e.traction q.seq (modReq i (fun r => { r with body := .move record }) t), okAnswer)
  | none =>
    match sendRequest offer i e (.move record) s with
    | some t => (raiseSuperseded e.traction q.seq (withdrawWaiting (requestTag i q.seq q.body) t), okAnswer)
    | none => (s, busyAnswer)

/-- The rule of MOVE for an entry (R84, R85). -/
def moveRule (record : MoveRecord) (i : Fin 4) (e : OpEntry) : Command := fun s =>
  if !commands e then (s, refusedAnswer .state)
  else
    match e.req with
    | some q => if reqKind q.body = .move then supersede i e q record s else (s, busyAnswer)
    | none => okOrBusy (sendRequest offer i e (.move record) s) s

/-- The rule of MOVE (R84): BAD also for a record outside its fields' lists. -/
def moveCommand (traction : Identity) (record : BitVec 16) : Command := fun s =>
  match recordOfWord record with
  | some r => withBond traction (moveRule r) s
  | none => (s, badAnswer)

/-- MOVE (R84). -/
def execMove (traction : Identity) (record : BitVec 16) (s : State) : Host.Outcome State Fault Refusal :=
  .next (takeCommand false (moveCommand traction record) s)

/-- The rule of RESUME for an entry (R87). -/
def resumeRule (i : Fin 4) (e : OpEntry) : Command := fun s =>
  if !commands e then (s, refusedAnswer .state)
  else if e.req.isSome then (s, busyAnswer)
  else okOrBusy (sendRequest offer i e .resume s) s

/-- RESUME (R87). -/
def execResume (traction : Identity) (s : State) : Host.Outcome State Fault Refusal :=
  .next (takeCommand false (withBond traction resumeRule) s)

/-- The rule of HANDOVER for an entry (R98): the target is ensured, the HANDOVER sent, the handing mark set. -/
def handoverRule (target : Identity) (i : Fin 4) (e : OpEntry) : Command := fun s =>
  if e.st ≠ .controlling ∨ e.handing.isSome then (s, refusedAnswer .state)
  else if e.req.isSome then (s, busyAnswer)
  else
    okOrBusy ((sendRequest offer i e (.handover target) (ensurePeer target s)).map
      (modOp i (fun x => { x with handing := some target }))) s

/-- The rule of HANDOVER (R98): BAD also for a target no command may name or equal to the traction. -/
def handoverCommand (traction target : Identity) : Command := fun s =>
  if s.badIdentity target || traction == target then (s, badAnswer)
  else withBond traction (handoverRule target) s

/-- HANDOVER (R98). -/
def execHandover (traction target : Identity) (s : State) : Host.Outcome State Fault Refusal :=
  .next (takeCommand false (handoverCommand traction target) s)

/-- The rule of ACCEPT for an entry (R103). -/
def acceptRule (i : Fin 4) (e : OpEntry) : Command := fun s =>
  if e.st ≠ .offered then (s, refusedAnswer .state)
  else if takenLimit ≤ s.takenCount then (s, refusedAnswer .full)
  else okOrBusy ((sendTake i e true s).map agePeers) s

/-- ACCEPT (R103). -/
def execAccept (traction : Identity) (s : State) : Host.Outcome State Fault Refusal :=
  .next (takeCommand false (withBond traction acceptRule) s)

/-- An OFFERED entry ends: made for the offer it is removed, otherwise it returns to STANDBY, with a BOND report that gives
the new state (R102, R103). -/
def endOffer (i : Fin 4) (e : OpEntry) (cause : BondCause) (s : State) : State :=
  if (e.offer.map Offer.madeForOffer).getD false then raiseBond i e.traction 0 cause (freeEntry i s)
  else raiseBond i e.traction 2 cause (agePeers (modOp i (fun x => { x with st := .standby, offer := none }) s))

/-- The rule of DECLINE for an entry (R103). -/
def declineRule (i : Fin 4) (e : OpEntry) : Command := fun s =>
  if e.st ≠ .offered then (s, refusedAnswer .state)
  else
    okOrBusy ((offer (s.unitFrame e.traction 0 (.answer .offer 0 .refused (some .declined))) none .answer s).map
      (endOffer i e .declined)) s

/-- DECLINE (R103). -/
def execDecline (traction : Identity) (s : State) : Host.Outcome State Fault Refusal :=
  .next (takeCommand false (withBond traction declineRule) s)

end Sys2Proof.Machine
end

