-- ==== Sys2Proof/Machine/StationCommands.lean ====
section
/-! DEFINITION. The meanings of the other host commands: HALT, LOCAL-STOP, LOCAL-CLEAR, TALK, TALK-END, NOTE, PROBE, TEST,
CLEAR-TEST, CLEAR-HELD (07, 09, 12, 03, 11). -/

namespace Sys2Proof.Machine

/-! ## HALT (R120, R121) -/

/-- The own copy still waiting is withdrawn (R121). -/
def withdrawCopy (s : State) : State :=
  match s.halt.own with
  | .sending number _ copy => withdraw (.haltCopy number copy) s
  | .idle => s

/-- A halt of a scope with its copy 0 taken by the queue: the pair, the cause at a TRACTION, the floor's halt notice
(R120). -/
def haltTaken (scope : Scope) (number : Byte) (s : State) : State :=
  haltNotice offer (addHaltCause scope noSubject (enterPair s.unitId number s))

/-- The rule of HALT (R120, R121). -/
def haltCommand (scope : Byte) : Command := fun s =>
  match scopeOfCode scope with
  | some sc =>
    if sc = .yard ∧ s.cfg.authority = false then (s, refusedAnswer .role)
    else
      let n := s.nextHaltNumber
      let t := withdrawCopy s
      let t := t.setHalt { t.halt with own := .sending n sc 0, counter := some n }
      okOrBusy ((offer (t.haltFrame sc n 0) none (.haltCopy n 0) t).map (haltTaken sc n)) s
  | none => (s, badAnswer)

/-- HALT (R120). -/
def execHalt (scope : Byte) (s : State) : Host.Outcome State Fault Refusal :=
  .next (takeCommand false (haltCommand scope) s)

/-! ## LOCAL-STOP and LOCAL-CLEAR (R118) -/

/-- LOCAL_STOP (R118). -/
def execLocalStop (s : State) : Host.Outcome State Fault Refusal :=
  .next (takeCommand false (fun s =>
    if s.isTraction then (addCause causeLocalStop noSubject s, okAnswer) else (s, refusedAnswer .role)) s)

/-- LOCAL_CLEAR (R118). -/
def execLocalClear (s : State) : Host.Outcome State Fault Refusal :=
  .next (takeCommand false (fun s =>
    if s.isTraction then (removeCause causeLocalStop noSubject s, okAnswer) else (s, refusedAnswer .role)) s)

/-! ## TALK and TALK-END (R141, R143) -/

/-- The rule of TALK (R141). -/
def talkCommand (scope : Byte) : Command := fun s =>
  match scopeOfCode scope with
  | none => (s, badAnswer)
  | some sc =>
    if s.cfg.rate ≠ .full then (s, refusedAnswer .rate)
    else
      match s.floor.st with
      | .claiming _ _ | .held _ => (s, busyAnswer)
      | .own sp => (s, if sp.phase = .talking then refusedAnswer .state else busyAnswer)
      | .free =>
        okOrBusy ((offer (s.scopeFrame sc (.claim sc)) none .claim s).map (State.setFloorState (.claiming sc none))) s

/-- TALK (R141). -/
def execTalk (scope : Byte) (s : State) : Host.Outcome State Fault Refusal :=
  .next (takeCommand false (talkCommand scope) s)

/-- The rule of TALK-END (R143). A CLAIM that the queue no longer holds has had its notice, and the floor is as that left
it. -/
def talkEndCommand : Command := fun s =>
  match s.floor.st with
  | .own sp => if sp.phase = .talking then (endSpurt offer .talkEnd s, okAnswer) else (s, refusedAnswer .state)
  | .claiming scope none =>
    match removalAnswer .claim s with
    | .removed => ((withdraw .claim s).setFloorState .free, okAnswer)
    | .onAir => ((withdraw .claim s).setFloorState (.claiming scope (some .talkEnd)), okAnswer)
    | .absent => (s, okAnswer)
  | .claiming _ (some _) => (s, okAnswer)
  | .free | .held _ => (s, refusedAnswer .state)

/-- TALK_END (R143). -/
def execTalkEnd (s : State) : Host.Outcome State Fault Refusal := .next (takeCommand false talkEndCommand s)

/-! ## NOTE (R184) and PROBE (R49) -/

/-- The destination mode of a code byte. -/
def modeOfByte (b : Byte) : Option DestMode := if b.toNat < 4 then modeOfCode (b.setWidth 2) else none

/-- The rule of NOTE (R184). -/
def noteCommand (mode : Byte) (dest : BitVec 24) (text : List Byte) : Command := fun s =>
  match modeOfByte mode with
  | none => (s, badAnswer)
  | some m =>
    if !destValid m dest || (m == .unit && dest == s.unitId) then (s, badAnswer)
    else okOrBusy (offer (s.frameTo m dest 0 (.note text)) none .note s) s

/-- NOTE (R184); a count of parameters it does not take is answered BAD under R181. -/
def execNote (mode : Byte) (dest : BitVec 24) (text : List Byte) (s : State) : Host.Outcome State Fault Refusal :=
  .next (if packetKnown 0x40 (4 + text.length) then takeCommand false (noteCommand mode dest text) s else rejectPacket s)

/-- The rule of PROBE (R49). -/
def probeCommand (target : Identity) (pattern : List Byte) : Command := fun s =>
  if s.badIdentity target then (s, badAnswer)
  else if !s.noProbe then (s, busyAnswer)
  else
    okOrBusy ((offer (s.unitFrame target 0 (.probe pattern)) none .probe s).map (State.setProbe (.queued target pattern))) s

/-- PROBE (R49); a count of parameters it does not take is answered BAD under R181. -/
def execProbe (target : Identity) (pattern : List Byte) (s : State) : Host.Outcome State Fault Refusal :=
  .next (if packetKnown 0x41 (3 + pattern.length) then takeCommand false (probeCommand target pattern) s else rejectPacket s)

/-! ## TEST, CLEAR-TEST, CLEAR-HELD (R171, R175 to R179) -/

/-- The running test replaced. -/
def State.setRunning (r : Option RunningTest) (s : State) : State := s.setTest { s.test with running := r }

/-- LOOP may start (R176). -/
def State.mayLoop (s : State) : Bool := s.bondsRest && s.floorFree && s.chan.queue.isEmpty

/-- The 16 bytes of a test frame's body: 00h, FFh, 55h, AAh four times (R176). -/
def loopPattern : List Byte := (List.replicate 4 [0x00, 0xFF, 0x55, 0xAA]).flatten

/-- The test frame: a PROBE in UNIT mode from the station to its own identity (R176). -/
def State.loopFrame (s : State) : Frame := s.unitFrame s.unitId 0 (.probe loopPattern)

/-- LOOP starts: the test record takes the moment and the frame that the modem sends three times, the hunter returns to
HUNTING and an IN-FRAME ends (R176). That a CONFIGURE during the test leaves the headers still to be sent as they were at the
start is the model's choice (log 35). -/
def startLoop (s : State) : State := judgeView ((s.setRunning (some (.loop s.now s.loopFrame))).setModem .hunting)

/-- STOPLINE may start: the set is non-empty and TSTILL is true (R177). -/
def State.mayStopline (s : State) : Bool := s.stop.causes != 0 && s.still

/-- The rule of TEST (R175 to R178). -/
def testCommand (code : Byte) : Command := fun s =>
  if code = 0 ∨ 3 < code.toNat then (s, badAnswer)
  else if s.life.config.isNone then (s, unconfiguredAnswer)
  else if s.test.running.isSome then (s, busyAnswer)
  else if code = 1 then if s.mayLoop then (startLoop s, okAnswer) else (s, refusedAnswer .state)
  else if code = 2 then
    if !s.isTraction then (s, refusedAnswer .role)
    else if s.mayStopline then (s.setRunning (some (.stopline s.now 0 none)), okAnswer)
    else (s, refusedAnswer .state)
  else (s.setRunning (some (.timer s.now s.supTimer)), okAnswer)

/-- TEST (R175). -/
def execTest (code : Byte) (s : State) : Host.Outcome State Fault Refusal :=
  .next (takeCommand true (testCommand code) s)

/-- The rule of CLEAR-TEST (R179). -/
def clearTestCommand : Command := fun s =>
  if s.test.running.isSome then (s, busyAnswer)
  else
    let t := s.setTest { s.test with loop := .notRun, stopline := .notRun, timer := .notRun }
    let t := if s.test.loop = .fail then faultEnd .loopFail noSubject t else t
    (if s.test.stopline = .fail then faultEnd .stopFail noSubject t else t, okAnswer)

/-- CLEAR_TEST (R179). -/
def execClearTest (s : State) : Host.Outcome State Fault Refusal := .next (takeCommand true clearTestCommand s)

/-- CLEAR_HELD (R171). -/
def execClearHeld (s : State) : Host.Outcome State Fault Refusal :=
  .next (takeCommand true (fun s => (clearHeldFlags s, okAnswer)) s)

end Sys2Proof.Machine
end

