-- ==== Sys2Proof/Machine/ModemEvents.lean ====
section
/-! DEFINITION. The meanings of the carrier and of the rate hunter's events: CDET, preamble bits, the lock, a failed hunt, the
sync word, failed and malformed frames (01, 02). Single bits are not stepped: the events carry their outcome (log 5). -/

namespace Sys2Proof.Machine

/-- The spell of carrier replaced. -/
def State.setSpell (sp : Option Spell) (s : State) : State := s.setChan { s.chan with spell := sp }

/-- CDET turns active: the view is judged, and outside INIT and KEY a spell of carrier begins (R19, R20, R36). -/
def carrierUp (s : State) : State :=
  let t := s.setPins { s.pins with cdet := true }
  judgeView (if t.chan.onAir.isNone && t.life.st != .init then t.setSpell (some { start := t.now, jam := false }) else t)

/-- CDET_ACTIVE (R19, R36). -/
def execCdetActive (s : State) : Host.Outcome State Fault Refusal := .next (if s.pins.cdet then s else carrierUp s)

/-- JAM became live in the running spell (R36). -/
def State.jammed (s : State) : Bool :=
  match s.chan.spell with
  | some sp => sp.jam
  | none => false

/-- CDET turns inactive: a hunt or a frame in progress ends, the view is judged, the spell ends and with it JAM (R5, R6,
R19, R36). -/
def carrierDown (s : State) : State :=
  let t := judgeView (((s.setPins { s.pins with cdet := false }).setModem .hunting).setSpell none)
  if s.jammed then jamEnded t else t

/-- CDET_INACTIVE (R19, R36). -/
def execCdetInactive (s : State) : Host.Outcome State Fault Refusal := .next (if s.pins.cdet then carrierDown s else s)

/-! ## The hunt (R4, R5, R7) -/

/-- The least accepted bit of an entry in µs (01, rate table). -/
def leastBit : Rate → Nat
  | .full => 156 | .half => 261 | .quarter => 521

/-- The greatest accepted bit of an entry in µs (01, rate table). -/
def mostBit : Rate → Nat
  | .full => 260 | .half => 520 | .quarter => 1040

/-- The entry that a bit steps the hunter to: from the current entry, slower while the bit is longer than its maximum;
`none` for a bit longer than the QUARTER maximum (R4). -/
def steppedEntry (entry : Rate) (us : Nat) : Option Rate :=
  ([Rate.full, Rate.half, Rate.quarter].filter (fun r => slowness entry ≤ slowness r)).find? (fun r => us ≤ mostBit r)

/-- The bits a lock takes (R4). -/
def lockBits : Nat := 8

/-- The receive state after one measured bit (R4). A count that has reached 8 measures no more: the lock is due. -/
def measureBit (entry : Rate) (bits us : Nat) : RxState :=
  if lockBits ≤ bits then .locking entry bits
  else
    match steppedEntry entry us with
    | some e => .locking e (if us < leastBit e then 0 else bits + 1)
    | none => .hunting

/-- The hunter measures RXB: a carrier, KEY released, no LOOP test, not INIT, and in DORMANT an open sniff window (R1, R4,
R7, R37, R164). -/
def State.hunts (s : State) : Bool :=
  s.pins.cdet && s.chan.onAir.isNone && !s.loopRunning
    && (match s.life.st with
        | .init => false
        | .dormant => s.life.window.isSome
        | _ => true)

/-- The receive state after one transition: the first of a hunt begins it at FULL with no bit counted; a later one measures
a bit (R4; the row PREAMBLE_BIT_MEASURED of the table). -/
def huntStep (r : RxState) (us : Nat) : RxState :=
  match r with
  | .hunting => .locking .full 0
  | .locking entry bits => measureBit entry bits us
  | r => r

/-- PREAMBLE_BIT_MEASURED (R4). -/
def execPreambleBitMeasured (us : Nat) (s : State) : Host.Outcome State Fault Refusal :=
  .next (if s.hunts then s.setModem (huntStep s.modem us) else s)

/-- The lock is due: the bit count has reached 8 (R4). -/
def lockDue (s : State) : Bool :=
  match s.modem with
  | .locking _ bits => decide (lockBits ≤ bits)
  | _ => false

/-- RATE_LOCK: the hunter is LOCKED; a lock in a sniff window wakes the station (R4, R7, R165). -/
def execRateLock (s : State) : Host.Outcome State Fault Refusal :=
  .next (match s.modem with
    | .locking entry bits => if lockBits ≤ bits then wake offer wakeByPreamble (s.setModem (.locked entry bits)) else s
    | _ => s)

/-- The bits of the sync window (R5). -/
def syncWindowBits : Nat := 24

/-- HUNT_FAILED: a bit longer than the QUARTER maximum while LOCKING, or 24 bits without the sync word while LOCKED; the
hunter returns to HUNTING (R4, R5). -/
def execHuntFailed (cause : HuntFailure) (s : State) : Host.Outcome State Fault Refusal :=
  .next (match s.modem, cause with
    | .locking _ _, .longBit us => if mostBit .quarter < us then s.setModem .hunting else s
    | .locked _ _, .windowPassed bits => if syncWindowBits ≤ bits then s.setModem .hunting else s
    | _, _ => s)

/-- SYNC_WORD_FOUND: the frame is stamped, the hunter is IN-FRAME, and the view is BUSY (R5, R8, R19). -/
def execSyncWordFound (samples : BitVec 16) (s : State) : Host.Outcome State Fault Refusal :=
  .next (match s.modem with
    | .locked entry bits => if samples = syncWord then judgeView (s.setModem (.inFrame entry bits s.now)) else s
    | _ => s)

/-- FAILED_FRAME: the frame being read ends, is discarded, and the hunter returns to HUNTING (R3, R6). -/
def execFailedFrame (_cause : FrameFailure) (s : State) : Host.Outcome State Fault Refusal :=
  .next (if s.inFrame then endReading s else s)

/-- MALFORMED_FRAME: a checked frame whose bytes hold no well-formed frame is discarded before learning (R9). Bytes that
hold one are no malformed frame. -/
def execMalformedFrame (bytes : List Byte) (s : State) : Host.Outcome State Fault Refusal :=
  .next (if s.inFrame && (frameOfBytes bytes).isNone then endReading s else s)

end Sys2Proof.Machine
end

