-- ==== Sys2Proof/Machine/BondFrames.lean ====
section
/-! DEFINITION. The meanings of the received frames that the bond unit owns: MOVE, CHECK, STATUS, ANSWER, RESUME, BIND-ASK,
BIND-REPLY, TAKE, RELEASE, HANDOVER, OFFER, SETTLED (04, 05, 06). -/

namespace Sys2Proof.Machine

/-! ## MOVE (R86), RESUME (R88) -/

/-- The judgement of a MOVE (R86). -/
def judgeMove (sender : Identity) (record : MoveRecord) (s : State) : Judged :=
  if !s.controls sender then refuse (s.notInControl sender) s
  else if s.stop.causes ≠ 0 then refuse .stopped s
  else
    match offerRecord record s with
    | some t => accept t
    | none => busy s

/-- MOVE_FRAME (R86). -/
def execMoveFrame (dev : Nat) (header : Header) (record : MoveRecord) (s : State) : Host.Outcome State Fault Refusal :=
  .next (receive dev ⟨header, .move record⟩
    (fun _ _ => takeRequest header .move true (judgeMove header.sender record)) s)

/-- The judgement of a RESUME: the sender by the bond unit, the rest by the stop unit (R88, R119). -/
def judgeResumeOf (sender : Identity) (s : State) : Judged :=
  if !s.controls sender then refuse (s.notInControl sender) s
  else
    let r := judgeResume sender s
    ⟨r.1, r.2.1, r.2.2, .none⟩

/-- RESUME_FRAME (R88). -/
def execResumeFrame (dev : Nat) (header : Header) (s : State) : Host.Outcome State Fault Refusal :=
  .next (receive dev ⟨header, .resume⟩ (fun _ _ => takeRequest header .resume true (judgeResumeOf header.sender)) s)

/-! ## CHECK (R93) -/

/-- The STATUS that describes the traction at this moment (R18). -/
def statusBody (number : Byte) (e : TrEntry) (s : State) : StatusBody :=
  { check := number, standstill := s.still, stopAsserted := s.stop.causes != 0, portFailed := s.port.st == .failed
    transferPending := e.transfer.isSome, causes := s.stop.causes, speed := s.speed, lastSeq := e.last.map LastReq.seq }

/-- A traction takes a CHECK of an operator in control: contact, the period, a STATUS; any other CHECK is discarded (R93,
R76). -/
def takeCheck (sender : Identity) (number units : Byte) (s : State) : State :=
  if s.isTraction then
    match s.findTr sender with
    | some (i, e) =>
      if inControl e then
        let s := takePeriod i units (contact sender s)
        match s.trEntry i with
        | some e => offerAnyway (s.unitFrame sender 0 (.status (statusBody number e s))) .status s
        | none => s
      else s
    | none => s
  else s

/-- CHECK_FRAME (R93). -/
def execCheckFrame (dev : Nat) (header : Header) (number units : Byte) (s : State) : Host.Outcome State Fault Refusal :=
  .next (receive dev ⟨header, .check number units⟩ (fun _ _ => takeCheck header.sender number units) s)

/-! ## STATUS (R90, R75) -/

/-- A STATUS whose last accepted sequence is that of a request in AWAITING ends the wait with a resend, while one remains
(R75). -/
def statusResend (i : Fin 4) (lastSeq : Option (BitVec 4)) (s : State) : State :=
  match s.opEntry i with
  | some e =>
    match e.req with
    | some q =>
      match q.phase with
      | .awaiting _ => if lastSeq = some q.seq ∧ q.resends < maxResends then noAnswerYet offer i s else s
      | _ => s
    | none => s
  | none => s

/-- The period now running is heard when the STATUS echoes the entry's check number (R90). -/
def statusHeard (i : Fin 4) (e : OpEntry) (check : Byte) (s : State) : State :=
  if (e.link.map OpLink.check) = some check then modOp i (fun x => { x with sup := x.sup.map (fun y => { y with heard := true }) }) s
  else s

/-- A SILENT entry returns to CONTROLLING with its history refilled; the last one ends LINK (R90). -/
def regainOp (i : Fin 4) (e : OpEntry) (s : State) : State :=
  if e.st = .silent then
    let s := modOp i (fun x => { x with st := .controlling
                                        sup := x.sup.map (fun y => { y with history := freshHistory }) }) s
    endLinkIfSilent i e (raiseBond i e.traction 4 .regained s)
  else s

/-- An operator takes a STATUS (R90, R75). -/
def takeStatus (sender : Identity) (f : StatusBody) (s : State) : State :=
  if s.isOperator then
    match s.findOp sender with
    | some (i, e) =>
      if commands e then statusResend i f.lastSeq (regainOp i e (statusHeard i e f.check s))
      else if e.st = .taking then statusResend i f.lastSeq s
      else s
    | none => s
  else s

/-- STATUS_FRAME (R90). -/
def execStatusFrame (dev : Nat) (header : Header) (fields : StatusBody) (s : State) : Host.Outcome State Fault Refusal :=
  .next (receive dev ⟨header, .status fields⟩ (fun _ _ => takeStatus header.sender fields) s)

/-! ## ANSWER (R71, R73, R104) -/

/-- The request an ANSWER matches: same kind and sequence, and not a BIND-ASK, which holds no sequence (R71, R53). -/
def answerMatches (q : Request) (kind : Kind) (seq : BitVec 4) : Bool :=
  reqKind q.body == kind && q.seq == seq && kind != .bindAsk

/-- A matching BUSY answer acts in AWAITING alone: RETRY while a resend remains, NO-ANSWER otherwise (R71, R73). -/
def answeredBusy (i : Fin 4) (q : Request) (s : State) : State :=
  match q.phase with
  | .awaiting _ =>
    if q.resends < maxResends then modReq i (fun r => { r with phase := .retry (s.now + retryWaitMs) }) s
    else endRequest offer i .noAnswer s
  | _ => s

/-- A matching ANSWER acts on the request of a slot; a request frame still waiting is withdrawn (R71). -/
def answered (i : Fin 4) (q : Request) (verdict : Verdict) (reason : Option Reason) (s : State) : State :=
  match verdict, reason with
  | .accepted, _ => endRequest offer i .accepted (withdrawWaiting (requestTag i q.seq q.body) s)
  | .refused, some r => endRequest offer i (.refused r) (withdrawWaiting (requestTag i q.seq q.body) s)
  | .refused, none => s
  | .busy, _ => answeredBusy i q s

/-- An operator takes an ANSWER (R71). -/
def answerToRequest (sender : Identity) (kind : Kind) (seq : BitVec 4) (verdict : Verdict) (reason : Option Reason)
    (s : State) : State :=
  match s.findOp sender with
  | some (i, e) =>
    match e.req with
    | some q => if answerMatches q kind seq then answered i q verdict reason s else s
    | none => s
  | none => s

/-- A traction takes an ANSWER: a refusal of the OFFER by the target of the pending transfer clears it (R104). -/
def answerToOffer (sender : Identity) (kind : Kind) (verdict : Verdict) (s : State) : State :=
  match s.pendingTransfer with
  | some x =>
    if kind = .offer ∧ verdict = .refused ∧ x.target = sender then
      removeOffered sender .declined (sendSettled offer .declined x.handing (clearTransfer s))
    else s
  | none => s

/-- ANSWER_FRAME (R71, R104). -/
def execAnswerFrame (dev : Nat) (header : Header) (kind : Kind) (seq : BitVec 4) (verdict : Verdict)
    (reason : Option Reason) (s : State) : Host.Outcome State Fault Refusal :=
  .next (receive dev ⟨header, .answer kind seq verdict reason⟩
    (fun _ _ s =>
      if s.isTraction then answerToOffer header.sender kind verdict s
      else answerToRequest header.sender kind seq verdict reason s) s)

/-! ## BIND-ASK and BIND-REPLY (R57, R59, R60) -/

/-- A BIND-REPLY is offered (R17, R59). -/
def sendBindReply (dest : Identity) (reason : Option Reason) (standstill controlled : Bool) (s : State) : State :=
  offerAnyway (s.unitFrame dest 0
    (.bindReply (if reason.isSome then .refused else .accepted) reason s.cfg.rate standstill controlled)) .bindReply s

/-- The entry an accepted BIND-ASK makes (R54). -/
def boundEntry (operator : Identity) (offered : Bool) : TrEntry :=
  { operator := operator, st := .standby, offered := offered, last := none, sup := none, lostSince := none
    transfer := none }

/-- The judgement of a BIND-ASK: the state after it and the reason of a refusal (R59). -/
def judgeBind (sender : Identity) (s : State) : State × Option Reason :=
  if s.peerRole sender ≠ some .operator then (s, some .role)
  else if s.peerCrew sender ≠ some s.cfg.crew then (s, some .crew)
  else
    match s.trSlot sender with
    | some i => (modTr i (fun e => { e with last := none }) s, none)
    | none =>
      match s.freeSlot with
      | some i => (raiseBond i sender 2 .bound (putEntry i (some (.tr (boundEntry sender false))) s), none)
      | none => (s, some .full)

/-- A BIND-ASK is taken: judged at a TRACTION, refused ROLE elsewhere (R59, R60). -/
def takeBindAsk (sender : Identity) (s : State) : State :=
  if s.isTraction then
    let still := s.still
    let r := judgeBind sender s
    sendBindReply sender r.2 still (s.heldByOther sender) r.1
  else sendBindReply sender (some .role) false false s

/-- BIND_ASK_FRAME (R59, R60). -/
def execBindAskFrame (dev : Nat) (header : Header) (s : State) : Host.Outcome State Fault Refusal :=
  .next (receive dev ⟨header, .bindAsk⟩ (fun _ _ => takeBindAsk header.sender) s)

/-- The OUTCOME report of an accepted BIND: rate, standstill and controlled as the reply gave them (R69). -/
def raiseBound (traction : Identity) (rate : Rate) (standstill controlled : Bool) (s : State) : State :=
  raise .outcome false traction [0x10, 0, 0, 0, rateCode rate, flagCode standstill, flagCode controlled] s

/-- A BIND-REPLY that matches an ASKING entry ends its request: STANDBY when ACCEPTED, removal when REFUSED; a BIND-ASK
still waiting is withdrawn (R57). -/
def takeBindReply (sender : Identity) (verdict : Verdict) (reason : Option Reason) (rate : Rate)
    (standstill controlled : Bool) (s : State) : State :=
  match s.findOp sender with
  | some (i, e) =>
    if e.st = .asking then
      let s := withdrawWaiting (requestTag i 0 .bindAsk) s
      match verdict, reason with
      | .accepted, _ =>
        raiseBound sender rate standstill controlled (modOp i (fun x => { x with st := .standby, req := none }) s)
      | .refused, some r => endRequest offer i (.refused r) s
      | _, _ => s
    else s
  | none => s

/-- BIND_REPLY_FRAME (R57, R60). -/
def execBindReplyFrame (dev : Nat) (header : Header) (verdict : Verdict) (reason : Option Reason) (rate : Rate)
    (standstill controlled : Bool) (s : State) : Host.Outcome State Fault Refusal :=
  .next (receive dev ⟨header, .bindReply verdict reason rate standstill controlled⟩
    (fun _ _ s => if s.isTraction then s else takeBindReply header.sender verdict reason rate standstill controlled s) s)

/-! ## TAKE (R79, R105) -/

/-- What a plain TAKE accepted while a transfer is detached does to it (R108): the target completes it; another operator's
TAKE clears it and removes the target's offered entry. -/
def takeOverDetached (sender : Identity) (s : State) : State × Sequel :=
  match s.pendingTransfer with
  | some x =>
    if x.target = sender then (clearTransfer s, .settled .completed x.handing)
    else (removeOffered x.target .lapsed (clearTransfer s), .settled .lapsed x.handing)
  | none => (s, .none)

/-- The judgement of a TAKE with its by-transfer flag clear (R79). -/
def judgeTake (sender : Identity) (units : Byte) (s : State) : Judged :=
  match s.findTr sender with
  | none => refuse .notBound s
  | some (i, e) =>
    if !s.test.gate then refuse .untested s
    else if !s.still then refuse .moving s
    else if e.st = .controlling then accept (takePeriod i units s)
    else if s.heldByOther sender then refuse .held s
    else
      let r := takeOverDetached sender (raiseBond i sender 4 .taken (giveControl i (s.trPeriod units) s))
      ⟨r.1, .accepted, none, r.2⟩

/-- The judgement of a TAKE with its by-transfer flag set (R105). -/
def judgeTransferTake (sender : Identity) (units : Byte) (s : State) : Judged :=
  match s.findTr sender, s.pendingTransfer with
  | some (i, e), pending =>
    if e.st = .controlling then accept (takePeriod i units s)
    else
      match pending with
      | some x =>
        if x.target ≠ sender then refuse .notOffered s
        else if !s.still then refuse .moving s
        else ⟨completeTransfer i sender (s.trPeriod units) .transferred s, .accepted, none, .settled .completed x.handing⟩
      | none => refuse .notOffered s
  | none, _ => refuse .notOffered s

/-- TAKE_FRAME (R79, R105). -/
def execTakeFrame (dev : Nat) (header : Header) (units : Byte) (byTransfer : Bool) (s : State) :
    Host.Outcome State Fault Refusal :=
  .next (receive dev ⟨header, .take units byTransfer⟩
    (fun _ _ => takeRequest header .take true
      (if byTransfer then judgeTransferTake header.sender units else judgeTake header.sender units)) s)

/-! ## RELEASE (R62, R82) -/

/-- The judgement of a RELEASE (R62, R82, R97, R108, R116). -/
def judgeRelease (sender : Identity) (unbind : Bool) (s : State) : Judged :=
  match s.findTr sender with
  | none => refuse .notBound s
  | some (i, e) =>
    if e.st = .standby then
      if unbind then
        let s := raiseBond i sender 0 .unbound (freeEntry i s)
        let r := clearIfTarget sender s
        ⟨r.1, .accepted, none, r.2⟩
      else refuse .state s
    else
      let s := detachTransfer i s
      let s :=
        if unbind then raiseBond i sender 0 .unbound (freeEntry i s)
        else raiseBond i sender 2 .released (toStandby i s)
      accept (addUnattended sender s)

/-- RELEASE_FRAME (R82). -/
def execReleaseFrame (dev : Nat) (header : Header) (unbind : Bool) (s : State) : Host.Outcome State Fault Refusal :=
  .next (receive dev ⟨header, .release unbind⟩
    (fun _ _ => takeRequest header .release true (judgeRelease header.sender unbind)) s)

/-! ## HANDOVER (R99) -/

/-- The transfer record is written into the sender's entry (R99). -/
def writeTransfer (i : Fin 4) (target handing : Identity) (s : State) : State :=
  modTr i (fun e => { e with transfer := some { target := target, handing := handing, expiry := s.now + transferMs
                                                nextOffer := none } }) s

/-- The target of a handover is no one this traction may offer control to: the sender itself, an unheard peer, a role
other than OPERATOR, another crew (R99, check 3). -/
def State.unfitTarget (s : State) (sender target : Identity) : Bool :=
  target == sender || s.peerRole target != some .operator || s.peerCrew target != some s.cfg.crew

/-- The judgement of a HANDOVER (R99). -/
def judgeHandover (sender target : Identity) (s : State) : Judged :=
  match s.trSlot sender with
  | none => refuse (s.notInControl sender) s
  | some i =>
    if !s.controls sender then refuse (s.notInControl sender) s
    else if s.pendingTransfer.isSome then busy s
    else if s.unfitTarget sender target then refuse .crew s
    else if (s.trSlot target).isSome then
      ⟨writeTransfer i target sender (ensurePeer target s), .accepted, none, .firstOffer⟩
    else
      match s.freeSlot with
      | none => refuse .full s
      | some j =>
        let s := putEntry j (some (.tr (boundEntry target true))) (ensurePeer target s)
        ⟨writeTransfer i target sender (raiseBond j target 2 .offer s), .accepted, none, .firstOffer⟩

/-- HANDOVER_FRAME (R99). -/
def execHandoverFrame (dev : Nat) (header : Header) (target : Identity) (s : State) : Host.Outcome State Fault Refusal :=
  .next (receive dev ⟨header, .handover target⟩
    (fun _ _ => takeRequest header .handover false (judgeHandover header.sender target)) s)

/-! ## OFFER (R101) -/

/-- An OFFER is refused by an ANSWER with its reason (R101). -/
def refuseOffer (traction : Identity) (r : Reason) (s : State) : State := sendAnswer traction .offer 0 .refused (some r) s

/-- An OFFER report (R101). -/
def raiseOffer (i : Fin 4) (traction controller : Identity) (seconds : Byte) (s : State) : State :=
  raise .offer false traction (identityBytes controller ++ [seconds, BitVec.ofNat 8 i.val]) s

/-- The expiry of an offer at the target: the frame's stamp plus the seconds remaining (R101). -/
def offerExpiry (stamp : Nat) (seconds : Byte) : Nat := stamp + seconds.toNat * 1000

/-- The reports of an entry that has become OFFERED (R101). -/
def raiseOffered (i : Fin 4) (traction controller : Identity) (seconds : Byte) (s : State) : State :=
  raiseOffer i traction controller seconds (raiseBond i traction 6 .offer s)

/-- The OFFERED entry made for an offer, with the offer it is given (R101, check 8). -/
def offeredEntry (traction : Identity) (offer : Option Offer) : OpEntry :=
  { traction := traction, st := .offered, nextSeq := 0, req := none, link := none, sup := none, offer := offer
    handing := none }

/-- A new entry is made for an offer. Its traction is ensured and then named, and so pinned, before the present controller is
ensured and the offer set, so that the table holds both identities the entry names (R42; R101, check 8). -/
def makeOffered (i : Fin 4) (traction controller : Identity) (expiry : Nat) (s : State) : State :=
  let named := putEntry i (some (.op (offeredEntry traction none))) (ensurePeer traction s)
  putEntry i (some (.op (offeredEntry traction
      (some { controller := controller, expiry := expiry, madeForOffer := true }))))
    (ensurePeer controller named)

/-- The entry awaits the answer of a by-transfer TAKE (R101, check 5). -/
def takingByTransfer (e : OpEntry) : Bool :=
  e.st == .taking && (match e.req with | some q => (match q.body with | .take b _ => b | _ => false) | none => false)

/-- The offer of an OFFERED entry is renewed; another handing operator is told to the host (R101, check 4). -/
def renewOffer (i : Fin 4) (e : OpEntry) (controller : Identity) (seconds : Byte) (stamp : Nat) (s : State) : State :=
  let t := agePeers (modOp i (fun x =>
      { x with offer := x.offer.map (fun o => { o with controller := controller, expiry := offerExpiry stamp seconds }) })
    (ensurePeer controller s))
  if e.offer.map Offer.controller = some controller then t else raiseOffer i e.traction controller seconds t

/-- An operator takes an OFFER by an entry that names the sender (R101, checks 4 to 7). -/
def offerToEntry (i : Fin 4) (e : OpEntry) (controller : Identity) (seconds : Byte) (stamp : Nat) (s : State) : State :=
  if e.st = .offered then renewOffer i e controller seconds stamp s
  else if takingByTransfer e then s
  else if e.st = .standby ∧ e.req = none then
    raiseOffered i e.traction controller seconds
      (modOp i (fun x => { x with st := .offered
                                  offer := some { controller := controller, expiry := offerExpiry stamp seconds
                                                  madeForOffer := false } })
        (ensurePeer controller s))
  else refuseOffer e.traction .state s

/-- A station takes an OFFER (R101). -/
def takeOffer (sender controller : Identity) (seconds : Byte) (stamp : Nat) (s : State) : State :=
  if !s.isOperator then refuseOffer sender .role s
  else if s.peerRole sender ≠ some .traction then refuseOffer sender .role s
  else if s.peerCrew sender ≠ some s.cfg.crew then refuseOffer sender .crew s
  else
    match s.findOp sender with
    | some (i, e) => offerToEntry i e controller seconds stamp s
    | none =>
      match s.freeSlot with
      | some i =>
        raiseOffered i sender controller seconds (makeOffered i sender controller (offerExpiry stamp seconds) s)
      | none => refuseOffer sender .full s

/-- OFFER_FRAME (R101). -/
def execOfferFrame (dev : Nat) (header : Header) (controller : Identity) (seconds : Byte) (s : State) :
    Host.Outcome State Fault Refusal :=
  .next (receive dev ⟨header, .offer controller seconds⟩
    (fun stamp _ => takeOffer header.sender controller seconds stamp) s)

/-! ## SETTLED (R110) -/

/-- A SETTLED report: the outcome and the slot, FFh where no entry names the traction (R110). -/
def raiseSettled (traction : Identity) (outcome : SettledOutcome) (slot : Option (Fin 4)) (s : State) : State :=
  raise .settled false traction
    [settledCode outcome, match slot with | some i => BitVec.ofNat 8 i.val | none => 0xFF] s

/-- An operator takes a SETTLED frame: the handing mark is cleared, COMPLETED ends control, the host is told (R110;
log 23). -/
def takeSettled (sender : Identity) (outcome : SettledOutcome) (s : State) : State :=
  if s.isOperator then
    match s.findOp sender with
    | some (i, e) =>
      let s := agePeers (modOp i (fun x => { x with handing := none }) s)
      let s := if outcome = .completed ∧ commands e = true then leaveControl i (some .transferred) s else s
      raiseSettled sender outcome (some i) s
    | none => raiseSettled sender outcome none s
  else s

/-- SETTLED_FRAME (R110). -/
def execSettledFrame (dev : Nat) (header : Header) (outcome : SettledOutcome) (s : State) :
    Host.Outcome State Fault Refusal :=
  .next (receive dev ⟨header, .settled outcome⟩ (fun _ _ => takeSettled header.sender outcome) s)

end Sys2Proof.Machine
end

