-- ==== Sys2Proof/Machine/OtherFrames.lean ====
section
/-! DEFINITION. The meanings of the received frames of the halt unit, the floor unit, the peer table, the host link and
station control: HALT, CLAIM, CLEAR, VOICE, NOTE, PROBE, ECHO, PRESENT, DORMANT (07, 09, 03, 12, 10). -/

namespace Sys2Proof.Machine

/-! ## HALT (R123 to R129) -/

/-- The screen discards a HALT: an original not from its originator, a relay not from a TRACTION, or a halt of this
station's own (R123). -/
def State.screenedOut (s : State) (h : Header) (originator : Identity) (relay : Bool) : Bool :=
  (!relay && originator != h.sender) || (relay && s.peerRole h.sender != some .traction) || originator == s.unitId

/-- The scope of a halt, by its destination mode. -/
def haltScope (h : Header) : Scope := if h.mode = .yard then .yard else .crew

/-- A yard HALT carries authority by its header, or by being a relay; a crew HALT needs none (R123). -/
def authorized (h : Header) (relay : Bool) : Bool := h.mode != .yard || relay || h.authority

/-- An AUTHORITY report (R129). -/
def raiseAuthority (originator sender : Identity) (number : Byte) (s : State) : State :=
  raise .authority false originator (number :: identityBytes sender) s

/-- A HALT HEARD report (R129). -/
def raiseHaltHeard (h : Header) (originator : Identity) (number copy : Byte) (relay : Bool) (s : State) : State :=
  raise .haltHeard true originator ([number, scopeCode (haltScope h), copy, flagCode relay] ++ identityBytes h.sender) s

/-- A screened HALT of a new pair (R124). -/
def newHalt (h : Header) (originator : Identity) (number copy : Byte) (relay : Bool) (s : State) : State :=
  let s := enterPair originator number s
  if authorized h relay then
    let s := addHaltCause (haltScope h) originator (raiseHaltHeard h originator number copy relay s)
    let s := if s.isTraction && h.mode == .yard && !relay then relayHalt offer originator number s else s
    haltNotice offer s
  else raiseAuthority originator h.sender number s

/-- A screened HALT of a known pair (R125). -/
def knownHalt (h : Header) (e : HaltEntry) (relay : Bool) (s : State) : State :=
  if authorized h relay then
    haltNotice offer (if relay && e.relayQueued then suppressRelay e.originator e.number s else s)
  else s

/-- The halt unit takes a HALT for this station (R123 to R125). -/
def takeHalt (h : Header) (originator : Identity) (number copy : Byte) (relay : Bool) (s : State) : State :=
  if s.screenedOut h originator relay then s
  else
    match s.haltEntry originator number with
    | some e => knownHalt h e relay s
    | none => newHalt h originator number copy relay s

/-- HALT_FRAME (R123). -/
def execHaltFrame (dev : Nat) (header : Header) (originator : Identity) (number copy : Byte) (relay : Bool) (s : State) :
    Host.Outcome State Fault Refusal :=
  .next (receive dev ⟨header, .halt originator number copy relay⟩
    (fun _ _ => takeHalt header originator number copy relay) s)

/-! ## CLAIM, CLEAR, VOICE (R144 to R148, R155) -/

/-- CLAIM_FRAME (R144, R145, R147, R148). -/
def execClaimFrame (dev : Nat) (header : Header) (scope : Scope) (s : State) : Host.Outcome State Fault Refusal :=
  .next (receive dev ⟨header, .claim scope⟩ (fun _ _ => hearSpeech header none) s)

/-- CLEAR_FRAME (R144, R145, R147, R148). -/
def execClearFrame (dev : Nat) (header : Header) (sent : Byte) (s : State) : Host.Outcome State Fault Refusal :=
  .next (receive dev ⟨header, .clear sent⟩ (fun _ _ => hearClear header.sender) s)

/-- VOICE_FRAME (R144, R145, R147, R148, R155). -/
def execVoiceFrame (dev : Nat) (header : Header) (number : Byte) (block : List CodecFrame) (s : State) :
    Host.Outcome State Fault Refusal :=
  .next (receive dev ⟨header, .voice number block⟩ (fun _ _ => hearSpeech header (some (number, block))) s)

/-! ## NOTE (R184) -/

/-- A NOTE heard is reported with its text (R184). -/
def raiseNote (h : Header) (text : List Byte) (s : State) : State :=
  postReport { kind := .note, urgent := false, lostBefore := false, time := s.now, subject := h.sender
               detail := [(modeCode h.mode).setWidth 8, BitVec.ofNat 8 text.length], text := text, entryTime := s.now } s

/-- NOTE_FRAME (R184). -/
def execNoteFrame (dev : Nat) (header : Header) (text : List Byte) (s : State) : Host.Outcome State Fault Refusal :=
  .next (receive dev ⟨header, .note text⟩ (fun _ _ => raiseNote header text) s)

/-! ## PROBE and ECHO (R48, R50) -/

/-- PROBE_FRAME: an ECHO with the PROBE's quality class, the own rate and the pattern (R48). -/
def execProbeFrame (dev : Nat) (header : Header) (pattern : List Byte) (s : State) : Host.Outcome State Fault Refusal :=
  .next (receive dev ⟨header, .probe pattern⟩
    (fun _ quality s =>
      offerAnyway (s.unitFrame header.sender 0 (.echo (BitVec.ofNat 8 quality) s.cfg.rate pattern)) .echo s) s)

/-- The time the matching probe left the air, if an ECHO of a sender and pattern matches (R50). -/
def State.probeMatch (s : State) (sender : Identity) (pattern : List Byte) : Option Nat :=
  match s.peers.probe with
  | .awaiting target sought sentAt => if target = sender ∧ sought = pattern then some sentAt else none
  | _ => none

/-- An ECHO is taken: it ends the matching probe with the round trip time, or is reported UNMATCHED (R50). -/
def takeEcho (sender : Identity) (quality : Byte) (rate : Rate) (pattern : List Byte) (stamp received : Nat) (s : State) :
    State :=
  match s.probeMatch sender pattern with
  | some sentAt =>
    raiseAt stamp .echo false sender
      ([echoResultCode .echoed, quality, rateCode rate, BitVec.ofNat 8 received] ++ be16 (stamp - sentAt))
      (s.setProbe .none)
  | none =>
    raiseAt stamp .echo false sender [echoResultCode .unmatched, quality, rateCode rate, BitVec.ofNat 8 received, 0, 0] s

/-- ECHO_FRAME (R50). -/
def execEchoFrame (dev : Nat) (header : Header) (quality : Byte) (rate : Rate) (pattern : List Byte) (s : State) :
    Host.Outcome State Fault Refusal :=
  .next (receive dev ⟨header, .echo quality rate pattern⟩
    (fun stamp received => takeEcho header.sender quality rate pattern stamp received) s)

/-! ## PRESENT and DORMANT (R166) -/

/-- PRESENT_FRAME (R166, R46). -/
def execPresentFrame (dev : Nat) (header : Header) (s : State) : Host.Outcome State Fault Refusal :=
  .next (receive dev ⟨header, .present⟩ (fun _ _ => raiseDormancy .peerPresent 0 header.sender) s)

/-- DORMANT_FRAME (R166, R46). -/
def execDormantFrame (dev : Nat) (header : Header) (s : State) : Host.Outcome State Fault Refusal :=
  .next (receive dev ⟨header, .dormant⟩ (fun _ _ => raiseDormancy .peerDormant 0 header.sender) s)

end Sys2Proof.Machine
end

