-- ==== Sys2Proof/Machine/AirEvents.lean ====
section
/-! DEFINITION. The meanings of the channel access unit's own events: keying, the phases of the frame on air, the frame sent,
an entry becoming eligible, JAM (02). -/

namespace Sys2Proof.Machine

/-- The candidate may be keyed now (R27). -/
def keyDue (s : State) : Bool :=
  match s.candidate with
  | some c => s.mayKey c
  | none => false

/-- KEY_FRAME: the candidate is keyed when R27 allows it (R27, R28). -/
def execKeyFrame (s : State) : Host.Outcome State Fault Refusal :=
  .next (match s.candidate with
    | some c => if s.mayKey c then keyCandidate c s else s
    | none => s)

/-- The frame on air in another phase. -/
def setPhase (p : AirPhase) (a : OnAir) (s : State) : State := s.setChan { s.chan with onAir := some { a with phase := p } }

/-- The frame on air is in a phase, and so many ms have passed since keying. -/
def phaseOver (p : AirPhase) (ms : Nat) (s : State) : Bool :=
  match s.chan.onAir with
  | some a => a.phase == p && s.reached (a.keyedAt + ms)
  | none => false

/-- The lead of the frame on air is over (R28). -/
def leadEndDue (s : State) : Bool := phaseOver .lead leadMs s

/-- LEAD_END: the 5 ms lead ends; the phase is WAKE for a wake burst and PREAMBLE otherwise (R28). -/
def execLeadEnd (s : State) : Host.Outcome State Fault Refusal :=
  .next (match s.chan.onAir with
    | some a => if leadEndDue s then setPhase (if a.wake then .wake else .preamble) a s else s
    | none => s)

/-- The wake preamble of the frame on air is over (R28, R30). -/
def wakePreambleEndDue (s : State) : Bool := phaseOver .wake (leadMs + wakeMs) s

/-- WAKE_PREAMBLE_END: the 1200 ms end and the phase is FRAME (R28, R30). -/
def execWakePreambleEnd (s : State) : Host.Outcome State Fault Refusal :=
  .next (match s.chan.onAir with
    | some a => if wakePreambleEndDue s then setPhase .frame a s else s
    | none => s)

/-- The last check bit of the frame on air has been sent: the frame is past its lead and its wake preamble, and its air
time has passed (R2, R29). -/
def frameSentDue (s : State) : Bool :=
  match s.chan.onAir with
  | some a => (a.phase == .preamble || a.phase == .frame) && s.reached (a.keyedAt + airMs a.frame a.rate a.wake)
  | none => false

/-- The owner of the frame that has left the air is told "sent": the floor unit for a voice block, and otherwise the owner
of the queue entry that was on air (R29). -/
def tellSent (a : OnAir) (tag : Option OwnerTag) (s : State) : State :=
  match a.voice, tag with
  | some _, _ => voiceSent offer s
  | none, some t => ownerSent offer t s
  | none, none => s

/-- FRAME_SENT (R29). -/
def execFrameSent (s : State) : Host.Outcome State Fault Refusal :=
  .next (match s.chan.onAir with
    | some a => if frameSentDue s then tellSent a s.airTag (leaveAir s) else s
    | none => s)

/-- An entry's not-before time has been reached and the moment has not been taken (R23). -/
def newlyEligible (s : State) (e : QEntry) : Bool := s.eligible e && !e.eligibleTaken

/-- Some entry becomes eligible (R23). -/
def entryEligibleDue (s : State) : Bool := s.chan.queue.any (newlyEligible s)

/-- The entries that become eligible are so; a class 0 entry among them is a class 0 arrival (R23, R31). -/
def becomeEligible (s : State) : State :=
  let t := s.setQueue (s.chan.queue.map (fun e => if newlyEligible s e then { e with eligibleTaken := true } else e))
  if s.chan.queue.any (fun e => newlyEligible s e && e.cls == .c0) then classZeroArrival t else t

/-- ENTRY_ELIGIBLE (R23, R31). -/
def execEntryEligible (s : State) : Host.Outcome State Fault Refusal :=
  .next (if entryEligibleDue s then becomeEligible s else s)

/-- A spell of this many ms is JAM (R36). -/
def jamMs : Nat := 12000

/-- A spell of carrier has lasted 12 s without JAM (R36). -/
def jamDue (s : State) : Bool :=
  match s.chan.spell with
  | some sp => !sp.jam && s.reached (sp.start + jamMs)
  | none => false

/-- JAM_DETECTED (R36, R117, R172). -/
def execJamDetected (s : State) : Host.Outcome State Fault Refusal :=
  .next (match s.chan.spell with
    | some sp => if jamDue s then jamLive (s.setSpell (some { sp with jam := true })) else s
    | none => s)

end Sys2Proof.Machine
end

