-- ==== Sys2Proof/Machine/BondEvents.lean ====
section
/-! DEFINITION. The meanings of the timed events of the bond unit: waits, periods, ages, transfers, offers (04, 05, 06). Each
acts when its moment has come in the slot it names, and otherwise changes nothing (log 3). -/

namespace Sys2Proof.Machine

/-! ## Waits of requests (R56, R72, R73) -/

/-- An end of a wait: AWAITING or RETRY. -/
inductive WaitKind where
  | bind | answer | retry
deriving DecidableEq, Repr

/-- The wait of an entry's request that a kind names has run out: the reply to a BIND-ASK, the answer to another request,
the retry. -/
def waitOver (k : WaitKind) (now : Nat) (e : OpEntry) : Bool :=
  match e.req with
  | some q =>
    match k, q.phase with
    | .bind, .awaiting t => reqKind q.body == .bindAsk && decide (t ≤ now)
    | .answer, .awaiting t => reqKind q.body != .bindAsk && decide (t ≤ now)
    | .retry, .retry t => decide (t ≤ now)
    | _, _ => false
  | none => false

/-- The wait of a slot has run out. -/
def waitDue (k : WaitKind) (i : Fin 4) (s : State) : Bool := (s.opEntry i).any (waitOver k s.now)

/-- A wait that has run out is followed by a resend or by NO-ANSWER. -/
def endWait (k : WaitKind) (i : Fin 4) (s : State) : State := if waitDue k i s then noAnswerYet offer i s else s

/-- BIND_WAIT_EXPIRY (R56). -/
def execBindWaitExpiry (slot : Fin 4) (s : State) : Host.Outcome State Fault Refusal := .next (endWait .bind slot s)

/-- ANSWER_WAIT_EXPIRY (R72). -/
def execAnswerWaitExpiry (slot : Fin 4) (s : State) : Host.Outcome State Fault Refusal := .next (endWait .answer slot s)

/-- RETRY_WAIT_EXPIRY (R73). -/
def execRetryWaitExpiry (slot : Fin 4) (s : State) : Host.Outcome State Fault Refusal := .next (endWait .retry slot s)

/-! ## Age of a STANDBY entry (R64) -/

/-- A STANDBY entry whose operator is unheard this long is removed, in ms (R64). -/
def standbyAgeMs : Nat := 600000

/-- A STANDBY entry's operator has been unheard for 600 s (R64). -/
def standbyAged (s : State) (e : TrEntry) : Bool :=
  e.st == .standby && (match s.peer e.operator with | some p => s.reached (heardBase p + standbyAgeMs) | none => false)

/-- The STANDBY entry of a slot is to be removed (R64). -/
def standbyAgeDue (i : Fin 4) (s : State) : Bool := (s.trEntry i).any (standbyAged s)

/-- A silent STANDBY entry is removed; the target of a pending transfer clears it as DECLINED (R64, R108). -/
def ageStandby (i : Fin 4) (e : TrEntry) (s : State) : State :=
  let r := clearIfTarget e.operator (raiseBond i e.operator 0 .aged (freeEntry i s))
  runSequel r.2 r.1

/-- STANDBY_AGE_OUT (R64). -/
def execStandbyAgeOut (slot : Fin 4) (s : State) : Host.Outcome State Fault Refusal :=
  .next (match s.trEntry slot with
    | some e => if standbyAged s e then ageStandby slot e s else s
    | none => s)

/-! ## The operator's period (R89, R91) -/

/-- An entry's CHECK is due. -/
def checkOver (now : Nat) (e : OpEntry) : Bool :=
  commands e && (match e.sup with | some p => decide (p.due ≤ now) | none => false)

/-- The CHECK of a slot is due (R89). -/
def checkIsDue (i : Fin 4) (s : State) : Bool := (s.opEntry i).any (checkOver s.now)

/-- The period of an operator-side entry closes with its mark, and the next begins (R89, R91). -/
def closeOpPeriod (i : Fin 4) (s : State) : State :=
  modOp i (fun e => { e with sup := e.sup.map (fun p =>
    { history := addMark p.heard p.history, heard := false, due := p.due + (e.link.map OpLink.period).getD 0 }) }) s

/-- The history of an operator-side entry. -/
def opHistory (e : OpEntry) : List Mark := (e.sup.map OpSup.history).getD []

/-- A CONTROLLING entry whose history meets the loss rule becomes SILENT (R91). -/
def judgeSilence (i : Fin 4) (s : State) : State :=
  match s.opEntry i with
  | some e =>
    if e.st = .controlling ∧ lossRule (opHistory e) = true then
      let others := s.otherOp i (fun x => x.st == .silent)
      let s := raiseBond i e.traction 5 .lost (modOp i (fun x => { x with st := .silent }) s)
      if others then s else faultLive .link e.traction s
    else s
  | none => s

/-- CHECK_DUE: the period closes and is judged, and the next CHECK is made (R89, R91). -/
def execCheckDue (slot : Fin 4) (s : State) : Host.Outcome State Fault Refusal :=
  .next (if checkIsDue slot s then makeCheck offer slot (judgeSilence slot (closeOpPeriod slot s)) else s)

/-! ## The traction's period (R94, R95) -/

/-- An entry's period is over. -/
def periodOver (now : Nat) (e : TrEntry) : Bool :=
  inControl e && (match e.sup with | some p => decide (p.closeAt ≤ now) | none => false)

/-- The period of a slot closes (R94). -/
def periodDue (i : Fin 4) (s : State) : Bool := (s.trEntry i).any (periodOver s.now)

/-- The period of a traction-side entry closes with its mark, and the next begins at once (R94). -/
def closeTrPeriod (i : Fin 4) (s : State) : State :=
  modSup i (fun p => { p with history := addMark p.heard p.history, heard := false, closeAt := p.closeAt + p.period }) s

/-- The history of a traction-side entry. -/
def trHistory (e : TrEntry) : List Mark := (e.sup.map TrSup.history).getD []

/-- A CONTROLLING entry whose history meets the loss rule becomes LOST: LINK-LOST, LINK, an urgent BOND report (R94). -/
def judgeLoss (i : Fin 4) (s : State) : State :=
  match s.trEntry i with
  | some e =>
    if e.st = .controlling ∧ lossRule (trHistory e) = true then
      let others := s.otherTr i (fun x => x.st == .lost)
      let s := modTr i (fun x => { x with st := .lost, lostSince := some s.now }) s
      let s := addCause causeLinkLost e.operator s
      let s := if others then s else faultLive .link e.operator s
      raiseBond i e.operator 7 .lost s
    else s
  | none => s

/-- PERIOD_CLOSE (R94). -/
def execPeriodClose (slot : Fin 4) (s : State) : Host.Outcome State Fault Refusal :=
  .next (if periodDue slot s then judgeLoss slot (closeTrPeriod slot s) else s)

/-- A LOST entry is abandoned after this many ms (R95). -/
def abandonMs : Nat := 60000

/-- An entry is LOST for 60 s. -/
def abandonOver (now : Nat) (e : TrEntry) : Bool :=
  e.st == .lost && (match e.lostSince with | some t => decide (t + abandonMs ≤ now) | none => false)

/-- The LOST entry of a slot is to be abandoned (R95). -/
def abandonDue (i : Fin 4) (s : State) : Bool := (s.trEntry i).any (abandonOver s.now)

/-- A LOST entry is removed: its transfer detaches, UNATTENDED is added, LINK ends (R95, R97, R116). -/
def abandon (i : Fin 4) (e : TrEntry) (s : State) : State :=
  let s := raiseBond i e.operator 0 .abandoned (freeEntry i (detachTransfer i s))
  endLinkIfLost i e (addUnattended e.operator s)

/-- ABANDON (R95). -/
def execAbandon (slot : Fin 4) (s : State) : Host.Outcome State Fault Refusal :=
  .next (match s.trEntry slot with
    | some e => if abandonOver s.now e then abandon slot e s else s
    | none => s)

/-! ## Transfers and offers (R100, R102, R107) -/

/-- The next OFFER is due (R100). -/
def offerRepeatDue (s : State) : Bool :=
  match s.pendingTransfer with
  | some x => (match x.nextOffer with | some t => s.reached t | none => false)
  | none => false

/-- A further OFFER while at least 2000 ms of the transfer remain; none otherwise (R100). -/
def repeatOffer (x : Transfer) (s : State) : State :=
  if s.now + offerLeastMs ≤ x.expiry then sendOffer offer s
  else modTransfer (fun y => { y with nextOffer := none }) s

/-- OFFER_REPEAT (R100). -/
def execOfferRepeat (s : State) : Host.Outcome State Fault Refusal :=
  .next (match s.pendingTransfer with
    | some x => if offerRepeatDue s then repeatOffer x s else s
    | none => s)

/-- The pending transfer has reached its expiry (R107). -/
def transferLapseDue (s : State) : Bool :=
  match s.pendingTransfer with
  | some x => s.reached x.expiry
  | none => false

/-- The pending transfer lapses (R107). -/
def lapseTransfer (x : Transfer) (s : State) : State :=
  removeOffered x.target .lapsed (sendSettled offer .lapsed x.handing (clearTransfer s))

/-- TRANSFER_LAPSE (R107). -/
def execTransferLapse (s : State) : Host.Outcome State Fault Refusal :=
  .next (match s.pendingTransfer with
    | some x => if transferLapseDue s then lapseTransfer x s else s
    | none => s)

/-- An OFFERED entry has passed its expiry. -/
def offerOver (now : Nat) (e : OpEntry) : Bool :=
  e.st == .offered && (match e.offer with | some o => decide (o.expiry ≤ now) | none => false)

/-- The offer of a slot lapses (R102). -/
def offerExpiryDue (i : Fin 4) (s : State) : Bool := (s.opEntry i).any (offerOver s.now)

/-- OFFER_EXPIRY (R102). -/
def execOfferExpiry (slot : Fin 4) (s : State) : Host.Outcome State Fault Refusal :=
  .next (match s.opEntry slot with
    | some e => if offerOver s.now e then endOffer slot e .lapsed s else s
    | none => s)

end Sys2Proof.Machine
end

