-- ==== Sys2Proof/Machine/LoopTest.lean ====
section
/-! DEFINITION. The LOOP test: the places of its three test frames in the test, the looped hunter's way through what it
measured and sampled of one, and when a frame is intact (R176; R3 to R6). -/

namespace Sys2Proof.Machine

/-! ## What is sent through the loop (R176) -/

/-- When the test frame of a rate begins, in units of 1/24 ms from the start of the test: FULL, HALF, QUARTER in turn, each
of 256 bits (R176). -/
def loopBeginsAt : Rate → Nat
  | .full => 0
  | .half => 256 * bitUnits .full
  | .quarter => 256 * bitUnits .full + 256 * bitUnits .half

/-- The rate whose test frame is in the loop so many units of 1/24 ms after the start; none once all three have ended
(R176). The looped hunter takes the carrier as present exactly then, whatever CDET shows. -/
def loopRateAt (u : Nat) : Option Rate :=
  if u < loopBeginsAt .half then some .full
  else if u < loopBeginsAt .quarter then some .half
  else if u < loopBeginsAt .quarter + 256 * bitUnits .quarter then some .quarter
  else none

/-- The bit in the loop so many units of 1/24 ms after the start of a test that sends a frame (R1, R176). -/
def loopBitAt (sent : Frame) (u : Nat) : Option Bool :=
  (loopRateAt u).bind fun r => (frameBits sent r false)[(u - loopBeginsAt r) / bitUnits r]?

/-! ## The looped hunter (R4 to R6, R176) -/

/-- The receive states of the looped hunter after each transition of a preamble, from HUNTING (R4). -/
def loopHunt (bitTimes : List Nat) : RxState := bitTimes.foldl huntStep (.locking .full 0)

/-- The rate at which a preamble locks the hunter (R4). -/
def lockedRate (bitTimes : List Nat) : Option Rate :=
  match loopHunt bitTimes with
  | .locking entry bits => if lockBits ≤ bits then some entry else none
  | _ => none

/-- The sync search over samples: `prev` is the sample before, `run` counts the samples since the window last restarted,
`last` holds the last 16 samples, `seen` counts them all. The samples after the sync word, or none: a window of 24 has
passed, or the carrier has ended (R5). -/
def syncSearch (prev : Option Bool) (run : Nat) (last : BitVec 16) (seen : Nat) : List Bool → Option (List Bool)
  | [] => none
  | b :: bs =>
    let run := if prev = some (!b) then 0 else run + 1
    let last := (last <<< 1) ||| (BitVec.ofBool b).setWidth 16
    if 16 ≤ seen + 1 ∧ last = syncWord then some bs
    else if syncWindowBits ≤ run then none
    else syncSearch (some b) run last (seen + 1) bs

/-- A byte of eight samples, most significant bit first (R1). -/
def byteOfBits (a b c d e f g h : Bool) : Byte :=
  BitVec.ofBool a ++ BitVec.ofBool b ++ BitVec.ofBool c ++ BitVec.ofBool d ++ BitVec.ofBool e ++ BitVec.ofBool f
    ++ BitVec.ofBool g ++ BitVec.ofBool h

/-- So many bytes read from samples, and the samples after them; none where the carrier ends before (R6). -/
def readBytes : Nat → List Bool → Option (List Byte × List Bool)
  | 0, bits => some ([], bits)
  | n + 1, a :: b :: c :: d :: e :: f :: g :: h :: rest =>
    (readBytes n rest).map fun r => (byteOfBits a b c d e f g h :: r.1, r.2)
  | _ + 1, _ => none

/-- Header and body of a checked frame read after the sync word; none for a failed frame: a body length above 64, a carrier
that ends early, a check that disagrees (R3, R6). -/
def readFrame (bits : List Bool) : Option (List Byte) := do
  let (header, rest) ← readBytes 10 bits
  let length := ((header.getD 9 0).extractLsb' 0 7).toNat
  if 64 < length then none else
  let (body, rest) ← readBytes length rest
  let (check, _) ← readBytes 2 rest
  let wanted := frameCheck (header ++ body)
  if check = [wanted.extractLsb' 8 8, wanted.extractLsb' 0 8] then some (header ++ body) else none

/-- A test frame sent at a rate is intact: the hunter locked at that rate, found the sync word in its window, found the check
in agreement, and read the header and body bytes that were sent (R176). -/
def intact (rate : Rate) (sent : Frame) (r : LoopReading) : Bool :=
  lockedRate r.bitTimes == some rate && (syncSearch none 0 0 0 r.samples).bind readFrame == some (frameBytes sent)

end Sys2Proof.Machine
end

