-- ==== Sys2Proof/Machine/StationEvents.lean ====
section
/-! DEFINITION. The meanings of the timed events of the peer table, the halt unit, the floor unit, station control, the test
unit and the host link (03, 07, 09, 10, 11, 12). Each acts when its moment has come, and otherwise changes nothing (log 3). -/

namespace Sys2Proof.Machine

/-! ## Peer table and fault monitor (R43, R47, R49, R173) -/

/-- The time the disagreement input must stay true, in ms (R173). -/
def disagreeMs : Nat := 30000

/-- DISAGREE is to rise (R173). -/
def disagreeDue (s : State) : Bool :=
  s.port.disagree && !s.isLive .disagree
    && (match s.fault.timer with | some t => s.reached (t + disagreeMs) | none => false)

/-- DISAGREE_TIMEOUT (R173). -/
def execDisagreeTimeout (s : State) : Host.Outcome State Fault Refusal :=
  .next (if disagreeDue s then faultLive .disagree noSubject s else s)

/-- PEER_AGE_OUT: an unpinned entry unheard for 300 s is removed (R43). -/
def execPeerAgeOut (peer : Identity) (s : State) : Host.Outcome State Fault Refusal :=
  .next (if s.peers.entries.any (fun p => p.id == peer && s.agedOut p) then
      s.setEntries (s.peers.entries.filter (fun p => !(p.id == peer && s.agedOut p)))
    else s)

/-- The conflict deadline is reached (R47). -/
def conflictDue (s : State) : Bool :=
  match s.peers.conflict with
  | some c => s.reached c.deadline
  | none => false

/-- CONFLICT_DEADLINE: the deadline is absent again and IDCONFLICT ends (R47; log 17). -/
def execConflictDeadline (s : State) : Host.Outcome State Fault Refusal :=
  .next (match s.peers.conflict with
    | some c => if conflictDue s then faultEnd .idConflict c.id (s.setPeers { s.peers with conflict := none }) else s
    | none => s)

/-- The time a probe waits for its ECHO, in ms (R49). -/
def probeMs : Nat := 2000

/-- The probe is to end SILENT (R49). -/
def probeDue (s : State) : Bool :=
  match s.peers.probe with
  | .awaiting _ _ sentAt => s.reached (sentAt + probeMs)
  | _ => false

/-- PROBE_TIMEOUT (R49). -/
def execProbeTimeout (s : State) : Host.Outcome State Fault Refusal :=
  .next (match s.peers.probe with
    | .awaiting target _ _ => if probeDue s then endProbe .silent target s else s
    | _ => s)

/-! ## Halt memory (R122) -/

/-- An entry of the halt memory is to go (R122). -/
def pairOver (now : Nat) (e : HaltEntry) : Bool := decide (e.firstHeard + haltMemoryMs ≤ now)

/-- HALT_MEMORY_EXPIRY (R122). -/
def execHaltMemoryExpiry (originator : Identity) (number : Byte) (s : State) : Host.Outcome State Fault Refusal :=
  .next (match s.haltEntry originator number with
    | some e => if pairOver s.now e then forgetPair e s else s
    | none => s)

/-! ## Floor (R146, R150) -/

/-- A frame boundary has come (R150). -/
def boundaryDue (s : State) : Bool :=
  match s.floor.boundary with
  | some t => s.reached t
  | none => false

/-- AUDIO_FRAME_BOUNDARY (R150, R151, R156). -/
def execAudioFrameBoundary (codec : CodecFrame) (s : State) : Host.Outcome State Fault Refusal :=
  .next (if boundaryDue s then s.setFloor (passBoundary codec s.floor) else s)

/-- A held floor is freed after this many ms without its talker (R146). -/
def floorMs : Nat := 1500

/-- The held floor is to be freed (R146). -/
def floorDue (s : State) : Bool :=
  match s.floor.st with
  | .held h => s.reached (h.taken + floorMs)
  | _ => false

/-- FLOOR_TIMEOUT (R146). -/
def execFloorTimeout (s : State) : Host.Outcome State Fault Refusal :=
  .next (if floorDue s then s.setFloorState .free else s)

/-! ## Station control (R161, R164) -/

/-- DORMANCY_DELAY_EXPIRY: the conditions hold and the DORMANT notice is offered (R161). -/
def execDormancyDelayExpiry (s : State) : Host.Outcome State Fault Refusal :=
  .next (if s.dormancyDue then
      match offer (s.crewFrame .dormant) none .dormantNotice s with
      | some t => t.setNotice .queued
      | none => s
    else s)

/-- A sniff window is to open (R164). -/
def windowOpenDue (s : State) : Bool :=
  s.life.st == .dormant && (match s.life.sniff with | some t => s.reached t | none => false)

/-- SNIFF_WINDOW_OPEN: a window of 60 ms opens and the schedule advances by 1000 ms (R164). -/
def execSniffWindowOpen (s : State) : Host.Outcome State Fault Refusal :=
  .next (match s.life.sniff with
    | some t =>
      if windowOpenDue s then
        s.setLife { s.life with sniff := some (t + sniffPeriodMs), window := some (t + sniffWindowMs) }
      else s
    | none => s)

/-- A sniff window is to close (R164). -/
def windowCloseDue (s : State) : Bool :=
  match s.life.window with
  | some t => s.reached t
  | none => false

/-- A hunt still LOCKING is dropped (R7). -/
def dropLocking (r : RxState) : RxState :=
  match r with
  | .locking _ _ => .hunting
  | r => r

/-- SNIFF_WINDOW_CLOSE (R7, R164). -/
def execSniffWindowClose (s : State) : Host.Outcome State Fault Refusal :=
  .next (if windowCloseDue s then (s.setLife { s.life with window := none }).setModem (dropLocking s.modem) else s)

/-! ## Self-tests (R174 to R179) -/

/-- Lengths of the tests in ms (R176 to R178). -/
def loopMs : Nat := 400
def stoplineMs : Nat := 50
def timerMs : Nat := 1000

/-- The result of a test by whether it passed. -/
def resultOf (passed : Bool) : TestResult := if passed then .pass else .fail

/-- A condition follows a test: live on FAIL, ended on PASS (R174). -/
def followTest (c : Condition) (passed : Bool) (s : State) : State :=
  if passed then faultEnd c noSubject s else faultLive c noSubject s

/-- A TEST DONE report (R179). -/
def raiseTestDone (test b2 b3 : Byte) (passed : Bool) (s : State) : State :=
  raise .testDone false noSubject (testDoneDetail test (if passed then 0 else 1) b2 b3) s

/-- LOOP is to end (R176). -/
def loopDue (s : State) : Bool :=
  match s.test.running with
  | some (.loop start _) => s.reached (start + loopMs)
  | _ => false

/-- LOOP ends: PASS if all three frames came back intact (R174, R176, R179). -/
def endLoop (full half quarter : Bool) (s : State) : State :=
  let passed := full && half && quarter
  let s := (s.setTest { s.test with running := none, loop := resultOf passed }).setModem .hunting
  let missing : BitVec 3 := BitVec.ofBool (!quarter) ++ BitVec.ofBool (!half) ++ BitVec.ofBool (!full)
  raiseTestDone 1 (missing.setWidth 8) 0 passed (followTest .loopFail passed s)

/-- LOOP_TEST_END: each of the three test frames is intact by what the looped hunter made of it (R176). -/
def execLoopTestEnd (full half quarter : LoopReading) (s : State) : Host.Outcome State Fault Refusal :=
  .next (match s.test.running with
    | some (.loop start sent) =>
      if s.reached (start + loopMs) then
        endLoop (intact .full sent full) (intact .half sent half) (intact .quarter sent quarter) s
      else s
    | _ => s)

/-- The moments of STOPLINE in ms from its start, by how many have been taken; `none` after the eighth (R177). -/
def stoplineMoment (pos : Nat) : Option Nat := [0, 8, 10, 23, 25, 33, 35, 48][pos]?

/-- The step a moment judges, with whether STOPA-RB and STOPB-RB must show stop (R177). -/
def stoplineJudged : Nat → Option (Nat × Bool × Bool)
  | 0 => some (1, true, true)
  | 1 => some (2, false, true)
  | 3 => some (3, true, true)
  | 5 => some (4, true, false)
  | 7 => some (5, true, true)
  | _ => none

/-- The first failed step after a moment with the readbacks found there (R177). -/
def stoplineFailed (pos : Nat) (failed : Option Nat) (a b : Bool) : Option Nat :=
  match failed, stoplineJudged pos with
  | some n, _ => some n
  | none, some (step, wantA, wantB) => if a = wantA ∧ b = wantB then none else some step
  | none, none => none

/-- The drive of the lines from a moment on (R177). -/
def stoplineDrive (pos : Nat) (u : StopUnit) : StopUnit :=
  match pos with
  | 0 => { u with stopA := .testLevel, stopB := .asserted }
  | 4 => { u with stopA := .asserted, stopB := .testLevel }
  | 2 | 6 => { u with stopA := .asserted, stopB := .asserted }
  | _ => u

/-- The next moment of STOPLINE has come (R177). -/
def stoplineStepDue (s : State) : Bool :=
  match s.test.running with
  | some (.stopline start pos _) => (match stoplineMoment pos with | some t => s.reached (start + t) | none => false)
  | _ => false

/-- STOPLINE_STEP: the readbacks are judged or the drive of the lines changes (R177). -/
def execStoplineStep (aStop bStop : Bool) (s : State) : Host.Outcome State Fault Refusal :=
  .next (match s.test.running with
    | some (.stopline start pos failed) =>
      if stoplineStepDue s then
        (s.setStop (stoplineDrive pos s.stop)).setRunning
          (some (.stopline start (pos + 1) (stoplineFailed pos failed aStop bStop)))
      else s
    | _ => s)

/-- STOPLINE is to end (R177). -/
def stoplineEndDue (s : State) : Bool :=
  match s.test.running with
  | some (.stopline start pos _) => decide (8 ≤ pos) && s.reached (start + stoplineMs)
  | _ => false

/-- STOPLINE ends: STOPFAIL and TEST-FAIL follow the result, a PASS opens the gate (R174, R177, R117, R179). -/
def endStopline (failed : Option Nat) (s : State) : State :=
  let passed := failed.isNone
  let s := s.setTest { s.test with running := none, stopline := resultOf passed, gate := s.test.gate || passed }
  let s := followTest .stopFail passed s
  let s := if passed then removeCause causeTestFail noSubject s else addCause causeTestFail noSubject s
  raiseTestDone 2 (BitVec.ofNat 8 (failed.getD 0)) 0 passed s

/-- STOPLINE_TEST_END (R177). -/
def execStoplineTestEnd (s : State) : Host.Outcome State Fault Refusal :=
  .next (match s.test.running with
    | some (.stopline _ _ failed) => if stoplineEndDue s then endStopline failed s else s
    | _ => s)

/-- TIMER is to end (R178). -/
def timerDue (s : State) : Bool :=
  match s.test.running with
  | some (.timer start _) => s.reached (start + timerMs)
  | _ => false

/-- TIMER ends: PASS within 1 % of 10000 units (R178, R179). Its report shows the low 16 bits of the measure, the model's
choice for a greater one (log 32). -/
def endTimer (measure : Nat) (s : State) : State :=
  let passed := decide (9900 ≤ measure) && decide (measure ≤ 10100)
  let s := s.setTest { s.test with running := none, timer := resultOf passed }
  raiseTestDone 3 (BitVec.ofNat 8 (measure / 256)) (BitVec.ofNat 8 measure) passed s

/-- TIMER_TEST_END (R178). -/
def execTimerTestEnd (s : State) : Host.Outcome State Fault Refusal :=
  .next (match s.test.running with
    | some (.timer _ noted) => if timerDue s then endTimer (s.supTimer - noted) s else s
    | _ => s)

/-! ## SRQ (R187) -/

/-- REPORT_TIMEOUT: SRQ is judged when the oldest record has reached the timeout (R187). -/
def execReportTimeout (s : State) : Host.Outcome State Fault Refusal := .next (judgeSrq s)

end Sys2Proof.Machine
end

