-- ==== Sys2Proof/Machine/PortEvents.lean ====
section
/-! DEFINITION. The meanings of the traction port's events: the strobe, TACK, the limits, the sampled inputs (08). -/

namespace Sys2Proof.Machine

/-- The port state replaced. -/
def State.setPortState (p : PortState) (s : State) : State := s.setPort { s.port with st := p }

/-- TSTB is to be asserted (R133). -/
def strobeStartDue (s : State) : Bool :=
  match s.port.st with
  | .setup t => s.reached t
  | _ => false

/-- STROBE_START: TSTB active, the acknowledge limit 400 ms after this moment (R133). -/
def execStrobeStart (s : State) : Host.Outcome State Fault Refusal :=
  .next (if strobeStartDue s then
      s.setPortState (.strobe (s.now + strobeMs) (s.now + handshakeMs) false false)
    else s)

/-- The 10 ms of TSTB are over (R133). -/
def strobeEndDue (s : State) : Bool :=
  match s.port.st with
  | .strobe endAt _ _ _ => s.reached endAt
  | _ => false

/-- The strobe ends by what has been noted: nothing, an acknowledge, an acknowledge and its fall (R134). -/
def endStrobe (limit : Nat) (acked fell : Bool) (s : State) : State :=
  if acked then if fell then completePresentation s else s.setPortState (.waitRelease limit)
  else s.setPortState (.waitAck limit)

/-- STROBE_END (R134). -/
def execStrobeEnd (s : State) : Host.Outcome State Fault Refusal :=
  .next (match s.port.st with
    | .strobe _ limit acked fell => if strobeEndDue s then endStrobe limit acked fell s else s
    | _ => s)

/-- An acknowledge in STROBE is noted, in WAIT-ACK it begins the release limit; elsewhere a rise is none (R133, R134). -/
def acknowledge (s : State) : State :=
  match s.port.st with
  | .strobe endAt _ false fell => s.setPortState (.strobe endAt (s.now + handshakeMs) true fell)
  | .waitAck _ => s.setPortState (.waitRelease (s.now + handshakeMs))
  | _ => s

/-- TACK_RISE (R133, R134). -/
def execTackRise (s : State) : Host.Outcome State Fault Refusal :=
  .next (if s.pins.tack then s else acknowledge (s.setPins { s.pins with tack := true }))

/-- A fall of TACK: noted in STROBE after an acknowledge, completing in WAIT-RELEASE, letting a FAILED port recover
(R134, R136). -/
def released (s : State) : State :=
  match s.port.st with
  | .strobe endAt limit true _ => s.setPortState (.strobe endAt limit true true)
  | .waitRelease _ => completePresentation s
  | .failed => recoverPort s
  | _ => s

/-- TACK_FALL (R134, R136). -/
def execTackFall (s : State) : Host.Outcome State Fault Refusal :=
  .next (if s.pins.tack then released (s.setPins { s.pins with tack := false }) else s)

/-- The acknowledge limit has run out in WAIT-ACK (R134). -/
def ackLimitDue (s : State) : Bool :=
  match s.port.st with
  | .waitAck t => s.reached t
  | _ => false

/-- ACK_LIMIT_EXPIRY (R134, R135). -/
def execAckLimitExpiry (s : State) : Host.Outcome State Fault Refusal := .next (if ackLimitDue s then failPort s else s)

/-- The release limit has run out in WAIT-RELEASE (R134). -/
def releaseLimitDue (s : State) : Bool :=
  match s.port.st with
  | .waitRelease t => s.reached t
  | _ => false

/-- RELEASE_LIMIT_EXPIRY (R134, R135). -/
def execReleaseLimitExpiry (s : State) : Host.Outcome State Fault Refusal :=
  .next (if releaseLimitDue s then failPort s else s)

/-- A level is sampled once held for this many ms (R137). -/
def sampleMs : Nat := 20

/-- An input takes its sampled value; a new TSTILL is judged for the disagreement input (R137, R138). -/
def takeSample (sample : InputSample) (s : State) : State :=
  match sample with
  | .still b => judgeDisagree (s.setPort { s.port with still := some b })
  | .ready b => s.setPort { s.port with ready := some b }
  | .speed b => s.setPort { s.port with speed := some b }

/-- INPUT_SAMPLED: no level has been held for 20 ms before 20 ms of the station clock (R137). That a sample of another level
less than 20 ms after the last one of its input is taken is the model's choice (log 36). -/
def execInputSampled (sample : InputSample) (s : State) : Host.Outcome State Fault Refusal :=
  .next (if s.reached sampleMs then takeSample sample s else s)

end Sys2Proof.Machine
end

