-- ==== Sys2Proof/Machine/Clock.lean ====
section
/-! DEFINITION. Time: what one millisecond of the station clock changes, and the event that comes of itself at this moment.
The station's own events are commands of the table; when no command waits, the one that is due is run as that command, and
when none is due the clock advances (log 2). -/

namespace Sys2Proof.Machine

/-! ## One millisecond -/

/-- The ordinary preamble of the frame on air is over (R28). -/
def preambleOver (a : OnAir) (now : Nat) : Bool :=
  a.phase == .preamble && decide (a.keyedAt + leadMs + bitsMs a.rate 16 ≤ now)

/-- The frame on air after a tick: its preamble may end, for which the table has no event (R28, log 27). -/
def airTick (a : OnAir) (now : Nat) : OnAir := if preambleOver a now then { a with phase := .frame } else a

/-- One millisecond passes: the station clock and the supervision timer count (R178, log 1, log 11). -/
def tick (s : State) : State :=
  let t := (s.setNow (s.now + 1)).setSupTimer (s.supTimer + Config.supTimerAdvance s.resets s.now)
  t.setChan { t.chan with onAir := t.chan.onAir.map (fun a => airTick a t.now) }

/-! ## What is due -/

/-- An answer is ready at the latest 1 ms after its command (R180, log 14). -/
def answerDue (s : State) : Bool :=
  match s.host.exchange with
  | .preparing t _ => s.reached (t + 1)
  | _ => false

/-- SRQ is no longer as R187 gives it. -/
def reportDue (s : State) : Bool := srqWanted s != s.host.srq

/-- A command when it is due. -/
def dueIf (b : Bool) (c : Instr) : Option Instr := if b then some c else none

/-- The first of some commands that is due. -/
def firstDue : List (Option Instr) → Option Instr
  | [] => none
  | some c :: _ => some c
  | none :: rest => firstDue rest

/-- The events of the reset, the modem and the channel access unit. -/
def airDue (s : State) : List (Option Instr) :=
  [dueIf (initEndDue s) .initEnd, dueIf (lockDue s) .rateLock, dueIf (leadEndDue s) .leadEnd,
   dueIf (wakePreambleEndDue s) .wakePreambleEnd, dueIf (frameSentDue s) .frameSent,
   dueIf (entryEligibleDue s) .entryEligible, dueIf (jamDue s) .jamDetected]

/-- The events of one slot of the bond table. -/
def slotDue (s : State) (i : Fin 4) : List (Option Instr) :=
  [dueIf (waitDue .bind i s) (.bindWaitExpiry i), dueIf (waitDue .answer i s) (.answerWaitExpiry i),
   dueIf (waitDue .retry i s) (.retryWaitExpiry i), dueIf (standbyAgeDue i s) (.standbyAgeOut i),
   dueIf (checkIsDue i s) (.checkDue i), dueIf (periodDue i s) (.periodClose i), dueIf (abandonDue i s) (.abandon i),
   dueIf (offerExpiryDue i s) (.offerExpiry i)]

/-- The events of the traction port. -/
def portDue (s : State) : List (Option Instr) :=
  [dueIf (strobeStartDue s) .strobeStart, dueIf (strobeEndDue s) .strobeEnd, dueIf (ackLimitDue s) .ackLimitExpiry,
   dueIf (releaseLimitDue s) .releaseLimitExpiry]

/-- The ages of the peer table and of the halt memory. -/
def agesDue (s : State) : List (Option Instr) :=
  s.peers.entries.map (fun p => dueIf (s.agedOut p) (.peerAgeOut p.id))
    ++ s.halt.memory.map (fun e => dueIf (pairOver s.now e) (.haltMemoryExpiry e.originator e.number))

/-- The reading of a LOOP test frame that no command carries (log 10). -/
def freeReading (s : State) (n : Nat) : LoopReading :=
  { bitTimes := Config.loopBitTimes s.resets s.now n, samples := Config.loopSamples s.resets s.now n }

/-- The events of the tests, with the readings that no command carries (log 10). -/
def testsDue (s : State) : List (Option Instr) :=
  [dueIf (loopDue s) (.loopTestEnd (freeReading s 0) (freeReading s 1) (freeReading s 2)),
   dueIf (stoplineStepDue s) (.stoplineStep (Config.readbackA s.resets s.now) (Config.readbackB s.resets s.now)),
   dueIf (stoplineEndDue s) .stoplineTestEnd, dueIf (timerDue s) .timerTestEnd]

/-- The other events; keying and the DORMANT notice come after all else of the moment. -/
def lateDue (s : State) : List (Option Instr) :=
  [dueIf (disagreeDue s) .disagreeTimeout, dueIf (conflictDue s) .conflictDeadline, dueIf (probeDue s) .probeTimeout,
   dueIf (offerRepeatDue s) .offerRepeat, dueIf (transferLapseDue s) .transferLapse,
   dueIf (boundaryDue s) (.audioFrameBoundary (Config.codecIn s.resets s.now)), dueIf (floorDue s) .floorTimeout,
   dueIf (windowCloseDue s) .sniffWindowClose, dueIf (windowOpenDue s) .sniffWindowOpen,
   dueIf (answerDue s) .answerReady, dueIf (reportDue s) .reportTimeout, dueIf (keyDue s) .keyFrame,
   dueIf s.dormancyDue .dormancyDelayExpiry]

/-- The event that comes of itself at this moment, if one does; of several, the first in this order (log 2). -/
def nextEvent (s : State) : Option Instr :=
  firstDue (airDue s ++ portDue s ++ testsDue s ++ allSlots.flatMap (slotDue s) ++ agesDue s ++ lateDue s)

end Sys2Proof.Machine
end

