-- ==== Sys2Proof/Machine/Lines.lean ====
section
/-! DEFINITION. The output lines as functions of the state, where no block keeps them (00, Signal Summary): KEY, the traction
port's lines, the stop lines, ALARM, SRQ, HDO, TXB, and the audio port's ACK0, AFS and ADO. -/

namespace Sys2Proof.Machine

/-- KEY is asserted while a frame is on air (R2, R28). -/
def State.key (s : State) : Bool := s.chan.onAir.isSome

/-- TSTB is active in STROBE (R133). -/
def State.tstb (s : State) : Bool :=
  match s.port.st with
  | .strobe _ _ _ _ => true
  | _ => false

/-- TCMD9..TCMD0 drive the last presented record (R130). -/
def State.tcmd (s : State) : BitVec 10 := recordBits s.port.last

/-- A stop line carries stop to the brake equipment: asserted, or at its test level (R113, R177). -/
def carriesStop : LineDrive → Bool
  | .released => false
  | .asserted | .testLevel => true

/-- ALARM (R170). -/
def State.alarmLine (s : State) : Bool := s.fault.alarm

/-- SRQ (R187). -/
def State.srqLine (s : State) : Bool := s.host.srq

/-- The n-th byte out on HDO in the present phase: FFh in RECEIVING and PREPARING, the answer's bytes and FFh after the
last in ANSWERING (R180). -/
def State.hdo (s : State) (n : Nat) : Byte :=
  match s.host.exchange with
  | .answering a _ => (answerBytes a).getD n 0xFF
  | _ => 0xFF

/-- The level of HDO in a clock of HCK, counted from the first of the present phase: eight clocks a byte, most significant
bit first (R180). -/
def State.hdoBit (s : State) (clock : Nat) : Bool := (s.hdo (clock / 8)).getMsbD (clock % 8)

/-! ## TXB (R1, R2, R30) -/

/-- The two tones of the baseband on TXB (R1). -/
inductive Tone where
  | one | zero
deriving DecidableEq, Repr

/-- The tone of a bit (R1). -/
def toneOf (bit : Bool) : Tone := if bit then .one else .zero

/-- Units of 1/24 ms in a millisecond. -/
def unitsPerMs : Nat := 24

/-- The tone of a frame on air so many units of 1/24 ms after KEY was asserted: the one tone for the 5 ms lead, then each bit
for one bit period of the frame's rate, the wake preamble's among them (R1, R2, R30). `none` after the last check bit. -/
def OnAir.toneAt (a : OnAir) (u : Nat) : Option Tone :=
  if u < leadMs * unitsPerMs then some .one
  else (frameBits a.frame a.rate a.wake)[(u - leadMs * unitsPerMs) / bitUnits a.rate]?.map toneOf

/-- The tone on TXB, so many units of 1/24 ms into the present millisecond; `none` while KEY is released (R1, R2, R38). -/
def State.txb (s : State) (u : Nat) : Option Tone :=
  s.chan.onAir.bind fun a => a.toneAt ((s.now - a.keyedAt) * unitsPerMs + u)

/-- The bit in the loop of a running LOOP test, so many units of 1/24 ms into the present millisecond (R176). -/
def State.loopBit (s : State) (u : Nat) : Option Bool :=
  match s.test.running with
  | some (.loop start sent) => loopBitAt sent ((s.now - start) * unitsPerMs + u)
  | _ => none

/-! ## The audio port (R150) -/

/-- The audio port runs: from the end of INIT to the next reset (R150). -/
def State.audioRuns (s : State) : Bool := s.floor.boundary.isSome

/-- The bit clocks of a 20 ms frame at 19200 Hz, and those that carry a codec frame (R150). -/
def bitClocks : Nat := 384
def codecClocks : Nat := 48

/-- ACK0 in a half of a bit clock, counted from the last frame boundary: one level and the other in turn while the port runs,
low otherwise (R150). Which half of a clock is high is the model's choice (log 33). -/
def State.ack0 (s : State) (half : Nat) : Bool := s.audioRuns && half % 2 == 0

/-- AFS in a bit clock of a frame: active for the first, and low while the port does not run (R150). -/
def State.afs (s : State) (clock : Nat) : Bool := s.audioRuns && clock % bitClocks == 0

/-- The codec frame that ADO sends in the running 20 ms; low before the first boundary (R150). -/
def State.adoFrame (s : State) : CodecFrame := s.floor.ado.getD 0

/-- ADO in a bit clock of the running frame: the 48 bits of the codec frame, most significant bit of byte 0 first, then low;
low while the port does not run (R150). -/
def State.ado (s : State) (clock : Nat) : Bool :=
  s.audioRuns && decide (clock < codecClocks) && s.adoFrame.getLsbD (codecClocks - 1 - clock)

end Sys2Proof.Machine
end

