-- ==== Sys2Proof/Machine/Dispatch.lean ====
section
/-! DEFINITION. The meaning of each command: one arm per constructor of Instr. -/

namespace Sys2Proof.Machine

def exec (i : Instr) (s : State) : Host.Outcome State Fault Refusal :=
  match i with
  | .resetn => Sys2Proof.Machine.execResetn s
  | .initEnd => Sys2Proof.Machine.execInitEnd s
  | .hselActive => Sys2Proof.Machine.execHselActive s
  | .hselInactive => Sys2Proof.Machine.execHselInactive s
  | .answerReady => Sys2Proof.Machine.execAnswerReady s
  | .fetchRecordRemoved => Sys2Proof.Machine.execFetchRecordRemoved s
  | .unknownCommand code params => Sys2Proof.Machine.execUnknownCommand code params s
  | .readId => Sys2Proof.Machine.execReadId s
  | .configure params => Sys2Proof.Machine.execConfigure params s
  | .start => Sys2Proof.Machine.execStart s
  | .reset => Sys2Proof.Machine.execReset s
  | .bind traction => Sys2Proof.Machine.execBind traction s
  | .unbind traction => Sys2Proof.Machine.execUnbind traction s
  | .take traction => Sys2Proof.Machine.execTake traction s
  | .release traction => Sys2Proof.Machine.execRelease traction s
  | .move traction record => Sys2Proof.Machine.execMove traction record s
  | .resume traction => Sys2Proof.Machine.execResume traction s
  | .handover traction target => Sys2Proof.Machine.execHandover traction target s
  | .accept traction => Sys2Proof.Machine.execAccept traction s
  | .decline traction => Sys2Proof.Machine.execDecline traction s
  | .halt scope => Sys2Proof.Machine.execHalt scope s
  | .localStop => Sys2Proof.Machine.execLocalStop s
  | .localClear => Sys2Proof.Machine.execLocalClear s
  | .talk scope => Sys2Proof.Machine.execTalk scope s
  | .talkEnd => Sys2Proof.Machine.execTalkEnd s
  | .note mode dest text => Sys2Proof.Machine.execNote mode dest text s
  | .probe target pattern => Sys2Proof.Machine.execProbe target pattern s
  | .test code => Sys2Proof.Machine.execTest code s
  | .clearTest => Sys2Proof.Machine.execClearTest s
  | .clearHeld => Sys2Proof.Machine.execClearHeld s
  | .readState => Sys2Proof.Machine.execReadState s
  | .readPeer index => Sys2Proof.Machine.execReadPeer index s
  | .readBond slot => Sys2Proof.Machine.execReadBond slot s
  | .fetch => Sys2Proof.Machine.execFetch s
  | .cdetActive => Sys2Proof.Machine.execCdetActive s
  | .cdetInactive => Sys2Proof.Machine.execCdetInactive s
  | .rateLock => Sys2Proof.Machine.execRateLock s
  | .huntFailed cause => Sys2Proof.Machine.execHuntFailed cause s
  | .syncWordFound samples => Sys2Proof.Machine.execSyncWordFound samples s
  | .failedFrame cause => Sys2Proof.Machine.execFailedFrame cause s
  | .malformedFrame bytes => Sys2Proof.Machine.execMalformedFrame bytes s
  | .haltFrame dev header originator number copy relay => Sys2Proof.Machine.execHaltFrame dev header originator number copy relay s
  | .moveFrame dev header record => Sys2Proof.Machine.execMoveFrame dev header record s
  | .checkFrame dev header number units => Sys2Proof.Machine.execCheckFrame dev header number units s
  | .statusFrame dev header fields => Sys2Proof.Machine.execStatusFrame dev header fields s
  | .answerFrame dev header kind seq verdict reason => Sys2Proof.Machine.execAnswerFrame dev header kind seq verdict reason s
  | .resumeFrame dev header => Sys2Proof.Machine.execResumeFrame dev header s
  | .bindAskFrame dev header => Sys2Proof.Machine.execBindAskFrame dev header s
  | .bindReplyFrame dev header verdict reason rate standstill controlled => Sys2Proof.Machine.execBindReplyFrame dev header verdict reason rate standstill controlled s
  | .takeFrame dev header units byTransfer => Sys2Proof.Machine.execTakeFrame dev header units byTransfer s
  | .releaseFrame dev header unbind => Sys2Proof.Machine.execReleaseFrame dev header unbind s
  | .handoverFrame dev header target => Sys2Proof.Machine.execHandoverFrame dev header target s
  | .offerFrame dev header controller seconds => Sys2Proof.Machine.execOfferFrame dev header controller seconds s
  | .settledFrame dev header outcome => Sys2Proof.Machine.execSettledFrame dev header outcome s
  | .claimFrame dev header scope => Sys2Proof.Machine.execClaimFrame dev header scope s
  | .clearFrame dev header sent => Sys2Proof.Machine.execClearFrame dev header sent s
  | .voiceFrame dev header number block => Sys2Proof.Machine.execVoiceFrame dev header number block s
  | .noteFrame dev header text => Sys2Proof.Machine.execNoteFrame dev header text s
  | .probeFrame dev header pattern => Sys2Proof.Machine.execProbeFrame dev header pattern s
  | .echoFrame dev header quality rate pattern => Sys2Proof.Machine.execEchoFrame dev header quality rate pattern s
  | .presentFrame dev header => Sys2Proof.Machine.execPresentFrame dev header s
  | .dormantFrame dev header => Sys2Proof.Machine.execDormantFrame dev header s
  | .keyFrame => Sys2Proof.Machine.execKeyFrame s
  | .leadEnd => Sys2Proof.Machine.execLeadEnd s
  | .wakePreambleEnd => Sys2Proof.Machine.execWakePreambleEnd s
  | .frameSent => Sys2Proof.Machine.execFrameSent s
  | .entryEligible => Sys2Proof.Machine.execEntryEligible s
  | .jamDetected => Sys2Proof.Machine.execJamDetected s
  | .disagreeTimeout => Sys2Proof.Machine.execDisagreeTimeout s
  | .peerAgeOut peer => Sys2Proof.Machine.execPeerAgeOut peer s
  | .conflictDeadline => Sys2Proof.Machine.execConflictDeadline s
  | .probeTimeout => Sys2Proof.Machine.execProbeTimeout s
  | .bindWaitExpiry slot => Sys2Proof.Machine.execBindWaitExpiry slot s
  | .standbyAgeOut slot => Sys2Proof.Machine.execStandbyAgeOut slot s
  | .answerWaitExpiry slot => Sys2Proof.Machine.execAnswerWaitExpiry slot s
  | .retryWaitExpiry slot => Sys2Proof.Machine.execRetryWaitExpiry slot s
  | .checkDue slot => Sys2Proof.Machine.execCheckDue slot s
  | .periodClose slot => Sys2Proof.Machine.execPeriodClose slot s
  | .abandon slot => Sys2Proof.Machine.execAbandon slot s
  | .offerRepeat => Sys2Proof.Machine.execOfferRepeat s
  | .transferLapse => Sys2Proof.Machine.execTransferLapse s
  | .offerExpiry slot => Sys2Proof.Machine.execOfferExpiry slot s
  | .haltMemoryExpiry originator number => Sys2Proof.Machine.execHaltMemoryExpiry originator number s
  | .strobeStart => Sys2Proof.Machine.execStrobeStart s
  | .strobeEnd => Sys2Proof.Machine.execStrobeEnd s
  | .tackRise => Sys2Proof.Machine.execTackRise s
  | .tackFall => Sys2Proof.Machine.execTackFall s
  | .ackLimitExpiry => Sys2Proof.Machine.execAckLimitExpiry s
  | .releaseLimitExpiry => Sys2Proof.Machine.execReleaseLimitExpiry s
  | .inputSampled sample => Sys2Proof.Machine.execInputSampled sample s
  | .audioFrameBoundary codec => Sys2Proof.Machine.execAudioFrameBoundary codec s
  | .floorTimeout => Sys2Proof.Machine.execFloorTimeout s
  | .dormancyDelayExpiry => Sys2Proof.Machine.execDormancyDelayExpiry s
  | .sniffWindowOpen => Sys2Proof.Machine.execSniffWindowOpen s
  | .sniffWindowClose => Sys2Proof.Machine.execSniffWindowClose s
  | .loopTestEnd full half quarter => Sys2Proof.Machine.execLoopTestEnd full half quarter s
  | .stoplineStep aStop bStop => Sys2Proof.Machine.execStoplineStep aStop bStop s
  | .stoplineTestEnd => Sys2Proof.Machine.execStoplineTestEnd s
  | .timerTestEnd => Sys2Proof.Machine.execTimerTestEnd s
  | .reportTimeout => Sys2Proof.Machine.execReportTimeout s
  | .preambleBitMeasured us => Sys2Proof.Machine.execPreambleBitMeasured us s

end Sys2Proof.Machine
end

