-- ==== Sys2Proof/Machine/Step.lean ====
section
/-! DEFINITION. One step: the command at the front of the queue, or the station's own event or tick when none waits. -/

namespace Sys2Proof.Machine

/-- The queue of waiting commands replaced. -/
def State.setPending (q : List Instr) (s : State) : State := { s with pending := q }

/-- A step on an empty queue: the event that is due, or one millisecond of the clock (DESIGN CHOICE, log 2). -/
def idle (s : State) : Host.Outcome State Fault Refusal :=
  match nextEvent s with
  | some c => exec c s
  | none => .next (tick s)

/-- One step (log 2). -/
def step (s : State) : Host.Outcome State Fault Refusal :=
  match s.pending with
  | c :: rest => exec c (s.setPending rest)
  | [] => idle s

/-- The state with the command that a word spells at the front of its queue; no row of the table gives bits, so no word
spells one (log 26). -/
def State.withFetchWord (s : State) (nbits w : Nat) : State :=
  match decodeTableWord nbits w with
  | some c => s.setPending (c :: s.pending)
  | none => s

end Sys2Proof.Machine
end

