-- ==== Sys2Proof/Laws/State.lean ====
section
/-! SUPPORT. Replacing one block of the state: the block reads as the new value and every other field as before. -/

namespace Sys2Proof.Machine

@[simp] theorem State.setNow_pending (x : Nat) (s : State) : (s.setNow x).pending = s.pending := rfl
@[simp] theorem State.setNow_unitId (x : Nat) (s : State) : (s.setNow x).unitId = s.unitId := rfl
@[simp] theorem State.setNow_resets (x : Nat) (s : State) : (s.setNow x).resets = s.resets := rfl
@[simp] theorem State.setNow_now (x : Nat) (s : State) : (s.setNow x).now = x := rfl
@[simp] theorem State.setNow_draws (x : Nat) (s : State) : (s.setNow x).draws = s.draws := rfl
@[simp] theorem State.setNow_supTimer (x : Nat) (s : State) : (s.setNow x).supTimer = s.supTimer := rfl
@[simp] theorem State.setNow_pins (x : Nat) (s : State) : (s.setNow x).pins = s.pins := rfl
@[simp] theorem State.setNow_modem (x : Nat) (s : State) : (s.setNow x).modem = s.modem := rfl
@[simp] theorem State.setNow_chan (x : Nat) (s : State) : (s.setNow x).chan = s.chan := rfl
@[simp] theorem State.setNow_peers (x : Nat) (s : State) : (s.setNow x).peers = s.peers := rfl
@[simp] theorem State.setNow_bond (x : Nat) (s : State) : (s.setNow x).bond = s.bond := rfl
@[simp] theorem State.setNow_halt (x : Nat) (s : State) : (s.setNow x).halt = s.halt := rfl
@[simp] theorem State.setNow_stop (x : Nat) (s : State) : (s.setNow x).stop = s.stop := rfl
@[simp] theorem State.setNow_port (x : Nat) (s : State) : (s.setNow x).port = s.port := rfl
@[simp] theorem State.setNow_floor (x : Nat) (s : State) : (s.setNow x).floor = s.floor := rfl
@[simp] theorem State.setNow_life (x : Nat) (s : State) : (s.setNow x).life = s.life := rfl
@[simp] theorem State.setNow_fault (x : Nat) (s : State) : (s.setNow x).fault = s.fault := rfl
@[simp] theorem State.setNow_test (x : Nat) (s : State) : (s.setNow x).test = s.test := rfl
@[simp] theorem State.setNow_host (x : Nat) (s : State) : (s.setNow x).host = s.host := rfl
@[simp] theorem State.setNow_cfg (x : Nat) (s : State) : (s.setNow x).cfg = s.cfg := rfl
@[simp] theorem State.setNow_role (x : Nat) (s : State) : (s.setNow x).role = s.role := rfl
@[simp] theorem State.setNow_isTraction (x : Nat) (s : State) : (s.setNow x).isTraction = s.isTraction := rfl
@[simp] theorem State.setNow_isOperator (x : Nat) (s : State) : (s.setNow x).isOperator = s.isOperator := rfl
@[simp] theorem State.setNow_started (x : Nat) (s : State) : (s.setNow x).started = s.started := rfl

@[simp] theorem State.setDraws_pending (x : Nat) (s : State) : (s.setDraws x).pending = s.pending := rfl
@[simp] theorem State.setDraws_unitId (x : Nat) (s : State) : (s.setDraws x).unitId = s.unitId := rfl
@[simp] theorem State.setDraws_resets (x : Nat) (s : State) : (s.setDraws x).resets = s.resets := rfl
@[simp] theorem State.setDraws_now (x : Nat) (s : State) : (s.setDraws x).now = s.now := rfl
@[simp] theorem State.setDraws_draws (x : Nat) (s : State) : (s.setDraws x).draws = x := rfl
@[simp] theorem State.setDraws_supTimer (x : Nat) (s : State) : (s.setDraws x).supTimer = s.supTimer := rfl
@[simp] theorem State.setDraws_pins (x : Nat) (s : State) : (s.setDraws x).pins = s.pins := rfl
@[simp] theorem State.setDraws_modem (x : Nat) (s : State) : (s.setDraws x).modem = s.modem := rfl
@[simp] theorem State.setDraws_chan (x : Nat) (s : State) : (s.setDraws x).chan = s.chan := rfl
@[simp] theorem State.setDraws_peers (x : Nat) (s : State) : (s.setDraws x).peers = s.peers := rfl
@[simp] theorem State.setDraws_bond (x : Nat) (s : State) : (s.setDraws x).bond = s.bond := rfl
@[simp] theorem State.setDraws_halt (x : Nat) (s : State) : (s.setDraws x).halt = s.halt := rfl
@[simp] theorem State.setDraws_stop (x : Nat) (s : State) : (s.setDraws x).stop = s.stop := rfl
@[simp] theorem State.setDraws_port (x : Nat) (s : State) : (s.setDraws x).port = s.port := rfl
@[simp] theorem State.setDraws_floor (x : Nat) (s : State) : (s.setDraws x).floor = s.floor := rfl
@[simp] theorem State.setDraws_life (x : Nat) (s : State) : (s.setDraws x).life = s.life := rfl
@[simp] theorem State.setDraws_fault (x : Nat) (s : State) : (s.setDraws x).fault = s.fault := rfl
@[simp] theorem State.setDraws_test (x : Nat) (s : State) : (s.setDraws x).test = s.test := rfl
@[simp] theorem State.setDraws_host (x : Nat) (s : State) : (s.setDraws x).host = s.host := rfl
@[simp] theorem State.setDraws_cfg (x : Nat) (s : State) : (s.setDraws x).cfg = s.cfg := rfl
@[simp] theorem State.setDraws_role (x : Nat) (s : State) : (s.setDraws x).role = s.role := rfl
@[simp] theorem State.setDraws_isTraction (x : Nat) (s : State) : (s.setDraws x).isTraction = s.isTraction := rfl
@[simp] theorem State.setDraws_isOperator (x : Nat) (s : State) : (s.setDraws x).isOperator = s.isOperator := rfl
@[simp] theorem State.setDraws_started (x : Nat) (s : State) : (s.setDraws x).started = s.started := rfl

@[simp] theorem State.setSupTimer_pending (x : Nat) (s : State) : (s.setSupTimer x).pending = s.pending := rfl
@[simp] theorem State.setSupTimer_unitId (x : Nat) (s : State) : (s.setSupTimer x).unitId = s.unitId := rfl
@[simp] theorem State.setSupTimer_resets (x : Nat) (s : State) : (s.setSupTimer x).resets = s.resets := rfl
@[simp] theorem State.setSupTimer_now (x : Nat) (s : State) : (s.setSupTimer x).now = s.now := rfl
@[simp] theorem State.setSupTimer_draws (x : Nat) (s : State) : (s.setSupTimer x).draws = s.draws := rfl
@[simp] theorem State.setSupTimer_supTimer (x : Nat) (s : State) : (s.setSupTimer x).supTimer = x := rfl
@[simp] theorem State.setSupTimer_pins (x : Nat) (s : State) : (s.setSupTimer x).pins = s.pins := rfl
@[simp] theorem State.setSupTimer_modem (x : Nat) (s : State) : (s.setSupTimer x).modem = s.modem := rfl
@[simp] theorem State.setSupTimer_chan (x : Nat) (s : State) : (s.setSupTimer x).chan = s.chan := rfl
@[simp] theorem State.setSupTimer_peers (x : Nat) (s : State) : (s.setSupTimer x).peers = s.peers := rfl
@[simp] theorem State.setSupTimer_bond (x : Nat) (s : State) : (s.setSupTimer x).bond = s.bond := rfl
@[simp] theorem State.setSupTimer_halt (x : Nat) (s : State) : (s.setSupTimer x).halt = s.halt := rfl
@[simp] theorem State.setSupTimer_stop (x : Nat) (s : State) : (s.setSupTimer x).stop = s.stop := rfl
@[simp] theorem State.setSupTimer_port (x : Nat) (s : State) : (s.setSupTimer x).port = s.port := rfl
@[simp] theorem State.setSupTimer_floor (x : Nat) (s : State) : (s.setSupTimer x).floor = s.floor := rfl
@[simp] theorem State.setSupTimer_life (x : Nat) (s : State) : (s.setSupTimer x).life = s.life := rfl
@[simp] theorem State.setSupTimer_fault (x : Nat) (s : State) : (s.setSupTimer x).fault = s.fault := rfl
@[simp] theorem State.setSupTimer_test (x : Nat) (s : State) : (s.setSupTimer x).test = s.test := rfl
@[simp] theorem State.setSupTimer_host (x : Nat) (s : State) : (s.setSupTimer x).host = s.host := rfl
@[simp] theorem State.setSupTimer_cfg (x : Nat) (s : State) : (s.setSupTimer x).cfg = s.cfg := rfl
@[simp] theorem State.setSupTimer_role (x : Nat) (s : State) : (s.setSupTimer x).role = s.role := rfl
@[simp] theorem State.setSupTimer_isTraction (x : Nat) (s : State) : (s.setSupTimer x).isTraction = s.isTraction := rfl
@[simp] theorem State.setSupTimer_isOperator (x : Nat) (s : State) : (s.setSupTimer x).isOperator = s.isOperator := rfl
@[simp] theorem State.setSupTimer_started (x : Nat) (s : State) : (s.setSupTimer x).started = s.started := rfl

@[simp] theorem State.setPins_pending (x : Pins) (s : State) : (s.setPins x).pending = s.pending := rfl
@[simp] theorem State.setPins_unitId (x : Pins) (s : State) : (s.setPins x).unitId = s.unitId := rfl
@[simp] theorem State.setPins_resets (x : Pins) (s : State) : (s.setPins x).resets = s.resets := rfl
@[simp] theorem State.setPins_now (x : Pins) (s : State) : (s.setPins x).now = s.now := rfl
@[simp] theorem State.setPins_draws (x : Pins) (s : State) : (s.setPins x).draws = s.draws := rfl
@[simp] theorem State.setPins_supTimer (x : Pins) (s : State) : (s.setPins x).supTimer = s.supTimer := rfl
@[simp] theorem State.setPins_pins (x : Pins) (s : State) : (s.setPins x).pins = x := rfl
@[simp] theorem State.setPins_modem (x : Pins) (s : State) : (s.setPins x).modem = s.modem := rfl
@[simp] theorem State.setPins_chan (x : Pins) (s : State) : (s.setPins x).chan = s.chan := rfl
@[simp] theorem State.setPins_peers (x : Pins) (s : State) : (s.setPins x).peers = s.peers := rfl
@[simp] theorem State.setPins_bond (x : Pins) (s : State) : (s.setPins x).bond = s.bond := rfl
@[simp] theorem State.setPins_halt (x : Pins) (s : State) : (s.setPins x).halt = s.halt := rfl
@[simp] theorem State.setPins_stop (x : Pins) (s : State) : (s.setPins x).stop = s.stop := rfl
@[simp] theorem State.setPins_port (x : Pins) (s : State) : (s.setPins x).port = s.port := rfl
@[simp] theorem State.setPins_floor (x : Pins) (s : State) : (s.setPins x).floor = s.floor := rfl
@[simp] theorem State.setPins_life (x : Pins) (s : State) : (s.setPins x).life = s.life := rfl
@[simp] theorem State.setPins_fault (x : Pins) (s : State) : (s.setPins x).fault = s.fault := rfl
@[simp] theorem State.setPins_test (x : Pins) (s : State) : (s.setPins x).test = s.test := rfl
@[simp] theorem State.setPins_host (x : Pins) (s : State) : (s.setPins x).host = s.host := rfl
@[simp] theorem State.setPins_cfg (x : Pins) (s : State) : (s.setPins x).cfg = s.cfg := rfl
@[simp] theorem State.setPins_role (x : Pins) (s : State) : (s.setPins x).role = s.role := rfl
@[simp] theorem State.setPins_isTraction (x : Pins) (s : State) : (s.setPins x).isTraction = s.isTraction := rfl
@[simp] theorem State.setPins_isOperator (x : Pins) (s : State) : (s.setPins x).isOperator = s.isOperator := rfl
@[simp] theorem State.setPins_started (x : Pins) (s : State) : (s.setPins x).started = s.started := rfl

@[simp] theorem State.setModem_pending (x : RxState) (s : State) : (s.setModem x).pending = s.pending := rfl
@[simp] theorem State.setModem_unitId (x : RxState) (s : State) : (s.setModem x).unitId = s.unitId := rfl
@[simp] theorem State.setModem_resets (x : RxState) (s : State) : (s.setModem x).resets = s.resets := rfl
@[simp] theorem State.setModem_now (x : RxState) (s : State) : (s.setModem x).now = s.now := rfl
@[simp] theorem State.setModem_draws (x : RxState) (s : State) : (s.setModem x).draws = s.draws := rfl
@[simp] theorem State.setModem_supTimer (x : RxState) (s : State) : (s.setModem x).supTimer = s.supTimer := rfl
@[simp] theorem State.setModem_pins (x : RxState) (s : State) : (s.setModem x).pins = s.pins := rfl
@[simp] theorem State.setModem_modem (x : RxState) (s : State) : (s.setModem x).modem = x := rfl
@[simp] theorem State.setModem_chan (x : RxState) (s : State) : (s.setModem x).chan = s.chan := rfl
@[simp] theorem State.setModem_peers (x : RxState) (s : State) : (s.setModem x).peers = s.peers := rfl
@[simp] theorem State.setModem_bond (x : RxState) (s : State) : (s.setModem x).bond = s.bond := rfl
@[simp] theorem State.setModem_halt (x : RxState) (s : State) : (s.setModem x).halt = s.halt := rfl
@[simp] theorem State.setModem_stop (x : RxState) (s : State) : (s.setModem x).stop = s.stop := rfl
@[simp] theorem State.setModem_port (x : RxState) (s : State) : (s.setModem x).port = s.port := rfl
@[simp] theorem State.setModem_floor (x : RxState) (s : State) : (s.setModem x).floor = s.floor := rfl
@[simp] theorem State.setModem_life (x : RxState) (s : State) : (s.setModem x).life = s.life := rfl
@[simp] theorem State.setModem_fault (x : RxState) (s : State) : (s.setModem x).fault = s.fault := rfl
@[simp] theorem State.setModem_test (x : RxState) (s : State) : (s.setModem x).test = s.test := rfl
@[simp] theorem State.setModem_host (x : RxState) (s : State) : (s.setModem x).host = s.host := rfl
@[simp] theorem State.setModem_cfg (x : RxState) (s : State) : (s.setModem x).cfg = s.cfg := rfl
@[simp] theorem State.setModem_role (x : RxState) (s : State) : (s.setModem x).role = s.role := rfl
@[simp] theorem State.setModem_isTraction (x : RxState) (s : State) : (s.setModem x).isTraction = s.isTraction := rfl
@[simp] theorem State.setModem_isOperator (x : RxState) (s : State) : (s.setModem x).isOperator = s.isOperator := rfl
@[simp] theorem State.setModem_started (x : RxState) (s : State) : (s.setModem x).started = s.started := rfl

@[simp] theorem State.setChan_pending (x : Chan) (s : State) : (s.setChan x).pending = s.pending := rfl
@[simp] theorem State.setChan_unitId (x : Chan) (s : State) : (s.setChan x).unitId = s.unitId := rfl
@[simp] theorem State.setChan_resets (x : Chan) (s : State) : (s.setChan x).resets = s.resets := rfl
@[simp] theorem State.setChan_now (x : Chan) (s : State) : (s.setChan x).now = s.now := rfl
@[simp] theorem State.setChan_draws (x : Chan) (s : State) : (s.setChan x).draws = s.draws := rfl
@[simp] theorem State.setChan_supTimer (x : Chan) (s : State) : (s.setChan x).supTimer = s.supTimer := rfl
@[simp] theorem State.setChan_pins (x : Chan) (s : State) : (s.setChan x).pins = s.pins := rfl
@[simp] theorem State.setChan_modem (x : Chan) (s : State) : (s.setChan x).modem = s.modem := rfl
@[simp] theorem State.setChan_chan (x : Chan) (s : State) : (s.setChan x).chan = x := rfl
@[simp] theorem State.setChan_peers (x : Chan) (s : State) : (s.setChan x).peers = s.peers := rfl
@[simp] theorem State.setChan_bond (x : Chan) (s : State) : (s.setChan x).bond = s.bond := rfl
@[simp] theorem State.setChan_halt (x : Chan) (s : State) : (s.setChan x).halt = s.halt := rfl
@[simp] theorem State.setChan_stop (x : Chan) (s : State) : (s.setChan x).stop = s.stop := rfl
@[simp] theorem State.setChan_port (x : Chan) (s : State) : (s.setChan x).port = s.port := rfl
@[simp] theorem State.setChan_floor (x : Chan) (s : State) : (s.setChan x).floor = s.floor := rfl
@[simp] theorem State.setChan_life (x : Chan) (s : State) : (s.setChan x).life = s.life := rfl
@[simp] theorem State.setChan_fault (x : Chan) (s : State) : (s.setChan x).fault = s.fault := rfl
@[simp] theorem State.setChan_test (x : Chan) (s : State) : (s.setChan x).test = s.test := rfl
@[simp] theorem State.setChan_host (x : Chan) (s : State) : (s.setChan x).host = s.host := rfl
@[simp] theorem State.setChan_cfg (x : Chan) (s : State) : (s.setChan x).cfg = s.cfg := rfl
@[simp] theorem State.setChan_role (x : Chan) (s : State) : (s.setChan x).role = s.role := rfl
@[simp] theorem State.setChan_isTraction (x : Chan) (s : State) : (s.setChan x).isTraction = s.isTraction := rfl
@[simp] theorem State.setChan_isOperator (x : Chan) (s : State) : (s.setChan x).isOperator = s.isOperator := rfl
@[simp] theorem State.setChan_started (x : Chan) (s : State) : (s.setChan x).started = s.started := rfl

@[simp] theorem State.setPeers_pending (x : PeerTable) (s : State) : (s.setPeers x).pending = s.pending := rfl
@[simp] theorem State.setPeers_unitId (x : PeerTable) (s : State) : (s.setPeers x).unitId = s.unitId := rfl
@[simp] theorem State.setPeers_resets (x : PeerTable) (s : State) : (s.setPeers x).resets = s.resets := rfl
@[simp] theorem State.setPeers_now (x : PeerTable) (s : State) : (s.setPeers x).now = s.now := rfl
@[simp] theorem State.setPeers_draws (x : PeerTable) (s : State) : (s.setPeers x).draws = s.draws := rfl
@[simp] theorem State.setPeers_supTimer (x : PeerTable) (s : State) : (s.setPeers x).supTimer = s.supTimer := rfl
@[simp] theorem State.setPeers_pins (x : PeerTable) (s : State) : (s.setPeers x).pins = s.pins := rfl
@[simp] theorem State.setPeers_modem (x : PeerTable) (s : State) : (s.setPeers x).modem = s.modem := rfl
@[simp] theorem State.setPeers_chan (x : PeerTable) (s : State) : (s.setPeers x).chan = s.chan := rfl
@[simp] theorem State.setPeers_peers (x : PeerTable) (s : State) : (s.setPeers x).peers = x := rfl
@[simp] theorem State.setPeers_bond (x : PeerTable) (s : State) : (s.setPeers x).bond = s.bond := rfl
@[simp] theorem State.setPeers_halt (x : PeerTable) (s : State) : (s.setPeers x).halt = s.halt := rfl
@[simp] theorem State.setPeers_stop (x : PeerTable) (s : State) : (s.setPeers x).stop = s.stop := rfl
@[simp] theorem State.setPeers_port (x : PeerTable) (s : State) : (s.setPeers x).port = s.port := rfl
@[simp] theorem State.setPeers_floor (x : PeerTable) (s : State) : (s.setPeers x).floor = s.floor := rfl
@[simp] theorem State.setPeers_life (x : PeerTable) (s : State) : (s.setPeers x).life = s.life := rfl
@[simp] theorem State.setPeers_fault (x : PeerTable) (s : State) : (s.setPeers x).fault = s.fault := rfl
@[simp] theorem State.setPeers_test (x : PeerTable) (s : State) : (s.setPeers x).test = s.test := rfl
@[simp] theorem State.setPeers_host (x : PeerTable) (s : State) : (s.setPeers x).host = s.host := rfl
@[simp] theorem State.setPeers_cfg (x : PeerTable) (s : State) : (s.setPeers x).cfg = s.cfg := rfl
@[simp] theorem State.setPeers_role (x : PeerTable) (s : State) : (s.setPeers x).role = s.role := rfl
@[simp] theorem State.setPeers_isTraction (x : PeerTable) (s : State) : (s.setPeers x).isTraction = s.isTraction := rfl
@[simp] theorem State.setPeers_isOperator (x : PeerTable) (s : State) : (s.setPeers x).isOperator = s.isOperator := rfl
@[simp] theorem State.setPeers_started (x : PeerTable) (s : State) : (s.setPeers x).started = s.started := rfl

@[simp] theorem State.setBond_pending (x : BondTable) (s : State) : (s.setBond x).pending = s.pending := rfl
@[simp] theorem State.setBond_unitId (x : BondTable) (s : State) : (s.setBond x).unitId = s.unitId := rfl
@[simp] theorem State.setBond_resets (x : BondTable) (s : State) : (s.setBond x).resets = s.resets := rfl
@[simp] theorem State.setBond_now (x : BondTable) (s : State) : (s.setBond x).now = s.now := rfl
@[simp] theorem State.setBond_draws (x : BondTable) (s : State) : (s.setBond x).draws = s.draws := rfl
@[simp] theorem State.setBond_supTimer (x : BondTable) (s : State) : (s.setBond x).supTimer = s.supTimer := rfl
@[simp] theorem State.setBond_pins (x : BondTable) (s : State) : (s.setBond x).pins = s.pins := rfl
@[simp] theorem State.setBond_modem (x : BondTable) (s : State) : (s.setBond x).modem = s.modem := rfl
@[simp] theorem State.setBond_chan (x : BondTable) (s : State) : (s.setBond x).chan = s.chan := rfl
@[simp] theorem State.setBond_peers (x : BondTable) (s : State) : (s.setBond x).peers = s.peers := rfl
@[simp] theorem State.setBond_bond (x : BondTable) (s : State) : (s.setBond x).bond = x := rfl
@[simp] theorem State.setBond_halt (x : BondTable) (s : State) : (s.setBond x).halt = s.halt := rfl
@[simp] theorem State.setBond_stop (x : BondTable) (s : State) : (s.setBond x).stop = s.stop := rfl
@[simp] theorem State.setBond_port (x : BondTable) (s : State) : (s.setBond x).port = s.port := rfl
@[simp] theorem State.setBond_floor (x : BondTable) (s : State) : (s.setBond x).floor = s.floor := rfl
@[simp] theorem State.setBond_life (x : BondTable) (s : State) : (s.setBond x).life = s.life := rfl
@[simp] theorem State.setBond_fault (x : BondTable) (s : State) : (s.setBond x).fault = s.fault := rfl
@[simp] theorem State.setBond_test (x : BondTable) (s : State) : (s.setBond x).test = s.test := rfl
@[simp] theorem State.setBond_host (x : BondTable) (s : State) : (s.setBond x).host = s.host := rfl
@[simp] theorem State.setBond_cfg (x : BondTable) (s : State) : (s.setBond x).cfg = s.cfg := rfl
@[simp] theorem State.setBond_role (x : BondTable) (s : State) : (s.setBond x).role = s.role := rfl
@[simp] theorem State.setBond_isTraction (x : BondTable) (s : State) : (s.setBond x).isTraction = s.isTraction := rfl
@[simp] theorem State.setBond_isOperator (x : BondTable) (s : State) : (s.setBond x).isOperator = s.isOperator := rfl
@[simp] theorem State.setBond_started (x : BondTable) (s : State) : (s.setBond x).started = s.started := rfl

@[simp] theorem State.setHalt_pending (x : HaltUnit) (s : State) : (s.setHalt x).pending = s.pending := rfl
@[simp] theorem State.setHalt_unitId (x : HaltUnit) (s : State) : (s.setHalt x).unitId = s.unitId := rfl
@[simp] theorem State.setHalt_resets (x : HaltUnit) (s : State) : (s.setHalt x).resets = s.resets := rfl
@[simp] theorem State.setHalt_now (x : HaltUnit) (s : State) : (s.setHalt x).now = s.now := rfl
@[simp] theorem State.setHalt_draws (x : HaltUnit) (s : State) : (s.setHalt x).draws = s.draws := rfl
@[simp] theorem State.setHalt_supTimer (x : HaltUnit) (s : State) : (s.setHalt x).supTimer = s.supTimer := rfl
@[simp] theorem State.setHalt_pins (x : HaltUnit) (s : State) : (s.setHalt x).pins = s.pins := rfl
@[simp] theorem State.setHalt_modem (x : HaltUnit) (s : State) : (s.setHalt x).modem = s.modem := rfl
@[simp] theorem State.setHalt_chan (x : HaltUnit) (s : State) : (s.setHalt x).chan = s.chan := rfl
@[simp] theorem State.setHalt_peers (x : HaltUnit) (s : State) : (s.setHalt x).peers = s.peers := rfl
@[simp] theorem State.setHalt_bond (x : HaltUnit) (s : State) : (s.setHalt x).bond = s.bond := rfl
@[simp] theorem State.setHalt_halt (x : HaltUnit) (s : State) : (s.setHalt x).halt = x := rfl
@[simp] theorem State.setHalt_stop (x : HaltUnit) (s : State) : (s.setHalt x).stop = s.stop := rfl
@[simp] theorem State.setHalt_port (x : HaltUnit) (s : State) : (s.setHalt x).port = s.port := rfl
@[simp] theorem State.setHalt_floor (x : HaltUnit) (s : State) : (s.setHalt x).floor = s.floor := rfl
@[simp] theorem State.setHalt_life (x : HaltUnit) (s : State) : (s.setHalt x).life = s.life := rfl
@[simp] theorem State.setHalt_fault (x : HaltUnit) (s : State) : (s.setHalt x).fault = s.fault := rfl
@[simp] theorem State.setHalt_test (x : HaltUnit) (s : State) : (s.setHalt x).test = s.test := rfl
@[simp] theorem State.setHalt_host (x : HaltUnit) (s : State) : (s.setHalt x).host = s.host := rfl
@[simp] theorem State.setHalt_cfg (x : HaltUnit) (s : State) : (s.setHalt x).cfg = s.cfg := rfl
@[simp] theorem State.setHalt_role (x : HaltUnit) (s : State) : (s.setHalt x).role = s.role := rfl
@[simp] theorem State.setHalt_isTraction (x : HaltUnit) (s : State) : (s.setHalt x).isTraction = s.isTraction := rfl
@[simp] theorem State.setHalt_isOperator (x : HaltUnit) (s : State) : (s.setHalt x).isOperator = s.isOperator := rfl
@[simp] theorem State.setHalt_started (x : HaltUnit) (s : State) : (s.setHalt x).started = s.started := rfl

@[simp] theorem State.setStop_pending (x : StopUnit) (s : State) : (s.setStop x).pending = s.pending := rfl
@[simp] theorem State.setStop_unitId (x : StopUnit) (s : State) : (s.setStop x).unitId = s.unitId := rfl
@[simp] theorem State.setStop_resets (x : StopUnit) (s : State) : (s.setStop x).resets = s.resets := rfl
@[simp] theorem State.setStop_now (x : StopUnit) (s : State) : (s.setStop x).now = s.now := rfl
@[simp] theorem State.setStop_draws (x : StopUnit) (s : State) : (s.setStop x).draws = s.draws := rfl
@[simp] theorem State.setStop_supTimer (x : StopUnit) (s : State) : (s.setStop x).supTimer = s.supTimer := rfl
@[simp] theorem State.setStop_pins (x : StopUnit) (s : State) : (s.setStop x).pins = s.pins := rfl
@[simp] theorem State.setStop_modem (x : StopUnit) (s : State) : (s.setStop x).modem = s.modem := rfl
@[simp] theorem State.setStop_chan (x : StopUnit) (s : State) : (s.setStop x).chan = s.chan := rfl
@[simp] theorem State.setStop_peers (x : StopUnit) (s : State) : (s.setStop x).peers = s.peers := rfl
@[simp] theorem State.setStop_bond (x : StopUnit) (s : State) : (s.setStop x).bond = s.bond := rfl
@[simp] theorem State.setStop_halt (x : StopUnit) (s : State) : (s.setStop x).halt = s.halt := rfl
@[simp] theorem State.setStop_stop (x : StopUnit) (s : State) : (s.setStop x).stop = x := rfl
@[simp] theorem State.setStop_port (x : StopUnit) (s : State) : (s.setStop x).port = s.port := rfl
@[simp] theorem State.setStop_floor (x : StopUnit) (s : State) : (s.setStop x).floor = s.floor := rfl
@[simp] theorem State.setStop_life (x : StopUnit) (s : State) : (s.setStop x).life = s.life := rfl
@[simp] theorem State.setStop_fault (x : StopUnit) (s : State) : (s.setStop x).fault = s.fault := rfl
@[simp] theorem State.setStop_test (x : StopUnit) (s : State) : (s.setStop x).test = s.test := rfl
@[simp] theorem State.setStop_host (x : StopUnit) (s : State) : (s.setStop x).host = s.host := rfl
@[simp] theorem State.setStop_cfg (x : StopUnit) (s : State) : (s.setStop x).cfg = s.cfg := rfl
@[simp] theorem State.setStop_role (x : StopUnit) (s : State) : (s.setStop x).role = s.role := rfl
@[simp] theorem State.setStop_isTraction (x : StopUnit) (s : State) : (s.setStop x).isTraction = s.isTraction := rfl
@[simp] theorem State.setStop_isOperator (x : StopUnit) (s : State) : (s.setStop x).isOperator = s.isOperator := rfl
@[simp] theorem State.setStop_started (x : StopUnit) (s : State) : (s.setStop x).started = s.started := rfl

@[simp] theorem State.setPort_pending (x : Port) (s : State) : (s.setPort x).pending = s.pending := rfl
@[simp] theorem State.setPort_unitId (x : Port) (s : State) : (s.setPort x).unitId = s.unitId := rfl
@[simp] theorem State.setPort_resets (x : Port) (s : State) : (s.setPort x).resets = s.resets := rfl
@[simp] theorem State.setPort_now (x : Port) (s : State) : (s.setPort x).now = s.now := rfl
@[simp] theorem State.setPort_draws (x : Port) (s : State) : (s.setPort x).draws = s.draws := rfl
@[simp] theorem State.setPort_supTimer (x : Port) (s : State) : (s.setPort x).supTimer = s.supTimer := rfl
@[simp] theorem State.setPort_pins (x : Port) (s : State) : (s.setPort x).pins = s.pins := rfl
@[simp] theorem State.setPort_modem (x : Port) (s : State) : (s.setPort x).modem = s.modem := rfl
@[simp] theorem State.setPort_chan (x : Port) (s : State) : (s.setPort x).chan = s.chan := rfl
@[simp] theorem State.setPort_peers (x : Port) (s : State) : (s.setPort x).peers = s.peers := rfl
@[simp] theorem State.setPort_bond (x : Port) (s : State) : (s.setPort x).bond = s.bond := rfl
@[simp] theorem State.setPort_halt (x : Port) (s : State) : (s.setPort x).halt = s.halt := rfl
@[simp] theorem State.setPort_stop (x : Port) (s : State) : (s.setPort x).stop = s.stop := rfl
@[simp] theorem State.setPort_port (x : Port) (s : State) : (s.setPort x).port = x := rfl
@[simp] theorem State.setPort_floor (x : Port) (s : State) : (s.setPort x).floor = s.floor := rfl
@[simp] theorem State.setPort_life (x : Port) (s : State) : (s.setPort x).life = s.life := rfl
@[simp] theorem State.setPort_fault (x : Port) (s : State) : (s.setPort x).fault = s.fault := rfl
@[simp] theorem State.setPort_test (x : Port) (s : State) : (s.setPort x).test = s.test := rfl
@[simp] theorem State.setPort_host (x : Port) (s : State) : (s.setPort x).host = s.host := rfl
@[simp] theorem State.setPort_cfg (x : Port) (s : State) : (s.setPort x).cfg = s.cfg := rfl
@[simp] theorem State.setPort_role (x : Port) (s : State) : (s.setPort x).role = s.role := rfl
@[simp] theorem State.setPort_isTraction (x : Port) (s : State) : (s.setPort x).isTraction = s.isTraction := rfl
@[simp] theorem State.setPort_isOperator (x : Port) (s : State) : (s.setPort x).isOperator = s.isOperator := rfl
@[simp] theorem State.setPort_started (x : Port) (s : State) : (s.setPort x).started = s.started := rfl

@[simp] theorem State.setFloor_pending (x : Floor) (s : State) : (s.setFloor x).pending = s.pending := rfl
@[simp] theorem State.setFloor_unitId (x : Floor) (s : State) : (s.setFloor x).unitId = s.unitId := rfl
@[simp] theorem State.setFloor_resets (x : Floor) (s : State) : (s.setFloor x).resets = s.resets := rfl
@[simp] theorem State.setFloor_now (x : Floor) (s : State) : (s.setFloor x).now = s.now := rfl
@[simp] theorem State.setFloor_draws (x : Floor) (s : State) : (s.setFloor x).draws = s.draws := rfl
@[simp] theorem State.setFloor_supTimer (x : Floor) (s : State) : (s.setFloor x).supTimer = s.supTimer := rfl
@[simp] theorem State.setFloor_pins (x : Floor) (s : State) : (s.setFloor x).pins = s.pins := rfl
@[simp] theorem State.setFloor_modem (x : Floor) (s : State) : (s.setFloor x).modem = s.modem := rfl
@[simp] theorem State.setFloor_chan (x : Floor) (s : State) : (s.setFloor x).chan = s.chan := rfl
@[simp] theorem State.setFloor_peers (x : Floor) (s : State) : (s.setFloor x).peers = s.peers := rfl
@[simp] theorem State.setFloor_bond (x : Floor) (s : State) : (s.setFloor x).bond = s.bond := rfl
@[simp] theorem State.setFloor_halt (x : Floor) (s : State) : (s.setFloor x).halt = s.halt := rfl
@[simp] theorem State.setFloor_stop (x : Floor) (s : State) : (s.setFloor x).stop = s.stop := rfl
@[simp] theorem State.setFloor_port (x : Floor) (s : State) : (s.setFloor x).port = s.port := rfl
@[simp] theorem State.setFloor_floor (x : Floor) (s : State) : (s.setFloor x).floor = x := rfl
@[simp] theorem State.setFloor_life (x : Floor) (s : State) : (s.setFloor x).life = s.life := rfl
@[simp] theorem State.setFloor_fault (x : Floor) (s : State) : (s.setFloor x).fault = s.fault := rfl
@[simp] theorem State.setFloor_test (x : Floor) (s : State) : (s.setFloor x).test = s.test := rfl
@[simp] theorem State.setFloor_host (x : Floor) (s : State) : (s.setFloor x).host = s.host := rfl
@[simp] theorem State.setFloor_cfg (x : Floor) (s : State) : (s.setFloor x).cfg = s.cfg := rfl
@[simp] theorem State.setFloor_role (x : Floor) (s : State) : (s.setFloor x).role = s.role := rfl
@[simp] theorem State.setFloor_isTraction (x : Floor) (s : State) : (s.setFloor x).isTraction = s.isTraction := rfl
@[simp] theorem State.setFloor_isOperator (x : Floor) (s : State) : (s.setFloor x).isOperator = s.isOperator := rfl
@[simp] theorem State.setFloor_started (x : Floor) (s : State) : (s.setFloor x).started = s.started := rfl

@[simp] theorem State.setLife_pending (x : Life) (s : State) : (s.setLife x).pending = s.pending := rfl
@[simp] theorem State.setLife_unitId (x : Life) (s : State) : (s.setLife x).unitId = s.unitId := rfl
@[simp] theorem State.setLife_resets (x : Life) (s : State) : (s.setLife x).resets = s.resets := rfl
@[simp] theorem State.setLife_now (x : Life) (s : State) : (s.setLife x).now = s.now := rfl
@[simp] theorem State.setLife_draws (x : Life) (s : State) : (s.setLife x).draws = s.draws := rfl
@[simp] theorem State.setLife_supTimer (x : Life) (s : State) : (s.setLife x).supTimer = s.supTimer := rfl
@[simp] theorem State.setLife_pins (x : Life) (s : State) : (s.setLife x).pins = s.pins := rfl
@[simp] theorem State.setLife_modem (x : Life) (s : State) : (s.setLife x).modem = s.modem := rfl
@[simp] theorem State.setLife_chan (x : Life) (s : State) : (s.setLife x).chan = s.chan := rfl
@[simp] theorem State.setLife_peers (x : Life) (s : State) : (s.setLife x).peers = s.peers := rfl
@[simp] theorem State.setLife_bond (x : Life) (s : State) : (s.setLife x).bond = s.bond := rfl
@[simp] theorem State.setLife_halt (x : Life) (s : State) : (s.setLife x).halt = s.halt := rfl
@[simp] theorem State.setLife_stop (x : Life) (s : State) : (s.setLife x).stop = s.stop := rfl
@[simp] theorem State.setLife_port (x : Life) (s : State) : (s.setLife x).port = s.port := rfl
@[simp] theorem State.setLife_floor (x : Life) (s : State) : (s.setLife x).floor = s.floor := rfl
@[simp] theorem State.setLife_life (x : Life) (s : State) : (s.setLife x).life = x := rfl
@[simp] theorem State.setLife_fault (x : Life) (s : State) : (s.setLife x).fault = s.fault := rfl
@[simp] theorem State.setLife_test (x : Life) (s : State) : (s.setLife x).test = s.test := rfl
@[simp] theorem State.setLife_host (x : Life) (s : State) : (s.setLife x).host = s.host := rfl

@[simp] theorem State.setFault_pending (x : FaultUnit) (s : State) : (s.setFault x).pending = s.pending := rfl
@[simp] theorem State.setFault_unitId (x : FaultUnit) (s : State) : (s.setFault x).unitId = s.unitId := rfl
@[simp] theorem State.setFault_resets (x : FaultUnit) (s : State) : (s.setFault x).resets = s.resets := rfl
@[simp] theorem State.setFault_now (x : FaultUnit) (s : State) : (s.setFault x).now = s.now := rfl
@[simp] theorem State.setFault_draws (x : FaultUnit) (s : State) : (s.setFault x).draws = s.draws := rfl
@[simp] theorem State.setFault_supTimer (x : FaultUnit) (s : State) : (s.setFault x).supTimer = s.supTimer := rfl
@[simp] theorem State.setFault_pins (x : FaultUnit) (s : State) : (s.setFault x).pins = s.pins := rfl
@[simp] theorem State.setFault_modem (x : FaultUnit) (s : State) : (s.setFault x).modem = s.modem := rfl
@[simp] theorem State.setFault_chan (x : FaultUnit) (s : State) : (s.setFault x).chan = s.chan := rfl
@[simp] theorem State.setFault_peers (x : FaultUnit) (s : State) : (s.setFault x).peers = s.peers := rfl
@[simp] theorem State.setFault_bond (x : FaultUnit) (s : State) : (s.setFault x).bond = s.bond := rfl
@[simp] theorem State.setFault_halt (x : FaultUnit) (s : State) : (s.setFault x).halt = s.halt := rfl
@[simp] theorem State.setFault_stop (x : FaultUnit) (s : State) : (s.setFault x).stop = s.stop := rfl
@[simp] theorem State.setFault_port (x : FaultUnit) (s : State) : (s.setFault x).port = s.port := rfl
@[simp] theorem State.setFault_floor (x : FaultUnit) (s : State) : (s.setFault x).floor = s.floor := rfl
@[simp] theorem State.setFault_life (x : FaultUnit) (s : State) : (s.setFault x).life = s.life := rfl
@[simp] theorem State.setFault_fault (x : FaultUnit) (s : State) : (s.setFault x).fault = x := rfl
@[simp] theorem State.setFault_test (x : FaultUnit) (s : State) : (s.setFault x).test = s.test := rfl
@[simp] theorem State.setFault_host (x : FaultUnit) (s : State) : (s.setFault x).host = s.host := rfl
@[simp] theorem State.setFault_cfg (x : FaultUnit) (s : State) : (s.setFault x).cfg = s.cfg := rfl
@[simp] theorem State.setFault_role (x : FaultUnit) (s : State) : (s.setFault x).role = s.role := rfl
@[simp] theorem State.setFault_isTraction (x : FaultUnit) (s : State) : (s.setFault x).isTraction = s.isTraction := rfl
@[simp] theorem State.setFault_isOperator (x : FaultUnit) (s : State) : (s.setFault x).isOperator = s.isOperator := rfl
@[simp] theorem State.setFault_started (x : FaultUnit) (s : State) : (s.setFault x).started = s.started := rfl

@[simp] theorem State.setTest_pending (x : TestUnit) (s : State) : (s.setTest x).pending = s.pending := rfl
@[simp] theorem State.setTest_unitId (x : TestUnit) (s : State) : (s.setTest x).unitId = s.unitId := rfl
@[simp] theorem State.setTest_resets (x : TestUnit) (s : State) : (s.setTest x).resets = s.resets := rfl
@[simp] theorem State.setTest_now (x : TestUnit) (s : State) : (s.setTest x).now = s.now := rfl
@[simp] theorem State.setTest_draws (x : TestUnit) (s : State) : (s.setTest x).draws = s.draws := rfl
@[simp] theorem State.setTest_supTimer (x : TestUnit) (s : State) : (s.setTest x).supTimer = s.supTimer := rfl
@[simp] theorem State.setTest_pins (x : TestUnit) (s : State) : (s.setTest x).pins = s.pins := rfl
@[simp] theorem State.setTest_modem (x : TestUnit) (s : State) : (s.setTest x).modem = s.modem := rfl
@[simp] theorem State.setTest_chan (x : TestUnit) (s : State) : (s.setTest x).chan = s.chan := rfl
@[simp] theorem State.setTest_peers (x : TestUnit) (s : State) : (s.setTest x).peers = s.peers := rfl
@[simp] theorem State.setTest_bond (x : TestUnit) (s : State) : (s.setTest x).bond = s.bond := rfl
@[simp] theorem State.setTest_halt (x : TestUnit) (s : State) : (s.setTest x).halt = s.halt := rfl
@[simp] theorem State.setTest_stop (x : TestUnit) (s : State) : (s.setTest x).stop = s.stop := rfl
@[simp] theorem State.setTest_port (x : TestUnit) (s : State) : (s.setTest x).port = s.port := rfl
@[simp] theorem State.setTest_floor (x : TestUnit) (s : State) : (s.setTest x).floor = s.floor := rfl
@[simp] theorem State.setTest_life (x : TestUnit) (s : State) : (s.setTest x).life = s.life := rfl
@[simp] theorem State.setTest_fault (x : TestUnit) (s : State) : (s.setTest x).fault = s.fault := rfl
@[simp] theorem State.setTest_test (x : TestUnit) (s : State) : (s.setTest x).test = x := rfl
@[simp] theorem State.setTest_host (x : TestUnit) (s : State) : (s.setTest x).host = s.host := rfl
@[simp] theorem State.setTest_cfg (x : TestUnit) (s : State) : (s.setTest x).cfg = s.cfg := rfl
@[simp] theorem State.setTest_role (x : TestUnit) (s : State) : (s.setTest x).role = s.role := rfl
@[simp] theorem State.setTest_isTraction (x : TestUnit) (s : State) : (s.setTest x).isTraction = s.isTraction := rfl
@[simp] theorem State.setTest_isOperator (x : TestUnit) (s : State) : (s.setTest x).isOperator = s.isOperator := rfl
@[simp] theorem State.setTest_started (x : TestUnit) (s : State) : (s.setTest x).started = s.started := rfl

@[simp] theorem State.setHost_pending (x : HostLink) (s : State) : (s.setHost x).pending = s.pending := rfl
@[simp] theorem State.setHost_unitId (x : HostLink) (s : State) : (s.setHost x).unitId = s.unitId := rfl
@[simp] theorem State.setHost_resets (x : HostLink) (s : State) : (s.setHost x).resets = s.resets := rfl
@[simp] theorem State.setHost_now (x : HostLink) (s : State) : (s.setHost x).now = s.now := rfl
@[simp] theorem State.setHost_draws (x : HostLink) (s : State) : (s.setHost x).draws = s.draws := rfl
@[simp] theorem State.setHost_supTimer (x : HostLink) (s : State) : (s.setHost x).supTimer = s.supTimer := rfl
@[simp] theorem State.setHost_pins (x : HostLink) (s : State) : (s.setHost x).pins = s.pins := rfl
@[simp] theorem State.setHost_modem (x : HostLink) (s : State) : (s.setHost x).modem = s.modem := rfl
@[simp] theorem State.setHost_chan (x : HostLink) (s : State) : (s.setHost x).chan = s.chan := rfl
@[simp] theorem State.setHost_peers (x : HostLink) (s : State) : (s.setHost x).peers = s.peers := rfl
@[simp] theorem State.setHost_bond (x : HostLink) (s : State) : (s.setHost x).bond = s.bond := rfl
@[simp] theorem State.setHost_halt (x : HostLink) (s : State) : (s.setHost x).halt = s.halt := rfl
@[simp] theorem State.setHost_stop (x : HostLink) (s : State) : (s.setHost x).stop = s.stop := rfl
@[simp] theorem State.setHost_port (x : HostLink) (s : State) : (s.setHost x).port = s.port := rfl
@[simp] theorem State.setHost_floor (x : HostLink) (s : State) : (s.setHost x).floor = s.floor := rfl
@[simp] theorem State.setHost_life (x : HostLink) (s : State) : (s.setHost x).life = s.life := rfl
@[simp] theorem State.setHost_fault (x : HostLink) (s : State) : (s.setHost x).fault = s.fault := rfl
@[simp] theorem State.setHost_test (x : HostLink) (s : State) : (s.setHost x).test = s.test := rfl
@[simp] theorem State.setHost_host (x : HostLink) (s : State) : (s.setHost x).host = x := rfl
@[simp] theorem State.setHost_cfg (x : HostLink) (s : State) : (s.setHost x).cfg = s.cfg := rfl
@[simp] theorem State.setHost_role (x : HostLink) (s : State) : (s.setHost x).role = s.role := rfl
@[simp] theorem State.setHost_isTraction (x : HostLink) (s : State) : (s.setHost x).isTraction = s.isTraction := rfl
@[simp] theorem State.setHost_isOperator (x : HostLink) (s : State) : (s.setHost x).isOperator = s.isOperator := rfl
@[simp] theorem State.setHost_started (x : HostLink) (s : State) : (s.setHost x).started = s.started := rfl

@[simp] theorem State.setPending_pending (x : List Instr) (s : State) : (s.setPending x).pending = x := rfl
@[simp] theorem State.setPending_unitId (x : List Instr) (s : State) : (s.setPending x).unitId = s.unitId := rfl
@[simp] theorem State.setPending_resets (x : List Instr) (s : State) : (s.setPending x).resets = s.resets := rfl
@[simp] theorem State.setPending_now (x : List Instr) (s : State) : (s.setPending x).now = s.now := rfl
@[simp] theorem State.setPending_draws (x : List Instr) (s : State) : (s.setPending x).draws = s.draws := rfl
@[simp] theorem State.setPending_supTimer (x : List Instr) (s : State) : (s.setPending x).supTimer = s.supTimer := rfl
@[simp] theorem State.setPending_pins (x : List Instr) (s : State) : (s.setPending x).pins = s.pins := rfl
@[simp] theorem State.setPending_modem (x : List Instr) (s : State) : (s.setPending x).modem = s.modem := rfl
@[simp] theorem State.setPending_chan (x : List Instr) (s : State) : (s.setPending x).chan = s.chan := rfl
@[simp] theorem State.setPending_peers (x : List Instr) (s : State) : (s.setPending x).peers = s.peers := rfl
@[simp] theorem State.setPending_bond (x : List Instr) (s : State) : (s.setPending x).bond = s.bond := rfl
@[simp] theorem State.setPending_halt (x : List Instr) (s : State) : (s.setPending x).halt = s.halt := rfl
@[simp] theorem State.setPending_stop (x : List Instr) (s : State) : (s.setPending x).stop = s.stop := rfl
@[simp] theorem State.setPending_port (x : List Instr) (s : State) : (s.setPending x).port = s.port := rfl
@[simp] theorem State.setPending_floor (x : List Instr) (s : State) : (s.setPending x).floor = s.floor := rfl
@[simp] theorem State.setPending_life (x : List Instr) (s : State) : (s.setPending x).life = s.life := rfl
@[simp] theorem State.setPending_fault (x : List Instr) (s : State) : (s.setPending x).fault = s.fault := rfl
@[simp] theorem State.setPending_test (x : List Instr) (s : State) : (s.setPending x).test = s.test := rfl
@[simp] theorem State.setPending_host (x : List Instr) (s : State) : (s.setPending x).host = s.host := rfl
@[simp] theorem State.setPending_cfg (x : List Instr) (s : State) : (s.setPending x).cfg = s.cfg := rfl
@[simp] theorem State.setPending_role (x : List Instr) (s : State) : (s.setPending x).role = s.role := rfl
@[simp] theorem State.setPending_isTraction (x : List Instr) (s : State) : (s.setPending x).isTraction = s.isTraction := rfl
@[simp] theorem State.setPending_isOperator (x : List Instr) (s : State) : (s.setPending x).isOperator = s.isOperator := rfl
@[simp] theorem State.setPending_started (x : List Instr) (s : State) : (s.setPending x).started = s.started := rfl

end Sys2Proof.Machine
end

