-- ==== Sys2Proof/Safety.lean ====
section
/-! DEFINITION. What the chapters promise of every state (the invariants of the stop path, of the capacities of the queues
and tables, and of ALARM), and the words the statements are made of: when an event is due, which state a rule acts in, what
queuing, answering, contact, the end of a request and the end of a transfer leave. -/

namespace Sys2Proof.Machine

/-- The stop lines carry stop exactly while the stop cause set is non-empty, and both do (R113). -/
def StopLinesFollow (s : State) : Prop :=
  (s.stop.causes = 0 → carriesStop s.stop.stopA = false ∧ carriesStop s.stop.stopB = false)
    ∧ (s.stop.causes ≠ 0 → carriesStop s.stop.stopA = true ∧ carriesStop s.stop.stopB = true)

/-- A STOPLINE test is running. -/
def StoplineRuns (s : State) : Prop := ∃ start pos failed, s.test.running = some (.stopline start pos failed)

/-- The stop path as R113 and R177 give it: the lines follow the set, and a STOPLINE test runs only while the set is
non-empty. -/
def StopPathSafe (s : State) : Prop := StopLinesFollow s ∧ (StoplineRuns s → s.stop.causes ≠ 0)

/-- The capacities: 12 queue entries (R21), 24 report records (R185), 32 peer entries (R39), 8 halt pairs (R122), 2 voice
blocks in the outlet and 3 in the playout buffer (R140). -/
def WithinCapacities (s : State) : Prop :=
  s.chan.queue.length ≤ queueCapacity ∧ s.host.reports.length ≤ reportCapacity
    ∧ s.peers.entries.length ≤ peerCapacity ∧ s.halt.memory.length ≤ haltMemoryCapacity
    ∧ s.floor.outlet.length ≤ outletCapacity ∧ s.floor.playout.length ≤ playoutCapacity

/-- ALARM is active exactly while a held flag with its select on stands (R170). -/
def AlarmFollows (s : State) : Prop := s.fault.alarm = alarmWanted s.fault

/-! ## When an event is due -/

/-- An event of the station's own is due: the moment its rule gives has been reached in the state that rule gives (R4, R23,
R27 to R30, R36, R43, R47, R49, R56, R64, R72, R73, R89, R94, R95, R100, R102, R107, R122, R133, R134, R146, R150, R161,
R164, R173, R176 to R178, R180, R183, R187). No other command comes of itself. -/
def Due (s : State) : Instr → Prop
  | .initEnd => s.life.st = .init ∧ 5 ≤ s.now
  | .rateLock => ∃ entry bits, s.modem = .locking entry bits ∧ 8 ≤ bits
  | .leadEnd => ∃ a, s.chan.onAir = some a ∧ a.phase = .lead ∧ a.keyedAt + 5 ≤ s.now
  | .wakePreambleEnd => ∃ a, s.chan.onAir = some a ∧ a.phase = .wake ∧ a.keyedAt + 1205 ≤ s.now
  | .frameSent => ∃ a, s.chan.onAir = some a ∧ (a.phase = .preamble ∨ a.phase = .frame)
      ∧ a.keyedAt + airMs a.frame a.rate a.wake ≤ s.now
  | .entryEligible => ∃ e ∈ s.chan.queue, s.eligible e = true ∧ e.eligibleTaken = false
  | .jamDetected => ∃ start, s.chan.spell = some { start := start, jam := false } ∧ start + 12000 ≤ s.now
  | .keyFrame => ∃ c since, s.candidate = some c ∧ s.life.st = .active ∧ s.loopRunning = false ∧ s.chan.onAir = none
      ∧ s.chan.view = .free since ∧ since + requiredFreeMs c ≤ s.now
  | .disagreeTimeout => ∃ since, s.port.disagree = true ∧ s.isLive .disagree = false ∧ s.fault.timer = some since
      ∧ since + 30000 ≤ s.now
  | .peerAgeOut id => ∃ p ∈ s.peers.entries, p.id = id ∧ s.pinned id = false ∧ heardBase p + 300000 ≤ s.now
  | .conflictDeadline => ∃ c, s.peers.conflict = some c ∧ c.deadline ≤ s.now
  | .probeTimeout => ∃ target pattern sentAt, s.peers.probe = .awaiting target pattern sentAt ∧ sentAt + 2000 ≤ s.now
  | .bindWaitExpiry i => ∃ e q end_, s.opEntry i = some e ∧ e.req = some q ∧ q.body = .bindAsk ∧ q.phase = .awaiting end_
      ∧ end_ ≤ s.now
  | .answerWaitExpiry i => ∃ e q end_, s.opEntry i = some e ∧ e.req = some q ∧ q.body ≠ .bindAsk ∧ q.phase = .awaiting end_
      ∧ end_ ≤ s.now
  | .retryWaitExpiry i => ∃ e q end_, s.opEntry i = some e ∧ e.req = some q ∧ q.phase = .retry end_ ∧ end_ ≤ s.now
  | .standbyAgeOut i => ∃ e p, s.trEntry i = some e ∧ e.st = .standby ∧ s.peer e.operator = some p
      ∧ heardBase p + 600000 ≤ s.now
  | .checkDue i => ∃ e p, s.opEntry i = some e ∧ (e.st = .controlling ∨ e.st = .silent) ∧ e.sup = some p ∧ p.due ≤ s.now
  | .periodClose i => ∃ e p, s.trEntry i = some e ∧ (e.st = .controlling ∨ e.st = .lost) ∧ e.sup = some p
      ∧ p.closeAt ≤ s.now
  | .abandon i => ∃ e since, s.trEntry i = some e ∧ e.st = .lost ∧ e.lostSince = some since ∧ since + 60000 ≤ s.now
  | .offerRepeat => ∃ x next, s.pendingTransfer = some x ∧ x.nextOffer = some next ∧ next ≤ s.now
  | .transferLapse => ∃ x, s.pendingTransfer = some x ∧ x.expiry ≤ s.now
  | .offerExpiry i => ∃ e o, s.opEntry i = some e ∧ e.st = .offered ∧ e.offer = some o ∧ o.expiry ≤ s.now
  | .haltMemoryExpiry originator number => ∃ e ∈ s.halt.memory, e.originator = originator ∧ e.number = number
      ∧ e.firstHeard + 5000 ≤ s.now
  | .strobeStart => ∃ at_, s.port.st = .setup at_ ∧ at_ ≤ s.now
  | .strobeEnd => ∃ end_ limit acked fell, s.port.st = .strobe end_ limit acked fell ∧ end_ ≤ s.now
  | .ackLimitExpiry => ∃ limit, s.port.st = .waitAck limit ∧ limit ≤ s.now
  | .releaseLimitExpiry => ∃ limit, s.port.st = .waitRelease limit ∧ limit ≤ s.now
  | .audioFrameBoundary _ => ∃ due, s.floor.boundary = some due ∧ due ≤ s.now
  | .floorTimeout => ∃ h, s.floor.st = .held h ∧ h.taken + 1500 ≤ s.now
  | .dormancyDelayExpiry => ∃ c last, s.life.config = some c ∧ c.role ≠ .traction ∧ c.dormancy ≠ 0 ∧ s.life.st = .active
      ∧ s.life.notice = .idle ∧ s.life.activity = some last ∧ last + c.dormancy ≤ s.now ∧ s.bondsRest = true
      ∧ s.chan.queue = [] ∧ s.floor.st = .free ∧ s.peers.probe = .none ∧ s.halt.own = .idle ∧ s.test.running = none
  | .sniffWindowOpen => ∃ due, s.life.st = .dormant ∧ s.life.sniff = some due ∧ due ≤ s.now
  | .sniffWindowClose => ∃ end_, s.life.window = some end_ ∧ end_ ≤ s.now
  | .loopTestEnd _ _ _ => ∃ start sent, s.test.running = some (.loop start sent) ∧ start + 400 ≤ s.now
  | .stoplineStep _ _ => ∃ start pos failed moment, s.test.running = some (.stopline start pos failed)
      ∧ [0, 8, 10, 23, 25, 33, 35, 48][pos]? = some moment ∧ start + moment ≤ s.now
  | .stoplineTestEnd => ∃ start pos failed, s.test.running = some (.stopline start pos failed) ∧ 8 ≤ pos ∧ start + 50 ≤ s.now
  | .timerTestEnd => ∃ start noted, s.test.running = some (.timer start noted) ∧ start + 1000 ≤ s.now
  | .answerReady => ∃ taken answer, s.host.exchange = .preparing taken answer ∧ taken + 1 ≤ s.now
  | .reportTimeout => srqWanted s ≠ s.host.srq
  | _ => False

/-! ## The state in which a rule acts -/

/-- Whether the command table takes a host command in SETUP (R181); `none` for RESET, whose answer is never ready, and for
what is no command of the table. -/
def takenInSetup : Instr → Option Bool
  | .readId | .configure _ | .start | .test _ | .clearTest | .clearHeld | .readState | .readPeer _ | .readBond _ | .fetch =>
    some true
  | .bind _ | .unbind _ | .take _ | .release _ | .move _ _ | .resume _ | .handover _ _ | .accept _ | .decline _ | .halt _
  | .localStop | .localClear | .talk _ | .talkEnd | .note _ _ _ | .probe _ _ => some false
  | _ => none

/-- The state in which the own rule of a command judges: the packet is complete, the command is one the life state takes,
and activity, the notice and the wake have been seen to (R160, R162, R165, R181). `none` where the command does not come
to its own rule. -/
def taken (inSetup : Bool) (s : State) : Option State :=
  if s.receiving then
    match s.life.st with
    | .init => none
    | .setup => if inSetup then some (noteActivity s) else none
    | .active => some (withdrawNotice (noteActivity s))
    | .dormant => some (wake offer wakeByCommand s)
  else none

/-- A frame that this station reads to its end at a rate and with a time stamp, and delivers: IN-FRAME, ACTIVE, well
formed, of another station (R6, R7, R9, R10). -/
def Delivers (f : Frame) (rate : Rate) (stamp : Nat) (s : State) : Prop :=
  (∃ bits, s.modem = .inFrame rate bits stamp) ∧ s.life.st = .active ∧ frameWellFormed f = true
    ∧ f.header.sender ≠ s.unitId

/-- The state in which the owner of a delivered frame finds the station: read to the end, learned, and counted as activity
(R11, R41, R160). -/
def handed (dev : Nat) (f : Frame) (rate : Rate) (stamp : Nat) (s : State) : State :=
  frameActivity f (learn f rate stamp (qualityClass dev) (endReading s))

/-- The transmit queue has room (R21). -/
def Room (s : State) : Prop := s.chan.queue.length < queueCapacity

/-- The entry the queue makes of a frame offered in a state (R21, R22, R24). -/
def entryOf (f : Frame) (notBefore : Option Nat) (tag : OwnerTag) (s : State) : QEntry :=
  { frame := f, cls := kindClass (frameKind f), entryTime := s.now, notBefore := notBefore, needsWake := s.wakeNeeded f
    rate := s.rateFor f, k := drawnK s.unitId s.draws (kindClass (frameKind f)), tag := tag, onAir := false
    withdrawn := false, eligibleTaken := notBefore.isNone }

/-- Between two states nothing has changed but the queue, which has one more entry, for a frame, and the count of draws. -/
def Queued (f : Frame) (notBefore : Option Nat) (tag : OwnerTag) (s t : State) : Prop :=
  t = { s with chan := { s.chan with queue := s.chan.queue ++ [entryOf f notBefore tag s] }
               draws := if kindClass (frameKind f) = .c0 then s.draws else s.draws + 1 }

/-- A slot holds an operator-side entry in one state and another in the next, and every other slot is as it was. -/
def SlotBecomes (i : Fin 4) (e : Option BondEntry) (s t : State) : Prop :=
  t.entry i = e ∧ ∀ j, j ≠ i → t.entry j = s.entry j

/-- A command names a bond that this operator holds: an identity it may name, and the slot and entry that name it. -/
def OnBond (traction : Identity) (i : Fin 4) (e : OpEntry) (s : State) : Prop :=
  s.isOperator = true ∧ s.badIdentity traction = false ∧ s.findOp traction = some (i, e)

/-- An entry with a new request, queued under the entry's next sequence, which advances (R53, R66). -/
def requested (e : OpEntry) (body : ReqBody) : OpEntry :=
  { e with nextSeq := e.nextSeq + 1, req := some { body := body, seq := e.nextSeq, resends := 0, phase := .queued } }

/-- Between two states a request frame of a slot has been queued and the slot's entry has become another; nothing else has
changed. -/
def Asked (i : Fin 4) (e : OpEntry) (body : ReqBody) (after : OpEntry) (s t : State) : Prop :=
  ∃ v, Queued (s.requestFrame e.traction e.nextSeq body) none (.request i (reqKind body) e.nextSeq) s v
    ∧ t = putEntry i (some (.op after)) v

/-- A frame comes to its owner: read to its end with a time stamp and delivered, for this station or of a kind the floor
unit takes whatever its scope; the owner finds the second state (R7, R9 to R11). -/
def HeardAt (f : Frame) (dev stamp : Nat) (s u : State) : Prop :=
  ∃ rate, Delivers f rate stamp s ∧ (s.forMe f.header = true ∨ floorKind (frameKind f) = true)
    ∧ u = handed dev f rate stamp s

/-- Between two states an ANSWER to a request frame has been queued; nothing else has changed (R17). -/
def Answered (h : Header) (kind : Kind) (verdict : Verdict) (reason : Option Reason) (s t : State) : Prop :=
  Queued (s.unitFrame h.sender 0 (.answer kind h.seq verdict reason)) none .answer s t

/-- Between two states an ANSWER has been queued and recorded in a slot as the sender's last, the entry being otherwise the
one given; nothing else has changed (R17, R68). -/
def Recorded (i : Fin 4) (e : TrEntry) (h : Header) (kind : Kind) (verdict : Verdict) (reason : Option Reason)
    (s t : State) : Prop :=
  ∃ v, Answered h kind verdict reason s v
    ∧ t = putEntry i (some (.tr { e with last := some { kind := kind, seq := h.seq, verdict := verdict, reason := reason } })) v

/-- Between two states the outstanding request of a slot has been queued again under its sequence, its count one higher;
nothing else has changed (R72). -/
def Resent (i : Fin 4) (e : OpEntry) (q : Request) (s t : State) : Prop :=
  Queued (s.requestFrame e.traction q.seq q.body) none (.request i (reqKind q.body) q.seq)
    (putEntry i (some (.op { e with req := some { q with resends := q.resends + 1, phase := .queued } })) s) t

/-- The supervision of an entry whose running period has been heard (R92). -/
def heardPeriod (e : TrEntry) : TrEntry := { e with sup := e.sup.map (fun p => { p with heard := true }) }

/-- An entry after contact: in control its running period is heard, and LOST has become CONTROLLING with eight HEARD marks
(R92). -/
def contactEntry (e : TrEntry) : TrEntry :=
  match e.st with
  | .standby => e
  | .controlling => heardPeriod e
  | .lost => { e with st := .controlling, lostSince := none
                      sup := e.sup.map (fun p => { p with heard := true, history := List.replicate 8 .heard }) }

/-- The state after contact from the operator of an entry: a LOST entry that returns to CONTROLLING is told with cause
REGAINED, and LINK ends where no other entry is LOST (R92). -/
def contacted (i : Fin 4) (e : TrEntry) (s : State) : State :=
  match e.st with
  | .standby => s
  | .controlling => putEntry i (some (.tr (contactEntry e))) s
  | .lost =>
    let w := raise .bond false e.operator [BitVec.ofNat 8 i.val, 4, 8] (putEntry i (some (.tr (contactEntry e))) s)
    if s.otherTr i (fun x => x.st == .lost) then w else faultEnd .link e.operator w

/-- The effective period that a traction takes from a carried one, in ms (R77). -/
def carriedPeriod (units : Byte) (s : State) : Nat :=
  if s.cfg.rate = .quarter then max (units.toNat * 100) 1000 else units.toNat * 100

/-- An entry that takes a period from its next period on (R77). -/
def withPeriod (period : Nat) (e : TrEntry) : TrEntry := { e with sup := e.sup.map (fun p => { p with period := period }) }

/-- An entry given control: CONTROLLING, no longer offered, eight HEARD marks, its first period begun at a moment (R79,
R106). -/
def inControlFrom (now period : Nat) (e : TrEntry) : TrEntry :=
  { e with st := .controlling, offered := false, lostSince := none
           sup := some { period := period, history := List.replicate 8 .heard, heard := false, closeAt := now + period } }

/-! ## The end of a request (R57, R63, R65, R80, R83, R84, R87, R109) -/

/-- The queue has no waiting entry that bears a tag; nothing else has changed (R32, R71). -/
def withoutWaiting (tag : OwnerTag) (s : State) : State :=
  { s with chan := { s.chan with queue := s.chan.queue.filter (fun e => !(e.tag == tag && !e.onAir)) } }

/-- The state after the outstanding request of an entry has ended with a result code and, if it was refused, a reason, but
for the acceptance of a BIND or a TAKE. An OUTCOME report tells the host. A BIND-ASK and a RELEASE with the unbind flag take
the entry and its queued frames with them, and so does a refusal NOT-BOUND, with a BOND report. A RELEASE without the flag and a TAKE bring an
entry in control back to STANDBY, and a RELEASE or a failed HANDOVER clears the handing mark. An entry that leaves SILENT
as the last one ends LINK (R90, R96; log 18, log 19). -/
def requestEnds (i : Fin 4) (e : OpEntry) (q : Request) (result : Byte) (why : Option Reason) (s : State) : State :=
  let told := raise .outcome false e.traction
    [reqCommand q.body, q.seq.setWidth 8, result, (why.map reasonCode).getD 0]
    (putEntry i (some (.op { e with req := none })) s)
  let unlinked (w : State) : State :=
    if e.st = .silent ∧ s.otherOp i (fun x => x.st == .silent) = false then faultEnd .link e.traction w else w
  let removed := agePeers (putEntry i none (withdrawSlot i told))
  let unhanded := agePeers (putEntry i (some (.op { e with req := none, handing := none })) told)
  let back (handing : Option Identity) (w : State) : State :=
    if e.st = .taking ∨ e.st = .controlling ∨ e.st = .silent then
      unlinked (putEntry i (some (.op { e with req := none, handing := handing, st := .standby, link := none, sup := none }))
        (withdrawChecks i w))
    else w
  if q.body = .bindAsk ∨ q.body = .release true then unlinked removed
  else if why = some .notBound then unlinked (raise .bond false e.traction [BitVec.ofNat 8 i.val, 0, 4] removed)
  else
    match q.body with
    | .take _ _ => back e.handing told
    | .release _ => back none unhanded
    | .handover _ => if result = 0 then told else unhanded
    | _ => told

/-! ## The end of a transfer (R97, R106 to R108) -/

/-- The pending transfer, in whichever of its homes it stands, has become another (R97). -/
def transferBecomes (x : Transfer) (s : State) : State :=
  match s.attached with
  | some (j, _) =>
    match s.trEntry j with
    | some e => putEntry j (some (.tr { e with transfer := some x })) s
    | none => s
  | none => { s with bond := { s.bond with detached := some x } }

/-- The pending transfer is cleared, in whichever of its homes it stood, with any OFFER of it still waiting (R97, R106). -/
def transferGone (s : State) : State :=
  withdraw .offer
    (match s.attached with
     | some (j, _) =>
       match s.trEntry j with
       | some e => agePeers (putEntry j (some (.tr { e with transfer := none })) s)
       | none => s
     | none => { s with bond := { s.bond with detached := none } })

/-- The transfer that an entry holds, if it holds one, has become detached (R97). -/
def transferDetached (i : Fin 4) (e : TrEntry) (s : State) : State :=
  match e.transfer with
  | some x => agePeers (putEntry i (some (.tr { e with transfer := none }))
      { s with bond := { s.bond with detached := some x } })
  | none => s

/-- The entry made for a transfer's target has gone with the transfer, told with a cause; a target bound before keeps its
entry (R104, R107, R108). -/
def targetGone (target : Identity) (cause : Byte) (s : State) : State :=
  match s.findTr target with
  | some (j, e) =>
    if e.st = .standby ∧ e.offered = true then
      raise .bond false target [BitVec.ofNat 8 j.val, 0, cause] (agePeers (putEntry j none s))
    else s
  | none => s

/-- No entry of the queue that bears a tag waits. -/
def NoneWaits (tag : OwnerTag) (s : State) : Prop := ∀ e ∈ s.chan.queue, e.tag = tag → e.onAir = true

end Sys2Proof.Machine
end

