-- ==== Sys2Proof/Laws/Vocabulary.lean ====
section
/-! SUPPORT. One lemma for each shared operation that the meanings go through: what it gives when its case applies. Provers
cite these instead of unfolding the operations. -/

namespace Sys2Proof.Machine

/-! ## Derived setters, as the setter of their block -/

@[simp] theorem setQueue_eq (q : List QEntry) (s : State) : s.setQueue q = s.setChan { s.chan with queue := q } := rfl
@[simp] theorem setSpell_eq (x : Option Spell) (s : State) : s.setSpell x = s.setChan { s.chan with spell := x } := rfl
@[simp] theorem setNotice_eq (n : Notice) (s : State) : s.setNotice n = s.setLife { s.life with notice := n } := rfl
@[simp] theorem setOwnHalt_eq (o : OwnHalt) (s : State) : s.setOwnHalt o = s.setHalt { s.halt with own := o } := rfl
@[simp] theorem setMemory_eq (m : List HaltEntry) (s : State) : s.setMemory m = s.setHalt { s.halt with memory := m } := rfl
@[simp] theorem setProbe_eq (p : ProbeRec) (s : State) : s.setProbe p = s.setPeers { s.peers with probe := p } := rfl
@[simp] theorem setEntries_eq (es : List PeerEntry) (s : State) :
    s.setEntries es = s.setPeers { s.peers with entries := es } := rfl
@[simp] theorem setRunning_eq (r : Option RunningTest) (s : State) :
    s.setRunning r = s.setTest { s.test with running := r } := rfl
@[simp] theorem setPortState_eq (p : PortState) (s : State) : s.setPortState p = s.setPort { s.port with st := p } := rfl
@[simp] theorem setFloorState_eq (f : FloorState) (s : State) : s.setFloorState f = s.setFloor { s.floor with st := f } := rfl
@[simp] theorem setDetached_eq (x : Option Transfer) (s : State) :
    s.setDetached x = s.setBond { s.bond with detached := x } := rfl

/-! ## Taking a command (R181) -/

/-- A command that comes to its own rule runs it in the state `taken` gives. -/
theorem takeCommand_of_taken {b : Bool} {s u : State} (c : Command) (h : taken b s = some u) :
    takeCommand b c s = runCommand c u := by
  unfold taken at h
  unfold takeCommand
  split at h
  · rename_i hr
    simp only [hr, if_true]
    cases hl : s.life.st <;> simp only [hl] at h ⊢ <;> try (injection h with h; subst h; rfl)
    · cases h
    · split at h
      · rename_i hb
        simp only [hb, if_true]
        injection h with h
        subst h
        rfl
      · cases h
  · cases h

/-- In SETUP a command that is not taken there is answered UNCONFIGURED before a CONFIGURE and REFUSED STATE after it. -/
theorem takeCommand_setup {s : State} (c : Command) (hr : s.receiving = true) (hs : s.life.st = .setup) :
    takeCommand false c s
      = prepare (if s.life.config.isNone then unconfiguredAnswer else refusedAnswer .state) (noteActivity s) := by
  simp [takeCommand, hr, hs]

/-- In INIT every command is answered NOT-READY. -/
theorem takeCommand_init {b : Bool} {s : State} (c : Command) (hr : s.receiving = true) (hs : s.life.st = .init) :
    takeCommand b c s = prepare notReadyAnswer s := by
  simp [takeCommand, hr, hs]

/-- Every host command of the table, but RESET, comes to its own rule through the tests of R181. -/
theorem exec_takes {c : Instr} {b : Bool} (h : takenInSetup c = some b) (hw : c.countsTaken = true) :
    ∃ k : Command, ∀ s, exec c s = .next (takeCommand b k s) := by
  cases c
  case note mode dest text =>
    cases Option.some.inj h
    exact ⟨noteCommand mode dest text, fun s => congrArg Host.Outcome.next (if_pos hw)⟩
  case probe target pattern =>
    cases Option.some.inj h
    exact ⟨probeCommand target pattern, fun s => congrArg Host.Outcome.next (if_pos hw)⟩
  all_goals first
    | exact absurd h (of_decide_eq_false rfl)
    | (cases Option.some.inj h; exact ⟨_, fun _ => rfl⟩)

/-! ## Offering a frame (R21, R35) -/

/-- With room in the queue no entry is displaced. -/
theorem makeRoom_room {c : AccessClass} {s : State} (h : Room s) : makeRoom c s = some (s, none) := by
  simp only [makeRoom, Room] at *
  simp [h]

/-- In a full queue a place is made by displacing an entry, or none is made (R34, R35). -/
theorem makeRoom_full {c : AccessClass} {s : State} (h : ¬ Room s) :
    makeRoom c s = (displaced c s.chan.queue).map fun r => (s.setQueue r.2, some r.1.tag) := by
  simp only [makeRoom, Room] at *
  simp [h]

/-- Everything an offer can do: it is refused, or a place is made, the owner of a displaced entry is told, and the frame is
taken (R21, R34, R35). -/
theorem offer_cases (f : Frame) (nb : Option Nat) (tag : OwnerTag) (s : State) :
    (makeRoom (kindClass (frameKind f)) s = none ∧ offer f nb tag s = none)
      ∨ ∃ t dropped, makeRoom (kindClass (frameKind f)) s = some (t, dropped)
          ∧ offer f nb tag s = some (afterArrival f nb (arrive f nb tag (tellDropped offerBeside dropped t))) := by
  unfold offer
  cases h : makeRoom (kindClass (frameKind f)) s with
  | none => exact Or.inl ⟨rfl, rfl⟩
  | some r => exact Or.inr ⟨r.1, r.2, rfl, rfl⟩

/-- The new entry of a queue with room. -/
theorem enqueue_queued (f : Frame) (nb : Option Nat) (tag : OwnerTag) (s : State) :
    Queued f nb tag s (enqueue s.chan.queue f nb tag s) := by
  unfold Queued enqueue entryOf
  by_cases hc : kindClass (frameKind f) = .c0 <;> simp [hc, State.setQueue, State.setChan, countDraw, State.setDraws]

/-- A frame of class 1 or 2 offered to a queue with room is taken, and nothing else changes. -/
theorem offer_room {f : Frame} {nb : Option Nat} {tag : OwnerTag} {s : State} (h : Room s)
    (hc : kindClass (frameKind f) ≠ .c0) : offer f nb tag s = some (enqueue s.chan.queue f nb tag s) := by
  simp [offer, makeRoom_room h, tellDropped, afterArrival, arrive, hc]

/-- The same, for a frame whose refusal changes nothing more. -/
theorem offerAnyway_room {f : Frame} {tag : OwnerTag} {s : State} (h : Room s)
    (hc : kindClass (frameKind f) ≠ .c0) : offerAnyway f tag s = enqueue s.chan.queue f none tag s := by
  simp [offerAnyway, offerOr, offer_room h hc]

/-- A class 2 frame offered to a full queue is refused. -/
theorem offer_full {f : Frame} {nb : Option Nat} {tag : OwnerTag} {s : State} (h : ¬ Room s)
    (hc : kindClass (frameKind f) = .c2) : offer f nb tag s = none := by
  simp [offer, makeRoom_full h, hc, displaced]

/-! ## Receiving a frame (R7, R11) -/

/-- Learning keeps every field but the peer table, the queue's flags, the faults and the reports. -/
theorem frameActivity_of_forMe {f : Frame} {s : State} (h : s.forMe f.header = true) (hq : quietKind (frameKind f) = false) :
    frameActivity f s = withdrawNotice (noteActivity s) := by
  simp [frameActivity, h, hq]

/-- A frame in an event other than IN-FRAME changes nothing. -/
theorem receive_not_inFrame {dev : Nat} {f : Frame} {owner : Owner} {s : State} (h : s.inFrame = false) :
    receive dev f owner s = s := by
  unfold State.inFrame at h
  unfold receive
  cases hm : s.modem <;> simp_all

/-! ## Reports (R185) -/

/-- A report with room in the queue is its newest record. -/
theorem postReport_room {r : Report} {s : State} (h : s.host.reports.length < reportCapacity) :
    postReport r s = judgeSrq (s.setHost { s.host with reports := s.host.reports ++ [r] }) := by
  simp [postReport, h]

/-- A report at a full queue is lost. -/
theorem postReport_full {r : Report} {s : State} (h : ¬ s.host.reports.length < reportCapacity) :
    postReport r s = s.setHost { s.host with lost := true, exchange := markLostAgain s.host.exchange } := by
  simp [postReport, h]

end Sys2Proof.Machine
end

