-- ==== Sys2Proof/Certificates/Slice0/Obligations.lean ====
section
/-! DEFINITION. The statements for the provers. The host-command statements speak of `taken`: the state in which a
command's own rule judges; the frame statements of `Delivers` and `handed`; `Queued` says what a frame taken by the queue
changes, and all it changes (Safety.lean). -/

open Sys2Proof Sys2Proof.Machine

/-! ## The machine -/

/-- Every step with a command waiting is that command's exec on the state with the rest of the queue (log 2). -/
def Obligations.StepRunsFrontCommand : Prop :=
  ∀ (c : Instr) (rest : List Instr) (s : State), s.pending = c :: rest → step s = exec c (s.setPending rest)

/-- With no command waiting, a step runs an event of the station's own that is due by its rule, and names one exactly when
one is; otherwise one millisecond passes, in which nothing changes but the clock, the supervision timer and the phase of the
frame on air, whose 16-bit preamble may end. That the station's own events run when no command waits, which of several goes
first, and that a step is one millisecond are the model's choices (log 2, log 27). -/
def Obligations.IdleStepRunsDueEventOrTicks : Prop :=
  ∀ s : State, s.pending = [] →
    (∀ c, nextEvent s = some c → Due s c ∧ step s = exec c s)
      ∧ (nextEvent s = none → (∀ c, ¬ Due s c) ∧ ∃ t, step s = .next t
          ∧ t = { s with
              now := s.now + 1, supTimer := t.supTimer
              chan := { s.chan with onAir := s.chan.onAir.map (fun a =>
                if a.phase = .preamble ∧ a.keyedAt + 5 + bitsMs a.rate 16 ≤ s.now + 1 then { a with phase := .frame }
                else a) } })

/-- A command leaves the commands still to come, the fused identity, and the station clock but for a reset. That the waiting
commands and the identity are part of the state, and that a reset leaves both as they are, is the model's choice (log 2,
log 7, log 24). -/
def Obligations.ExecKeepsQueueIdentityAndClock : Prop :=
  ∀ (c : Instr) (s t : State), exec c s = .next t →
    t.pending = s.pending ∧ t.unitId = s.unitId ∧ (t.now = s.now ∨ (t.now = 0 ∧ (c = .resetn ∨ c = .reset)))

/-- No command faults and none is refused: every one answers a next state. -/
def Obligations.NoCommandStops : Prop := ∀ (c : Instr) (s : State), ∃ t, exec c s = .next t

/-- What the chapters state of the part right after reset (R20 and R38, R39, R70, R112 and R113, R121 and R122, R130, R140,
R159, R168, R174, R180, R182, R185, R7). RESETN, and RESET wherever a complete packet of it is taken outside INIT, put every
block at its reset values; the fused identity, the levels of the input lines, the second time base and the commands still to
come stand (R183, log 11, log 12, log 24); in INIT, RESET is answered NOT-READY (R181). INIT_END, 5 ms after the clock
starts: SETUP, the view and a spell of carrier taken up from CDET, the first frame boundary at this moment (R183, R150). -/
def Obligations.ResetHoldsAndSetsStatedValues : Prop :=
  (State.reset.life.st = .init ∧ State.reset.life.config = none ∧ State.reset.life.activity = none
     ∧ State.reset.life.notice = .idle ∧ State.reset.life.sniff = none
     ∧ State.reset.now = 0 ∧ State.reset.modem = .hunting
     ∧ State.reset.chan.view = .busy ∧ State.reset.chan.queue = [] ∧ State.reset.chan.onAir = none
     ∧ State.reset.peers.entries = [] ∧ State.reset.peers.conflict = none ∧ State.reset.peers.probe = .none
     ∧ (∀ i, State.reset.entry i = none) ∧ State.reset.pendingTransfer = none
     ∧ State.reset.stop.causes = causeUnstarted ∧ State.reset.stop.stopA = .asserted ∧ State.reset.stop.stopB = .asserted
     ∧ State.reset.halt.own = .idle ∧ State.reset.halt.counter = none ∧ State.reset.halt.memory = []
     ∧ State.reset.port.st = .idle ∧ State.reset.port.slot = none ∧ State.reset.tcmd = 0x010 ∧ State.reset.tstb = false
     ∧ State.reset.port.still = none ∧ State.reset.port.ready = none ∧ State.reset.port.speed = none
     ∧ State.reset.floor.st = .free ∧ State.reset.floor.outlet = [] ∧ State.reset.floor.playout = []
     ∧ State.reset.fault.live = 0 ∧ State.reset.fault.held = 0 ∧ State.reset.fault.selects = 0
     ∧ State.reset.fault.timer = none ∧ State.reset.alarmLine = false
     ∧ State.reset.test.running = none ∧ State.reset.test.loop = .notRun ∧ State.reset.test.stopline = .notRun
     ∧ State.reset.test.timer = .notRun ∧ State.reset.test.gate = false
     ∧ State.reset.host.reports = [] ∧ State.reset.host.lost = false ∧ State.reset.srqLine = false
     ∧ State.reset.host.exchange = .between ∧ State.reset.key = false)
    ∧ ((∀ s : State,
           let t : State := { State.reset with pending := s.pending, unitId := s.unitId, resets := s.resets + 1
                                               supTimer := s.supTimer, pins := s.pins }
           exec .resetn s = .next t
             ∧ (s.receiving = true → s.life.st ≠ .init → exec .reset s = .next t)
             ∧ (s.receiving = true → s.life.st = .init → exec .reset s = .next (prepare notReadyAnswer s)))
         ∧ (∀ s : State, s.life.st = .init → 5 ≤ s.now →
           exec .initEnd s = .next { s with
             life := { s.life with st := .setup }
             chan := { s.chan with view := if s.pins.cdet then .busy else .free s.now
                                   spell := if s.pins.cdet then some { start := s.now, jam := false } else none }
             floor := { s.floor with boundary := some s.now } }))

/-! ## Invariants -/

/-- The invariants hold at reset. -/
def Obligations.InvariantsHoldAtReset : Prop :=
  StopPathSafe State.reset ∧ WithinCapacities State.reset ∧ AlarmFollows State.reset

/-- Every step keeps the stop lines with the stop cause set (R113, R177). -/
def Obligations.StepKeepsStopLinesWithCauses : Prop :=
  ∀ s t : State, StopPathSafe s → step s = .next t → StopPathSafe t

/-- Every step keeps the queues, tables and buffers within their capacities (R21, R39, R122, R140, R185). -/
def Obligations.StepKeepsCapacities : Prop :=
  ∀ s t : State, WithinCapacities s → step s = .next t → WithinCapacities t

/-- Every step keeps ALARM with the held flags and the alarm selects (R170). -/
def Obligations.StepKeepsAlarmWithHeldFlags : Prop :=
  ∀ s t : State, AlarmFollows s → step s = .next t → AlarmFollows t

/-! ## Frames as bytes -/

/-- A well-formed frame is read back from its own header and body bytes, every field at every value (R9, R12, R14). Identities
in a body are not judged, so that 000000h is read back too: the model's choice (log 22). -/
def Obligations.FrameBytesReadBack : Prop :=
  ∀ f : Frame, frameWellFormed f = true → frameOfBytes (frameBytes f) = some f

/-- A frame read from bytes is well formed, and its bytes are those it was read from: no bit that carries no field may be
1, and no byte is left over (01, Byte Layouts; R9). That a STATUS with an absent sequence and a 1 among its sequence bits is
not read, and that identities in a body are not judged, is the model's choice (log 22). -/
def Obligations.FrameOfBytesIsExact : Prop :=
  ∀ (bytes : List Byte) (f : Frame), frameOfBytes bytes = some f → frameWellFormed f = true ∧ frameBytes f = bytes

/-- Air times as the table of R2 gives them, without the key-up lead, and the lengths, with the check, of the frames they are
worked from. On TXB: nothing while KEY is released; while it is asserted the one tone for 5 ms, then one tone a bit for the
bit period of the rate: alternating bits from a one, 16 of them or those of 1200 ms in a wake burst, the sync word, then
header, body and check, most significant bit first, and nothing after the last (R1, R2, R30). A bit period of 1/4800,
1/2400 or 1/1200 s and the rounding to whole ms are the model's choices (log 28, log 4). -/
def Obligations.AirTimesAreThoseOfTheTable : Prop :=
  (∀ (h : Header) (number units : Byte) (record : MoveRecord) (status : StatusBody) (kind : Kind) (seq : BitVec 4)
    (originator : Identity) (copy : Byte) (relay : Bool) (block : List CodecFrame), block.length = 10 →
    (∀ b, b = Body.check number units ∨ b = Body.move record →
        (wireBytes ⟨h, b⟩).length = 14
          ∧ airMs ⟨h, b⟩ .full false = 5 + 30 ∧ airMs ⟨h, b⟩ .half false = 5 + 60 ∧ airMs ⟨h, b⟩ .quarter false = 5 + 120)
      ∧ (wireBytes ⟨h, .answer kind seq .accepted none⟩).length = 15
      ∧ airMs ⟨h, .answer kind seq .accepted none⟩ .full false = 5 + 32
      ∧ airMs ⟨h, .answer kind seq .accepted none⟩ .half false = 5 + 63
      ∧ airMs ⟨h, .answer kind seq .accepted none⟩ .quarter false = 5 + 127
      ∧ (wireBytes ⟨h, .status status⟩).length = 20
      ∧ airMs ⟨h, .status status⟩ .full false = 5 + 40 ∧ airMs ⟨h, .status status⟩ .half false = 5 + 80
      ∧ airMs ⟨h, .status status⟩ .quarter false = 5 + 160
      ∧ (wireBytes ⟨h, .halt originator number copy relay⟩).length = 18
      ∧ airMs ⟨h, .halt originator number copy relay⟩ .quarter false = 5 + 147
      ∧ (wireBytes ⟨h, .voice number block⟩).length = 73 ∧ airMs ⟨h, .voice number block⟩ .full false = 5 + 128)
    ∧ (∀ (s : State) (u : Nat), s.chan.onAir = none → s.txb u = none)
    ∧ (∀ (s : State) (a : OnAir) (u bit into : Nat), s.chan.onAir = some a →
        let period := match a.rate with | .full => 5 | .half => 10 | .quarter => 20
        let preamble := if a.wake then 1200 * 24 / period else 16
        let bytes := wireBytes a.frame
        let at_ := (s.now - a.keyedAt) * 24 + u
        (at_ < 5 * 24 → s.txb u = some .one)
          ∧ (at_ = 5 * 24 + bit * period + into → into < period →
              (bit < preamble → s.txb u = some (if bit % 2 = 0 then .one else .zero))
                ∧ (preamble ≤ bit → bit < preamble + 16 →
                    s.txb u = some (toneOf ((0x1B4E : BitVec 16).getMsbD (bit - preamble))))
                ∧ (∀ n byte k, bit = preamble + 16 + 8 * n + k → k < 8 → bytes[n]? = some byte →
                    s.txb u = some (toneOf (byte.getMsbD k)))
                ∧ (preamble + 16 + 8 * bytes.length ≤ bit → s.txb u = none)))

/-! ## The shared operations -/

/-- A frame offered to a queue with room is its newest entry, with its class, entry time, rate, wake flag and drawn k, and
nothing else changes, unless it is a class 0 frame that may go at once, which can cut a wake burst (R21, R22, R24). A full
queue gives up the newest waiting entry of the greatest class number above the frame's: its owner is told "dropped", and
then the frame is taken as the newest entry; where there is none the offer is refused (R34, R35). That the freed place is
kept for the frame while the owner is told is the model's choice (log 20). A removal request takes a waiting entry out,
marks one on air that a cut would take out, and else does nothing (R32); at the removal of a bond entry it names every CHECK
and request frame of its slot, a superseded MOVE among them, and where the entry only leaves control its CHECKs (R63, R65,
R96). -/
def Obligations.OfferedFrameIsQueuedDisplacesOrIsRefused : Prop :=
  (∀ (f : Frame) (notBefore : Option Nat) (tag : OwnerTag) (s : State),
    (Room s → (kindClass (frameKind f) ≠ .c0 ∨ notBefore ≠ none ∨ s.cuttable = false) →
      ∃ t, offer f notBefore tag s = some t ∧ Queued f notBefore tag s t)
      ∧ (¬ Room s → (∀ e ∈ s.chan.queue, e.onAir = true ∨ classNum e.cls ≤ classNum (kindClass (frameKind f))) →
          offer f notBefore tag s = none)
      ∧ (¬ Room s → ∀ (pre post : List QEntry) (e : QEntry), s.chan.queue = pre ++ e :: post → e.onAir = false →
          classNum (kindClass (frameKind f)) < classNum e.cls →
          (∀ x ∈ pre, x.onAir = false → classNum x.cls ≤ classNum e.cls) →
          (∀ x ∈ post, x.onAir = false → classNum x.cls < classNum e.cls) →
          let told := ownerDropped offerBeside e.tag { s with chan := { s.chan with queue := pre ++ post } }
          ∃ v, Queued f notBefore tag told v
            ∧ (kindClass (frameKind f) ≠ .c0 ∨ notBefore ≠ none ∨ v.cuttable = false → offer f notBefore tag s = some v)
            ∧ (e.tag = .status ∨ e.tag = .answer ∨ e.tag = .bindReply ∨ e.tag = .settled ∨ e.tag = .present ∨ e.tag = .echo
                ∨ e.tag = .note ∨ (∃ i, e.tag = .check i) →
                told = { s with chan := { s.chan with queue := pre ++ post } })))
    ∧ (∀ (tag : OwnerTag) (s : State),
        ((∃ e ∈ s.chan.queue, e.tag = tag ∧ e.onAir = false) → withdraw tag s = withoutWaiting tag s)
          ∧ ((∀ e ∈ s.chan.queue, e.tag = tag → e.onAir = true) → withdraw tag s = { s with chan := { s.chan with
              queue := s.chan.queue.map (fun e => if e.tag == tag && e.onAir then { e with withdrawn := true } else e) } }))
    ∧ (∀ (i : Fin 4) (s : State),
        let taken_ (own : QEntry → Bool) : State := { s with chan := { s.chan with
          queue := (s.chan.queue.filter (fun e => !(own e && !e.onAir))).map (fun e =>
            if own e && e.onAir then { e with withdrawn := true } else e) } }
        withdrawChecks i s = taken_ (fun e => e.tag == .check i)
          ∧ withdrawSlot i s = taken_ (fun e => match e.tag with
              | .check j | .request j _ _ => j == i
              | _ => false))

/-- A report is the newest of the queue while it holds fewer than 24 records, with its lost-before flag clear and this
moment as its entry time, and SRQ is judged; at 24 it is discarded and the lost mark set (R185, R187). An answer to a FETCH
that is then being clocked out no longer clears the mark at its end (R186). Nothing else changes. -/
def Obligations.ReportIsQueuedOrLost : Prop :=
  ∀ (k : ReportKind) (urgent : Bool) (subject : Identity) (detail : List Byte) (s : State),
    (s.host.reports.length < 24 → ∃ t, raise k urgent subject detail s = t
        ∧ t = { s with host := { s.host with reports := t.host.reports, srq := t.host.srq } }
        ∧ t.host.reports = s.host.reports ++ [{ kind := k, urgent := urgent, lostBefore := false, time := s.now
                                                subject := subject, detail := detail, text := [], entryTime := s.now }]
        ∧ (t.host.srq = true ↔ s.cfg.threshold ≤ t.host.reports.length
            ∨ (∃ r, t.host.reports.head? = some r ∧ r.entryTime + s.cfg.timeout ≤ s.now)
            ∨ ∃ r ∈ t.host.reports, r.urgent = true))
      ∧ (24 ≤ s.host.reports.length →
          ((∀ a clears, s.host.exchange ≠ .answering a (some clears)) →
              raise k urgent subject detail s = { s with host := { s.host with lost := true } })
            ∧ (∀ a clears, s.host.exchange = .answering a (some clears) → raise k urgent subject detail s
                = { s with host := { s.host with lost := true, exchange := .answering a (some false) } }))

/-- A message that a condition is live is a rise while its live flag is clear: live and held flags set, ALARM judged, an
urgent FAULT report; a message of its end is a fall while the flag is set: the live flag cleared, the held flag kept, a
normal report. Any other message changes nothing (R169, R170). -/
def Obligations.FaultMessagesRiseAndFall : Prop :=
  ∀ (c : Condition) (subject : Identity) (s : State),
    (s.isLive c = true → faultLive c subject s = s) ∧ (s.isLive c = false → faultEnd c subject s = s)
      ∧ (s.isLive c = false →
          let f : FaultUnit := { s.fault with live := s.fault.live ||| conditionBit c, held := s.fault.held ||| conditionBit c
                                              alarm := (s.fault.held ||| conditionBit c) &&& s.fault.selects != 0 }
          faultLive c subject s
            = raise .fault true subject
                [BitVec.ofNat 8 (conditionCode c), 1, f.live.setWidth 8, f.held.setWidth 8] (s.setFault f))
      ∧ (s.isLive c = true →
          let f : FaultUnit := { s.fault with live := s.fault.live &&& ~~~conditionBit c }
          faultEnd c subject s
            = raise .fault false subject
                [BitVec.ofNat 8 (conditionCode c), 2, f.live.setWidth 8, f.held.setWidth 8] (s.setFault f))

/-- A change of the stop cause set: the new set stands, the lines follow it, one urgent STOP CHANGE report names the set,
what was added and what was removed; a set that turns non-empty leaves the safe record in the port, which presents it at
once from IDLE. A change that changes nothing is none (R112 to R114, R132). The disagreement input follows the set, and its
timer the input (R138, R173). A FAILED port whose PORT-FAULT is removed recovers at once where TACK is inactive, with the
end of PORT, and presents the safe record; it stays FAILED while TACK is active (R136). A set that turns empty ends a
running STOPLINE test with no result, told last of all (R177, R179). -/
def Obligations.StopCauseChangeIsReportedAndDriven : Prop :=
  ∀ (add remove : CauseSet) (subject : Identity) (s t : State), changeCauses add remove subject s = t →
    let old := s.stop.causes
    let new := (old &&& ~~~remove) ||| add
    let recovers := s.port.st = .failed ∧ old &&& causePortFault ≠ 0 ∧ new &&& causePortFault = 0 ∧ s.pins.tack = false
    (new = old → t = s)
      ∧ (new ≠ old → t.stop.causes = new
          ∧ (old = 0 → t.stop.stopA = .asserted ∧ t.stop.stopB = .asserted)
          ∧ (new = 0 → t.stop.stopA = .released ∧ t.stop.stopB = .released)
          ∧ (old ≠ 0 → new ≠ 0 → t.stop.stopA = s.stop.stopA ∧ t.stop.stopB = s.stop.stopB)
          ∧ (s.host.reports.length < 24 → ∃ rest, t.host.reports = s.host.reports
              ++ { kind := .stopChange, urgent := true, lostBefore := false, time := s.now, subject := subject
                   detail := causeBytes new ++ causeBytes (new &&& ~~~old) ++ causeBytes (old &&& ~~~new)
                   text := [], entryTime := s.now } :: rest)
          ∧ (old = 0 → s.port.st = .idle → t.port = { s.port with
              st := .setup (s.now + 2), slot := none, last := safeRecord, disagree := t.port.disagree })
          ∧ (old = 0 → s.port.st ≠ .idle → t.port = { s.port with
              slot := some safeRecord, disagree := t.port.disagree })
          ∧ (t.port.disagree = true ↔ s.isTraction = true ∧ s.started = true ∧ new ≠ 0 ∧ s.still = false)
          ∧ (t.port.disagree = s.port.disagree → t.fault.timer = s.fault.timer ∧ t.isLive .disagree = s.isLive .disagree)
          ∧ (s.port.disagree = false → t.port.disagree = true → t.fault.timer = some s.now)
          ∧ (s.port.disagree = true → t.port.disagree = false → t.fault.timer = none ∧ t.isLive .disagree = false)
          ∧ (recovers → s.port.slot = some safeRecord → t.isLive .port = false ∧ t.port = { s.port with
              st := .setup (s.now + 2), slot := none, last := safeRecord, disagree := t.port.disagree })
          ∧ (¬ recovers → old ≠ 0 →
              t.isLive .port = s.isLive .port ∧ t.port = { s.port with disagree := t.port.disagree })
          ∧ (∀ start pos failed, s.test.running = some (.stopline start pos failed) → new = 0 →
              t.test = { s.test with running := none }
                ∧ (s.host.reports.length ≤ 20 → ∃ before, t.host.reports = before
                    ++ [{ kind := .testDone, urgent := false, lostBefore := false, time := s.now, subject := 0
                          detail := [2, 2, BitVec.ofNat 8 (failed.getD 0), 0], text := [], entryTime := s.now }]))
          ∧ (new ≠ 0 ∨ (∀ start pos failed, s.test.running ≠ some (.stopline start pos failed)) → t.test = s.test)
          ∧ t = { s with stop := t.stop, host := t.host, port := t.port, fault := t.fault, test := t.test })

/-- The required free times of the candidates: 4 ms for class 0, 10 + 4k for class 1, 30 for voice, 40 + 4k for class 2,
and with the wake flag at least 50 (R25). -/
def Obligations.RequiredFreeTimes : Prop :=
  ∀ (e : QEntry) (k : Nat) (b : VoiceBlock) (scope : Scope),
    requiredFreeMs (.voice b scope) = 30
      ∧ (e.needsWake = false → e.cls = .c0 → requiredFreeMs (.entry e) = 4)
      ∧ (e.needsWake = false → e.cls = .c1 → e.k = some k → requiredFreeMs (.entry e) = 10 + 4 * k)
      ∧ (e.needsWake = false → e.cls = .c2 → e.k = some k → requiredFreeMs (.entry e) = 40 + 4 * k)
      ∧ (e.needsWake = true →
          requiredFreeMs (.entry e) = max 50 (requiredFreeMs (.entry { e with needsWake := false })))

/-- The candidate: the eligible class 0 entry first offered, else the eligible class 1 entry first offered, else the head of
the voice outlet while the floor is OWN, else the eligible class 2 entry first offered, else none (R26). It is keyed in
ACTIVE, with no LOOP test and nothing on air, once the view has been FREE for its required time: a queue entry is marked on
air and stays in the queue, a voice block leaves the outlet; the view is OWN, the hunter is held, a spell ends. Then the
lead, and the wake preamble of a wake burst, pass (R27, R28, R36). -/
def Obligations.CandidateIsChosenKeyedAndPhasesPass : Prop :=
  (∀ (s : State) (pre post : List QEntry) (e : QEntry), s.chan.queue = pre ++ e :: post → s.eligible e = true →
     (∀ x ∈ pre, s.eligible x = true → classNum e.cls < classNum x.cls) →
     (∀ x ∈ post, s.eligible x = true → classNum e.cls ≤ classNum x.cls) →
     (classNum e.cls < 2 ∨ s.voiceHead = none → s.candidate = some (.entry e))
       ∧ (e.cls = .c2 → ∀ b, s.voiceHead = some b → s.candidate = some b))
    ∧ (∀ s : State,
         (∀ sp b rest, s.floor.st = .own sp → s.floor.outlet = b :: rest → s.voiceHead = some (.voice b sp.scope))
           ∧ ((∀ sp, s.floor.st ≠ .own sp) ∨ s.floor.outlet = [] → s.voiceHead = none)
           ∧ ((∀ x ∈ s.chan.queue, s.eligible x = true → x.cls = .c2) → s.voiceHead ≠ none → s.candidate = s.voiceHead)
           ∧ ((∀ x ∈ s.chan.queue, s.eligible x = false) → s.candidate = s.voiceHead)
           ∧ (∀ x : QEntry, s.eligible x = true ↔ x.onAir = false ∧ ∀ t, x.notBefore = some t → t ≤ s.now))
    ∧ (∀ (s : State) (since : Nat), s.chan.view = .free since →
         (s.life.st = .active → s.loopRunning = false → s.chan.onAir = none →
           (∀ e pre post, s.candidate = some (.entry e) → since + requiredFreeMs (.entry e) ≤ s.now →
               s.chan.queue = pre ++ e :: post → (∀ x ∈ pre, x.cls = e.cls → s.eligible x = false) →
               exec .keyFrame s = .next { s with
                 modem := .hunting
                 chan := { view := .own, queue := pre ++ { e with onAir := true } :: post, spell := none
                           onAir := some { frame := e.frame, rate := e.rate, wake := e.needsWake, voice := none
                                           keyedAt := s.now, phase := .lead } } })
             ∧ (∀ b scope, s.candidate = some (.voice b scope) → since + 30 ≤ s.now →
                 exec .keyFrame s = .next { s with
                   modem := .hunting
                   floor := { s.floor with outlet := s.floor.outlet.drop 1 }
                   chan := { s.chan with view := .own, spell := none
                                         onAir := some { frame := s.scopeFrame scope (.voice b.number b.frames), rate := .full
                                                         wake := false, voice := some b.number, keyedAt := s.now, phase := .lead } } }))
           ∧ (∀ (t : State) (a : OnAir), t.chan.onAir = some a →
               (a.phase = .lead → a.keyedAt + 5 ≤ t.now → exec .leadEnd t = .next
                   { t with chan := { t.chan with onAir := some { a with phase := if a.wake then .wake else .preamble } } })
                 ∧ (a.phase = .wake → a.keyedAt + 1205 ≤ t.now → exec .wakePreambleEnd t = .next
                     { t with chan := { t.chan with onAir := some { a with phase := .frame } } })))

/-! ## The host link -/

/-- The exchange: a selection begins in RECEIVING and ends the one before; the answer becomes ready, a record with the lost
mark as its lost-before flag; the last byte of a record takes it out of the queue and clears a lost mark it showed (R180,
R186, R187). A packet with a code not in the command table, or a count its command does not take, is answered NOT-READY in
INIT and BAD otherwise, with no activity, no withdrawal of a notice and no wake (R181, cases 1 and 2). HDO gives FFh until
the answer is ready, then result, length, data and FFh after the last, each byte in eight clocks, most significant bit first
(R180). That a packet
arrives whole and that the answer is ready when ANSWER_READY comes is the model's form (log 13, log 14). -/
def Obligations.ExchangePhasesAndUnknownPackets : Prop :=
  (∀ s : State,
      (s.pins.hsel = false → exec .hselActive s
          = .next { s with pins := { s.pins with hsel := true }, host := { s.host with exchange := .receiving } })
        ∧ exec .hselInactive s
            = .next { s with pins := { s.pins with hsel := false }, host := { s.host with exchange := .between } }
        ∧ (∀ n a, s.host.exchange = .preparing n (.plain a) →
            exec .answerReady s = .next { s with host := { s.host with exchange := .answering a none } })
        ∧ (∀ n r, s.host.exchange = .preparing n (.record r) →
            exec .answerReady s = .next { s with host := { s.host with
              exchange := .answering ⟨.ok, recordBytes { r with lostBefore := s.host.lost }⟩ (some s.host.lost) } })
        ∧ (∀ a shown, s.host.exchange = .answering a (some shown) →
            ∃ t, exec .fetchRecordRemoved s = .next t ∧ t.host.srq = srqWanted t
              ∧ t = { s with host := { s.host with exchange := .answering a none, reports := s.host.reports.drop 1
                                                   lost := if shown then false else s.host.lost, srq := t.host.srq } })
        ∧ (∀ clock : Nat,
            (s.host.exchange = .receiving ∨ (∃ n p, s.host.exchange = .preparing n p) → s.hdoBit clock = true)
              ∧ ∀ a shown, s.host.exchange = .answering a shown →
                  let result : Byte := match a.result with
                    | .ok => 0 | .busy => 1 | .refused => 2 | .notReady => 3 | .bad => 4 | .unconfigured => 5
                  let bytes : List Byte := result :: BitVec.ofNat 8 a.data.length :: a.data
                  (∀ n k byte, clock = 8 * n + k → k < 8 → bytes[n]? = some byte → s.hdoBit clock = byte.getMsbD k)
                    ∧ (8 * bytes.length ≤ clock → s.hdoBit clock = true)))
    ∧ (∀ (s : State) (code : Byte) (params : List Byte) (mode : Byte) (dest : BitVec 24) (target : Identity), s.receiving = true →
      let bad (r : ResultCode) : State := { s with host := { s.host with exchange := .preparing s.now (.plain ⟨r, []⟩) } }
      let answer : State := bad (if s.life.st = .init then .notReady else .bad)
      (packetKnown code params.length = false → exec (.unknownCommand code params) s = .next answer)
        ∧ (params.length = 0 ∨ 48 < params.length → exec (.note mode dest params) s = .next answer)
        ∧ (16 < params.length → exec (.probe target params) s = .next answer))

/-- What a life state does with a host command before its own rule. In INIT every command of the table is answered
NOT-READY. In SETUP every one the table does not take there is answered UNCONFIGURED before a CONFIGURE and REFUSED STATE
after it, with the last activity time set. In ACTIVE the last activity time is set, and a DORMANT notice is withdrawn:
answered REMOVED it is IDLE and told CANCELLED, answered ON AIR it is WITHDRAWING; that this comes also of a command that its
own rule then answers BAD is the model's choice (log 34). In DORMANT the station wakes first, with
an empty queue taking the PRESENT (R160, R163, R165, R181). -/
def Obligations.LifeStateDecidesWhetherACommandIsTaken : Prop :=
  ∀ s : State, s.receiving = true →
    (∀ c, s.life.st = .init → (takenInSetup c).isSome = true → exec c s = .next (prepare notReadyAnswer s))
      ∧ (∀ c, s.life.st = .setup → takenInSetup c = some false → c.wellFormed = true → exec c s
          = .next (prepare (if s.life.config.isNone then unconfiguredAnswer else refusedAnswer .state)
              { s with life := { s.life with activity := some s.now } }))
      ∧ (s.life.st = .setup → taken true s = some { s with life := { s.life with activity := some s.now } })
      ∧ (s.life.st = .active → s.life.notice ≠ .queued →
          taken false s = some { s with life := { s.life with activity := some s.now } })
      ∧ (s.life.st = .active → s.life.notice = .queued → (∃ e ∈ s.chan.queue, e.tag = .dormantNotice ∧ e.onAir = false) →
          taken false s = some (raise .dormancy false noSubject [3, 0]
            { s with life := { s.life with activity := some s.now, notice := .idle }
                     chan := { s.chan with queue := s.chan.queue.filter (fun e => !(e.tag == .dormantNotice && !e.onAir)) } }))
      ∧ (s.life.st = .active → s.life.notice = .queued → (∃ e ∈ s.chan.queue, e.tag = .dormantNotice ∧ e.onAir = true) →
          (∀ e ∈ s.chan.queue, e.tag = .dormantNotice → e.onAir = true) →
          taken false s = some
            { s with life := { s.life with activity := some s.now, notice := .withdrawing }
                     chan := { s.chan with queue := s.chan.queue.map (fun e =>
                       if e.tag == .dormantNotice && e.onAir then { e with withdrawn := true } else e) } })
      ∧ (s.life.st = .dormant → s.chan.queue = [] → ∃ u v, taken false s = some u
          ∧ Queued (s.crewFrame .present) none .present
              { s with life := { s.life with st := .active, sniff := none, window := none, activity := some s.now } } v
          ∧ u = raise .dormancy false 0 [2, 1] v)

/-- CONFIGURE in SETUP: eleven accepted parameters replace the record, set the alarm selects and judge ALARM and SRQ;
otherwise BAD and the record stands. Started, it is refused STATE (R182, R168, R187). The parameters it accepts, and what
00h stands for (R182). -/
def Obligations.ConfigureJudgesAndReplacesTheRecord : Prop :=
  (∀ (p : ConfigParams) (s : State), s.receiving = true →
      (s.life.st = .setup → ∀ c, configOfParams p = some c → ∃ t, exec (.configure p) s = .next t
          ∧ t.host.srq = srqWanted t
          ∧ t = { s with
              life := { s.life with config := some c, activity := some s.now }
              fault := { s.fault with selects := c.selects, alarm := s.fault.held &&& c.selects != 0 }
              host := { s.host with exchange := .preparing s.now okAnswer, srq := t.host.srq } })
        ∧ (s.life.st = .setup → configOfParams p = none →
            exec (.configure p) s = .next (prepare badAnswer { s with life := { s.life with activity := some s.now } }))
        ∧ (s.life.st ≠ .setup → ∀ u, taken true s = some u →
            exec (.configure p) s = .next (prepare (refusedAnswer .state) u)))
    ∧ (∀ p : ConfigParams,
      ((configOfParams p).isSome = true ↔
        p.role.toNat ≤ 2 ∧ (1 ≤ p.crew.toNat ∧ p.crew.toNat ≤ 250) ∧ p.rate.toNat ≤ 2 ∧ p.authority.toNat ≤ 1
          ∧ (p.period = 0 ∨ (4 ≤ p.period.toNat ∧ p.period.toNat ≤ 20))
          ∧ (p.dormancy = 0 ∨ (3 ≤ p.dormancy.toNat ∧ p.dormancy.toNat ≤ 60))
          ∧ (p.talkLimit = 0 ∨ (10 ≤ p.talkLimit.toNat ∧ p.talkLimit.toNat ≤ 75)) ∧ p.jamStops.toNat ≤ 1
          ∧ p.selects.toNat ≤ 127 ∧ (p.threshold = 0 ∨ (1 ≤ p.threshold.toNat ∧ p.threshold.toNat ≤ 16))
          ∧ (p.timeout = 0 ∨ (10 ≤ p.timeout.toNat ∧ p.timeout.toNat ≤ 250)))
        ∧ ∀ c, configOfParams p = some c →
            roleCode c.role = p.role.setWidth 2 ∧ c.crew = p.crew ∧ rateCode c.rate = p.rate ∧ flagCode c.authority = p.authority
              ∧ c.period = (if p.period = 0 then 600 else p.period.toNat * 100) ∧ c.dormancy = p.dormancy.toNat * 10000
              ∧ c.talkLimit = (if p.talkLimit = 0 then 40 else p.talkLimit.toNat) ∧ flagCode c.jamStops = p.jamStops
              ∧ c.selects.setWidth 8 = p.selects ∧ c.threshold = (if p.threshold = 0 then 4 else p.threshold.toNat)
              ∧ c.timeout = (if p.timeout = 0 then 50 else p.timeout.toNat))

/-- START in SETUP with a record: ACTIVE, the last activity time set, at a TRACTION UNSTARTED gives way to UNATTENDED, and
JAM-STOP joins where JAM is live and jam stops are selected; at another role UNSTARTED stays (R182, R115). Without a record
it is answered UNCONFIGURED, and started it is refused STATE. -/
def Obligations.StartEntersActive : Prop :=
  ∀ s : State, s.receiving = true →
    (s.life.st = .setup → ∀ c, s.life.config = some c → s.stop.causes &&& causeUnstarted ≠ 0 → s.port.st = .idle →
        let jam : CauseSet := if s.isLive .jam = true ∧ c.jamStops = true then causeJamStop else 0
        ∃ t, exec .start s = .next t ∧ t.host.exchange = .preparing s.now okAnswer
          ∧ t.life = { s.life with st := .active, activity := some s.now }
          ∧ (c.role = .traction → t.stop.causes = (s.stop.causes &&& ~~~causeUnstarted) ||| causeUnattended ||| jam)
          ∧ (c.role ≠ .traction → t.stop.causes = s.stop.causes ||| jam)
          ∧ t = { s with life := t.life, stop := { s.stop with causes := t.stop.causes }
                         port := { s.port with disagree := t.port.disagree }, fault := t.fault, host := t.host })
      ∧ (s.life.st = .setup → s.life.config = none →
          exec .start s = .next (prepare unconfiguredAnswer { s with life := { s.life with activity := some s.now } }))
      ∧ (s.life.st ≠ .setup → ∀ u, taken true s = some u → exec .start s = .next (prepare (refusedAnswer .state) u))

/-- The reading commands answer OK with their data and change nothing but the exchange, beside the activity and the wake of
every command: the identification record, the 48 bytes of READ-STATE, for FETCH the oldest record or no data (R183, R186,
R188). READ_PEER answers the entry at its index in 11 bytes, OK with no data at or beyond the count of entries, BAD above
31; READ_BOND one byte 00h for a free slot, 16 bytes for an entry, BAD above 3 (R51, R189). That READ-STATE's seconds since
the last activity are read after the command itself has counted as activity is the model's choice (log 31). -/
def Obligations.ReadingCommandsAnswerAndChangeNothing : Prop :=
  let byte (n : Nat) : Byte := BitVec.ofNat 8 n
  let upTo (most n : Nat) : Nat := min most n
  let bits (a b c : Bool) : Nat := (if a then 1 else 0) + (if b then 2 else 0) + (if c then 4 else 0)
  (∀ s u : State, taken true s = some u →
      exec .readId s = .next (prepare (.plain ⟨.ok, [24, 3] ++ identityBytes u.unitId⟩) u)
        ∧ exec .readState s = .next (prepare (.plain ⟨.ok,
            [match u.life.st with | .init => byte 0 | .setup => 1 | .active => 2 | .dormant => 3]
            ++ (match u.life.config with
                | some c => [(roleCode c.role).setWidth 8, c.crew, rateCode c.rate]
                | none => [byte 0xFF, 0, 0xFF])
            ++ be32 u.now
            ++ [match u.chan.view with | .free _ => byte 0 | .busy => 1 | .own => 2]
            ++ be16 (upTo 65535 (match u.chan.view with | .free since => u.now - since | _ => 0))
            ++ [byte u.chan.queue.length, byte u.peers.entries.length]
            ++ be16 u.stop.causes.toNat
            ++ (match u.floor.st with
                | .free => [byte 0, 0, 0, 0, 0]
                | .claiming _ _ => [1, 0, 0, 0, 0]
                | .own sp => [2, 0, 0, 0, byte (upTo 255 sp.sent)]
                | .held h => [3] ++ identityBytes h.talker ++ [byte (upTo 255 h.missed)])
            ++ [byte u.floor.outlet.length, byte u.floor.playout.length]
            ++ [match u.port.st with
                | .idle => byte 0 | .setup _ => 1 | .strobe _ _ _ _ => 2 | .waitAck _ => 3 | .waitRelease _ => 4 | .failed => 5]
            ++ (match u.port.slot with | some r => byte 1 :: be16 (recordWord r).toNat | none => [0, 0, 0])
            ++ be16 (recordWord u.port.last).toNat
            ++ [byte (bits u.still u.ready false + 4 * u.speed.toNat)]
            ++ [u.fault.live.setWidth 8, u.fault.held.setWidth 8, u.fault.selects.setWidth 8]
            ++ [match u.test.running with
                | none => byte 0 | some (.loop _ _) => 1 | some (.stopline _ _ _) => 2 | some (.timer _ _) => 3]
            ++ [u.test.loop, u.test.stopline, u.test.timer].map (fun r =>
                match r with | .notRun => byte 0 | .pass => 1 | .fail => 2)
            ++ [flagCode u.test.gate]
            ++ [match u.life.notice with | .idle => byte 0 | .queued => 1 | .withdrawing => 2]
            ++ be16 (upTo 65535 (match u.life.activity with | some t => (u.now - t) / 1000 | none => 0))
            ++ [byte u.host.reports.length, byte (bits u.host.lost u.host.srq false)]
            ++ (match u.bond.detached with
                | some x => identityBytes x.target ++ [byte (upTo 255 ((x.expiry - u.now) / 1000))]
                | none => [0, 0, 0, 0])
            ++ [0, 0]⟩) u)
        ∧ (u.host.reports = [] → exec .fetch s = .next (prepare (.plain ⟨.ok, []⟩) u))
        ∧ (∀ r rest, u.host.reports = r :: rest → exec .fetch s = .next (prepare (.record r) u)))
    ∧ (∀ (s u : State) (n : Byte), taken true s = some u →
      (31 < n.toNat → exec (.readPeer n) s = .next (prepare badAnswer u))
        ∧ (n.toNat ≤ 31 → u.peers.entries[n.toNat]? = none → exec (.readPeer n) s = .next (prepare okAnswer u))
        ∧ (n.toNat ≤ 31 → ∀ p, u.peers.entries[n.toNat]? = some p →
            exec (.readPeer n) s = .next (prepare (.plain ⟨.ok, identityBytes p.id
              ++ [match p.role with | some r => (roleCode r).setWidth 8 | none => 0xFF, p.crew.getD 0, rateCode p.rate,
                  match p.quality with | some q => byte q | none => 0xFF, flagCode p.dormant, flagCode (u.pinned p.id)]
              ++ be16 (upTo 65535 ((u.now - p.lastHeard.getD p.created) / 1000))⟩) u))
        ∧ (3 < n.toNat → exec (.readBond n) s = .next (prepare badAnswer u))
        ∧ (∀ i : Fin 4, n.toNat = i.val → u.entry i = none → exec (.readBond n) s = .next (prepare (.plain ⟨.ok, [0]⟩) u))
        ∧ (∀ i : Fin 4, n.toNat = i.val →
            let marks (h : List Mark) : Byte := h.foldl (fun b m => b * 2 + if m = .missed then 1 else 0) 0
            (∀ e, u.entry i = some (.op e) → exec (.readBond n) s = .next (prepare (.plain ⟨.ok,
                [opStateCode e.st] ++ identityBytes e.traction ++ [e.nextSeq.setWidth 8]
                ++ (match e.req with
                    | some q => [kindCode (reqKind q.body), q.seq.setWidth 8,
                        ((match q.phase with | .queued => (0 : BitVec 2) | .awaiting _ => 1 | .retry _ => 2)
                          ++ BitVec.ofNat 2 q.resends).setWidth 8]
                    | none => [0, 0, 0])
                ++ [flagCode e.handing.isSome]
                ++ (match e.link with | some l => [l.check, byte (l.period / 100)] | none => [0, 0])
                ++ [match e.sup with | some p => marks p.history | none => 0]
                ++ identityBytes (match e.handing, e.offer with
                    | some target, _ => target
                    | none, some o => o.controller
                    | none, none => 0)
                ++ [match e.offer with | some o => byte (upTo 255 ((o.expiry - u.now) / 1000)) | none => 0]⟩) u))
              ∧ (∀ e, u.entry i = some (.tr e) → exec (.readBond n) s = .next (prepare (.plain ⟨.ok,
                  [trStateCode e.st] ++ identityBytes e.operator ++ [flagCode e.offered]
                  ++ (match e.last with
                      | some l => [kindCode l.kind, l.seq.setWidth 8, verdictCode l.verdict, (l.reason.map reasonCode).getD 0]
                      | none => [0, 0, 0, 0])
                  ++ (match e.sup with
                      | some p => [flagCode p.heard, byte (p.period / 100), marks p.history]
                      | none => [0, 0, 0])
                  ++ identityBytes (match e.transfer with | some x => x.target | none => 0)
                  ++ [match e.transfer, e.lostSince with
                      | some x, _ => byte (upTo 255 ((x.expiry - u.now) / 1000))
                      | none, some t => byte (upTo 255 ((u.now - t) / 1000))
                      | none, none => 0]⟩) u))))

/-! ## The commands on bonds -/

/-- BIND: BAD, ROLE, STATE and FULL in this order; else the traction is ensured as a peer and an ASKING entry with sequence
0 takes the lowest free slot with its BIND-ASK queued; a full queue answers BUSY, and the ensured peer stays (R55, R53). -/
def Obligations.BindMakesAnAskingEntry : Prop :=
  ∀ (traction : Identity) (s u : State), taken false s = some u →
    (u.badIdentity traction = true → exec (.bind traction) s = .next (prepare badAnswer u))
      ∧ (u.badIdentity traction = false → u.isOperator = false →
          exec (.bind traction) s = .next (prepare (refusedAnswer .role) u))
      ∧ (u.badIdentity traction = false → u.isOperator = true →
          ((u.opSlot traction).isSome = true → exec (.bind traction) s = .next (prepare (refusedAnswer .state) u))
            ∧ (u.opSlot traction = none → u.freeSlot = none →
                exec (.bind traction) s = .next (prepare (refusedAnswer .full) u))
            ∧ (∀ i, u.opSlot traction = none → u.freeSlot = some i →
                let entry : OpEntry :=
                  { traction := traction, st := .asking, nextSeq := 0
                    req := some { body := .bindAsk, seq := 0, resends := 0, phase := .queued }
                    link := none, sup := none, offer := none, handing := none }
                let w := putEntry i (some (.op entry)) (ensurePeer traction u)
                (Room u → ∃ v, Queued (w.unitFrame traction 0 .bindAsk) none (.request i .bindAsk 0) w v
                    ∧ exec (.bind traction) s = .next (prepare okAnswer v))
                  ∧ (¬ Room u → exec (.bind traction) s = .next (prepare busyAnswer (ensurePeer traction u)))))

/-- UNBIND, RELEASE, MOVE and RESUME on a bond in control with no request outstanding: OK, the request frame queued under
the next sequence, which advances, and the request outstanding; nothing else changes. UNBIND is also taken in STANDBY
(R61, R66, R81, R84, R87). -/
def Obligations.RequestCommandsQueueOneRequest : Prop :=
  ∀ (traction : Identity) (i : Fin 4) (e : OpEntry) (s u : State), taken false s = some u → OnBond traction i e u →
    e.req = none → Room u →
    (e.st = .standby ∨ e.st = .controlling ∨ e.st = .silent → ∃ t,
        Asked i e (.release true) (requested e (.release true)) u t ∧ exec (.unbind traction) s = .next (prepare okAnswer t))
      ∧ (e.st = .controlling ∨ e.st = .silent → ∃ t, Asked i e (.release false) (requested e (.release false)) u t
          ∧ exec (.release traction) s = .next (prepare okAnswer t))
      ∧ (e.st = .controlling ∨ e.st = .silent → ∀ word record, recordOfWord word = some record → ∃ t,
          Asked i e (.move record) (requested e (.move record)) u t ∧ exec (.move traction word) s = .next (prepare okAnswer t))
      ∧ (e.st = .controlling ∨ e.st = .silent → ∃ t, Asked i e .resume (requested e .resume) u t
          ∧ exec (.resume traction) s = .next (prepare okAnswer t))

/-- Where a command on a bond answers without effect: BAD for an identity it may not name, ROLE at another role, NOT-BOUND
without an entry, STATE in a state that does not allow it, BUSY while a request is outstanding (but a MOVE over a MOVE),
FULL for a third entry in control; MOVE is BAD for a record outside its fields' lists. A request the queue refuses is
answered BUSY with no effect (R35, R61, R78, R81, R84, R87, R98, R103). -/
def Obligations.BondCommandsAreTurnedAwayInOrder : Prop :=
  ∀ (c : Instr) (traction target : Identity) (word : BitVec 16) (s u : State), taken false s = some u →
    (c = .unbind traction ∨ c = .take traction ∨ c = .release traction ∨ c = .resume traction ∨ c = .accept traction
      ∨ c = .decline traction ∨ (c = .move traction word ∧ (recordOfWord word).isSome = true)
      ∨ (c = .handover traction target ∧ u.badIdentity target = false ∧ traction ≠ target)) →
    (u.badIdentity traction = true → exec c s = .next (prepare badAnswer u))
      ∧ (u.badIdentity traction = false → u.isOperator = false → exec c s = .next (prepare (refusedAnswer .role) u))
      ∧ (u.badIdentity traction = false → u.isOperator = true → u.findOp traction = none →
          exec c s = .next (prepare (refusedAnswer .notBound) u))
      ∧ (recordOfWord word = none → exec (.move traction word) s = .next (prepare badAnswer u))
      ∧ (u.badIdentity target = true ∨ traction = target → exec (.handover traction target) s = .next (prepare badAnswer u))
      ∧ (∀ i e, OnBond traction i e u →
          let state (c : Instr) : Prop := exec c s = .next (prepare (refusedAnswer .state) u)
          let busy (c : Instr) : Prop := exec c s = .next (prepare busyAnswer u)
          let commanding : Prop := e.st = .controlling ∨ e.st = .silent
          let mayMove : Prop := (recordOfWord word).isSome = true
          let mayHand : Prop := u.badIdentity target = false ∧ traction ≠ target
          (e.st = .offered → state (.unbind traction))
            ∧ (e.st ≠ .standby → state (.take traction))
            ∧ (e.st ≠ .offered → state (.accept traction) ∧ state (.decline traction))
            ∧ (¬ commanding → state (.release traction) ∧ state (.resume traction) ∧ (mayMove → state (.move traction word)))
            ∧ (e.st ≠ .controlling ∨ e.handing.isSome = true → mayHand → state (.handover traction target))
            ∧ (e.req.isSome = true →
                (e.st ≠ .offered → busy (.unbind traction))
                  ∧ (e.st = .standby → busy (.take traction))
                  ∧ (commanding → busy (.release traction) ∧ busy (.resume traction))
                  ∧ (commanding → mayMove → (∀ q, e.req = some q → reqKind q.body ≠ .move) → busy (.move traction word))
                  ∧ (e.st = .controlling → e.handing = none → mayHand → busy (.handover traction target)))
            ∧ (e.st = .standby → e.req = none → 2 ≤ u.takenCount →
                exec (.take traction) s = .next (prepare (refusedAnswer .full) u))
            ∧ (e.st = .offered → 2 ≤ u.takenCount → exec (.accept traction) s = .next (prepare (refusedAnswer .full) u))
            ∧ (¬ Room u → e.req = none →
                (e.st ≠ .offered → busy (.unbind traction))
                  ∧ (e.st = .standby → u.takenCount < 2 → busy (.take traction))
                  ∧ (commanding → busy (.release traction))
                  ∧ (e.st = .controlling → e.handing = none → mayHand → busy (.handover traction target))))

/-- TAKE of a STANDBY entry and ACCEPT of an OFFERED one, with fewer than two entries in control: a TAKE is queued with the
effective period (at least 1000 ms toward a QUARTER peer) and the by-transfer flag of the command, and the entry is TAKING
with check number 0; ACCEPT drops the offer (R77, R78, R103). -/
def Obligations.TakeAndAcceptSendATake : Prop :=
  ∀ (traction : Identity) (i : Fin 4) (e : OpEntry) (s u : State), taken false s = some u → OnBond traction i e u →
    Room u → u.takenCount < 2 →
    let period := if u.peerRate e.traction = .quarter then max u.cfg.period 1000 else u.cfg.period
    let taking (byTransfer : Bool) : OpEntry :=
      { requested e (.take byTransfer period) with
        st := .taking, link := some { check := 0, period := period }, offer := none }
    (e.st = .standby → e.req = none → ∃ t, Asked i e (.take false period) (taking false) u t
        ∧ exec (.take traction) s = .next (prepare okAnswer t))
      ∧ (e.st = .offered → ∃ t, Asked i e (.take true period) (taking true) u t
          ∧ exec (.accept traction) s = .next (prepare okAnswer (agePeers t)))

/-- HANDOVER of a CONTROLLING entry that is not handing: the target is ensured as a peer, the HANDOVER queued and the entry
marked handing. DECLINE of an OFFERED entry: the ANSWER REFUSED DECLINED is queued, and the entry goes if it was made for
the offer and returns to STANDBY otherwise, with a BOND report of its new state (R98, R103). -/
def Obligations.HandoverAndDeclineEffects : Prop :=
  ∀ (traction target : Identity) (i : Fin 4) (e : OpEntry) (s u : State), taken false s = some u →
    OnBond traction i e u → Room u →
    (u.badIdentity target = false → traction ≠ target → e.st = .controlling → e.handing = none → e.req = none →
        ∃ t, Asked i e (.handover target) { requested e (.handover target) with handing := some target } (ensurePeer target u) t
          ∧ exec (.handover traction target) s = .next (prepare okAnswer t))
      ∧ (∀ o, e.st = .offered → e.offer = some o → ∃ v,
          Queued (u.unitFrame e.traction 0 (.answer .offer 0 .refused (some .declined))) none .answer u v
            ∧ exec (.decline traction) s = .next (prepare okAnswer
                (if o.madeForOffer then
                  raise .bond false e.traction [BitVec.ofNat 8 i.val, 0, 13] (agePeers (putEntry i none v))
                else
                  raise .bond false e.traction [BitVec.ofNat 8 i.val, 2, 13]
                    (agePeers (putEntry i (some (.op { e with st := .standby, offer := none })) v)))))

/-- A MOVE given while a MOVE is outstanding: a first sending still waiting carries the new record under its old sequence;
otherwise a new MOVE is queued under the next sequence, and a waiting resend of the old one leaves the queue. An OUTCOME
SUPERSEDED names the old sequence (R85, R33). -/
def Obligations.MoveSupersedesAnOutstandingMove : Prop :=
  ∀ (traction : Identity) (i : Fin 4) (e : OpEntry) (q : Request) (old record : MoveRecord) (word : BitVec 16) (s u : State),
    taken false s = some u → OnBond traction i e u → (e.st = .controlling ∨ e.st = .silent) → e.req = some q →
    q.body = .move old → recordOfWord word = some record →
    let waits (x : QEntry) : Bool := x.tag == .request i .move q.seq && !x.onAir
    let inPlace : Prop := q.phase = .queued ∧ q.resends = 0 ∧ ∃ x ∈ u.chan.queue, waits x = true
    let frame := u.unitFrame e.traction q.seq (.move record)
    let superseded (t : State) : State := raise .outcome false e.traction [0x14, q.seq.setWidth 8, 3, 0] t
    (inPlace → exec (.move traction word) s = .next (prepare okAnswer (superseded (putEntry i
          (some (.op { e with req := some { q with body := .move record } }))
          { u with chan := { u.chan with queue := u.chan.queue.map (fun x =>
              if waits x then { x with frame := frame, needsWake := x.needsWake || u.wakeNeeded frame } else x) } }))))
      ∧ (¬ inPlace → Room u → ∃ t, Asked i e (.move record) (requested e (.move record)) u t
          ∧ exec (.move traction word) s = .next (prepare okAnswer (superseded
              { t with chan := { t.chan with queue := t.chan.queue.filter (fun x => !waits x) } })))

/-! ## The other host commands -/

/-- HALT of a scope, with authority for YARD: an own copy still waiting is withdrawn, copy 0 of a halt under the next halt
number is queued, the pair remembered, the cause of the scope added at a TRACTION, the floor told, OK answered; BAD for no
scope, ROLE without authority. LOCAL-STOP and LOCAL-CLEAR at a TRACTION add and remove LOCAL-STOP; at another role they are
refused ROLE (R118, R120, R121). -/
def Obligations.StopCommandsSendAndChangeCauses : Prop :=
  ∀ (code : Byte) (scope : Scope) (s u : State), taken false s = some u →
    (scopeOfCode code = none → exec (.halt code) s = .next (prepare badAnswer u))
      ∧ (scopeOfCode code = some .yard → u.cfg.authority = false →
          exec (.halt code) s = .next (prepare (refusedAnswer .role) u))
      ∧ (scopeOfCode code = some scope → (scope = .crew ∨ u.cfg.authority = true) →
          let n : Byte := match u.halt.counter with | none => BitVec.ofNat 8 u.now | some m => m + 1
          let w : State := { withdrawCopy u with halt := { u.halt with own := .sending n scope 0, counter := some n } }
          Room w → w.cuttable = false → ∃ v,
            Queued (w.scopeFrame scope (.halt u.unitId n 0 false)) none (.haltCopy n 0) w v
              ∧ exec (.halt code) s = .next (prepare okAnswer (haltNotice offer
                  (let x := enterPair u.unitId n v
                   if u.isTraction then
                     changeCauses (match scope with | .crew => causeCrewHalt | .yard => causeYardHalt) 0 noSubject x
                   else x))))
      ∧ (u.isTraction = true →
          exec .localStop s = .next (prepare okAnswer (changeCauses causeLocalStop 0 noSubject u))
            ∧ exec .localClear s = .next (prepare okAnswer (changeCauses 0 causeLocalStop noSubject u)))
      ∧ (u.isTraction = false → exec .localStop s = .next (prepare (refusedAnswer .role) u)
          ∧ exec .localClear s = .next (prepare (refusedAnswer .role) u))

/-- TALK on a FREE floor at a FULL station queues a CLAIM and claims. TALK-END in TALKING with no block on air ends the
spurt: its outlet and assembly emptied, the CLEAR queued, a SPURT END report; a claim still waiting is withdrawn, one on
air will end at its turn (R141, R143, R153). -/
def Obligations.TalkClaimsAndTalkEndEnds : Prop :=
  ∀ (code : Byte) (scope : Scope) (s u : State), taken false s = some u →
    (scopeOfCode code = none → exec (.talk code) s = .next (prepare badAnswer u))
      ∧ (scopeOfCode code = some scope → u.cfg.rate ≠ .full → exec (.talk code) s = .next (prepare (refusedAnswer .rate) u))
      ∧ (scopeOfCode code = some scope → u.cfg.rate = .full → u.floor.st = .free → Room u → ∃ v,
          Queued (u.scopeFrame scope (.claim scope)) none .claim u v
            ∧ exec (.talk code) s = .next (prepare okAnswer
                { v with floor := { u.floor with st := .claiming scope none } }))
      ∧ (∀ sp, u.floor.st = .own sp → sp.phase = .talking → u.voiceOnAir = false → Room u → ∃ v,
          Queued (u.scopeFrame sp.scope (.clear (BitVec.ofNat 8 sp.sent))) none .clear u v
            ∧ exec .talkEnd s = .next (prepare okAnswer (raise .spurtEnd false noSubject
                [1, scopeCode sp.scope, BitVec.ofNat 8 sp.sent, BitVec.ofNat 8 sp.discarded, BitVec.ofNat 8 u.floor.outlet.length]
                { v with floor := { u.floor with
                    st := .own { sp with phase := .clearing .talkEnd true u.floor.outlet.length, assembly := [] }
                    outlet := [] } })))
      ∧ (u.floor.st = .claiming scope none → (∃ x ∈ u.chan.queue, x.tag = .claim ∧ x.onAir = false) →
          exec .talkEnd s = .next (prepare okAnswer
            { u with chan := { u.chan with queue := u.chan.queue.filter (fun x => !(x.tag == .claim && !x.onAir)) }
                     floor := { u.floor with st := .free } }))
      ∧ (u.floor.st = .claiming scope none → (∃ x ∈ u.chan.queue, x.tag = .claim ∧ x.onAir = true) →
          (∀ x ∈ u.chan.queue, x.tag = .claim → x.onAir = true) →
          exec .talkEnd s = .next (prepare okAnswer
            { u with chan := { u.chan with queue := u.chan.queue.map (fun x =>
                        if x.tag == .claim && x.onAir then { x with withdrawn := true } else x) }
                     floor := { u.floor with st := .claiming scope (some .talkEnd) } }))
      ∧ ((u.floor.st = .free ∨ ∃ h, u.floor.st = .held h) → exec .talkEnd s = .next (prepare (refusedAnswer .state) u))

/-- NOTE and PROBE queue their frames at class 2: a NOTE of 1 to 48 bytes to a destination of its mode's form, other than
this station; a PROBE while the probe record is NONE, which becomes QUEUED with target and pattern. Else BAD, or BUSY for a
running probe or a full queue (R49, R184). -/
def Obligations.NoteAndProbeQueueTheirFrames : Prop :=
  ∀ (mode : DestMode) (code : Byte) (dest : BitVec 24) (text pattern : List Byte) (target : Identity) (s u : State),
    taken false s = some u → 1 ≤ text.length → text.length ≤ 48 → pattern.length ≤ 16 →
    (code = (modeCode mode).setWidth 8 → destValid mode dest = true → (mode ≠ .unit ∨ dest ≠ u.unitId) →
        (Room u → ∃ v, Queued (u.frameTo mode dest 0 (.note text)) none .note u v
            ∧ exec (.note code dest text) s = .next (prepare okAnswer v))
          ∧ (¬ Room u → exec (.note code dest text) s = .next (prepare busyAnswer u)))
      ∧ (2 < code.toNat ∨ (code = (modeCode mode).setWidth 8 ∧ (destValid mode dest = false ∨ (mode = .unit ∧ dest = u.unitId))) →
          exec (.note code dest text) s = .next (prepare badAnswer u))
      ∧ (u.badIdentity target = true → exec (.probe target pattern) s = .next (prepare badAnswer u))
      ∧ (u.badIdentity target = false → u.peers.probe ≠ .none → exec (.probe target pattern) s = .next (prepare busyAnswer u))
      ∧ (u.badIdentity target = false → u.peers.probe = .none →
          (Room u → ∃ v, Queued (u.unitFrame target 0 (.probe pattern)) none .probe u v
              ∧ exec (.probe target pattern) s = .next (prepare okAnswer
                  { v with peers := { u.peers with probe := .queued target pattern } }))
            ∧ (¬ Room u → exec (.probe target pattern) s = .next (prepare busyAnswer u)))

/-- TEST starts the named test where none runs and its conditions hold: LOOP with every bond at rest in STANDBY, the floor
FREE and the queue empty, keeping the test frame it sends, a PROBE to its own identity (that the header stays as it is at the
start is the model's choice, log 35); STOPLINE at a TRACTION with a non-empty stop cause set at standstill; TIMER always, noting the
supervision timer. CLEAR-TEST sets the three results NOT-RUN, ends the condition of a failed one, and keeps the gate
(R175 to R179). -/
def Obligations.TestStartsTheNamedTest : Prop :=
  ∀ (s u : State), taken true s = some u → u.test.running = none →
    (∀ code : Byte, code = 0 ∨ 3 < code.toNat → exec (.test code) s = .next (prepare badAnswer u))
      ∧ (u.life.config.isSome = true →
          (u.mayLoop = true → exec (.test 1) s = .next (prepare okAnswer (judgeView
              { u with test := { u.test with running := some (.loop u.now (u.unitFrame u.unitId 0 (.probe
                  [0x00, 0xFF, 0x55, 0xAA, 0x00, 0xFF, 0x55, 0xAA, 0x00, 0xFF, 0x55, 0xAA, 0x00, 0xFF, 0x55, 0xAA]))) }
                       modem := .hunting })))
            ∧ (u.mayLoop = false → exec (.test 1) s = .next (prepare (refusedAnswer .state) u))
            ∧ (u.isTraction = true → u.stop.causes ≠ 0 → u.still = true → exec (.test 2) s = .next (prepare okAnswer
                { u with test := { u.test with running := some (.stopline u.now 0 none) } }))
            ∧ (u.isTraction = true → u.stop.causes = 0 ∨ u.still = false →
                exec (.test 2) s = .next (prepare (refusedAnswer .state) u))
            ∧ (u.isTraction = false → exec (.test 2) s = .next (prepare (refusedAnswer .role) u))
            ∧ exec (.test 3) s = .next (prepare okAnswer
                { u with test := { u.test with running := some (.timer u.now u.supTimer) } }))
      ∧ (u.life.config = none → exec (.test 3) s = .next (prepare unconfiguredAnswer u))
      ∧ (let w : State := { u with test := { u.test with loop := .notRun, stopline := .notRun, timer := .notRun } }
         let x := if u.test.loop = .fail then faultEnd .loopFail noSubject w else w
         exec .clearTest s = .next (prepare okAnswer (if u.test.stopline = .fail then faultEnd .stopFail noSubject x else x)))

/-- CLEAR-HELD is taken in SETUP, ACTIVE and DORMANT at every role, a DORMANT station waking first. It clears every held
flag whose live flag is clear and no other, judges ALARM, and is answered OK; it makes no report and changes nothing else
(R171). -/
def Obligations.ClearHeldClearsEndedHeldFlags : Prop :=
  ∀ s : State,
    (s.receiving = true → s.life.st ≠ .init → (taken true s).isSome = true)
      ∧ ∀ u, taken true s = some u → (s.life.st = .dormant → u.life.st = .active) ∧ ∃ t,
        exec .clearHeld s = .next t
          ∧ (∀ c : Condition, t.fault.held.getLsbD (conditionCode c)
              = (u.fault.held.getLsbD (conditionCode c) && u.fault.live.getLsbD (conditionCode c)))
          ∧ (t.fault.alarm = true ↔
              ∃ c : Condition, t.fault.held.getLsbD (conditionCode c) = true ∧ u.fault.selects.getLsbD (conditionCode c) = true)
          ∧ t.host.exchange = .preparing u.now okAnswer
          ∧ t = { u with fault := { u.fault with held := t.fault.held, alarm := t.fault.alarm }
                         host := { u.host with exchange := t.host.exchange } }

/-! ## The modem and the channel -/

/-- The channel view as it is judged: BUSY in INIT, else OWN while a frame is on air, BUSY while CDET is active or a frame is
read, and FREE otherwise, from this moment if it was not FREE before. A turn from BUSY to FREE redraws every class 1 and
class 2 k. The edges of CDET change it so, and begin and end a spell of carrier (R19, R20, R24, R25, R36). -/
def Obligations.ChannelViewFollowsKeyCarrierAndFrames : Prop :=
  ∀ s : State,
    (∃ t, judgeView s = t
        ∧ t = { s with chan := { s.chan with view := t.chan.view, queue := t.chan.queue }, draws := t.draws }
        ∧ (s.life.st = .init → t.chan.view = .busy)
        ∧ (s.life.st ≠ .init → s.chan.onAir.isSome = true → t.chan.view = .own)
        ∧ (s.life.st ≠ .init → s.chan.onAir = none → s.pins.cdet = true ∨ s.inFrame = true → t.chan.view = .busy)
        ∧ (s.life.st ≠ .init → s.chan.onAir = none → s.pins.cdet = false → s.inFrame = false →
            (∀ since, s.chan.view = .free since → t = s)
              ∧ ((∀ since, s.chan.view ≠ .free since) → t.chan.view = .free s.now))
        ∧ t.chan.queue.map (fun e => { e with k := none }) = s.chan.queue.map (fun e => { e with k := none })
        ∧ (s.chan.view ≠ .busy ∨ t.chan.view = .busy ∨ t.chan.view = .own →
            t.chan.queue = s.chan.queue ∧ t.draws = s.draws)
        ∧ (s.chan.view = .busy → (∃ since, t.chan.view = .free since) → ∀ e ∈ t.chan.queue,
            (e.cls = .c1 → ∃ k, e.k = some k ∧ k < 4) ∧ (e.cls = .c2 → ∃ k, e.k = some k ∧ k < 8)))
      ∧ (s.pins.cdet = false → exec .cdetActive s = .next (judgeView
            { s with pins := { s.pins with cdet := true }
                     chan := { s.chan with spell :=
                       if s.chan.onAir.isNone && s.life.st != .init then some { start := s.now, jam := false }
                       else s.chan.spell } }))
      ∧ (s.pins.cdet = true →
          let t := judgeView { s with pins := { s.pins with cdet := false }, modem := .hunting
                                      chan := { s.chan with spell := none } }
          exec .cdetInactive s = .next
            (if (s.chan.spell.map Spell.jam) = some true then
              let u := faultEnd .jam noSubject t
              if s.started && s.cfg.jamStops then changeCauses 0 causeJamStop noSubject u else u
             else t))

/-- The rate hunter: the first transition of a hunt begins LOCKING at FULL; a measured bit steps the entry slower while it
is longer than its greatest bit, counts when it is not shorter than the least, fails the hunt beyond 1040 µs; eight bits
lock, and a lock in DORMANT wakes; the sync word begins the frame with its stamp, 24 bits without it fail the hunt; a frame
that fails its check or is malformed ends with no other effect (R3 to R7, R9). -/
def Obligations.RateHunterMovesThroughItsStates : Prop :=
  ∀ (s : State) (us bits : Nat) (entry : Rate) (samples : BitVec 16),
    (s.hunts = true → s.modem = .hunting →
        exec (.preambleBitMeasured us) s = .next { s with modem := .locking .full 0 })
      ∧ (s.hunts = true → s.modem = .locking entry bits → bits < 8 → us ≤ 1040 →
          let stepped : Rate := if us ≤ 260 ∧ entry = .full then .full else if us ≤ 520 ∧ entry ≠ .quarter then .half else .quarter
          let least : Nat := match stepped with | .full => 156 | .half => 261 | .quarter => 521
          exec (.preambleBitMeasured us) s = .next { s with modem := .locking stepped (if us < least then 0 else bits + 1) })
      ∧ (s.hunts = true → s.modem = .locking entry bits → bits < 8 → 1040 < us →
          exec (.preambleBitMeasured us) s = .next { s with modem := .hunting })
      ∧ (s.modem = .locking entry bits → 8 ≤ bits → s.life.st ≠ .dormant →
          exec .rateLock s = .next { s with modem := .locked entry bits })
      ∧ (s.modem = .locking entry bits → 8 ≤ bits → s.life.st = .dormant → Room s → ∃ v,
          Queued (s.crewFrame .present) none .present
              { s with modem := .locked entry bits
                       life := { s.life with st := .active, sniff := none, window := none, activity := some s.now } } v
            ∧ exec .rateLock s = .next (raise .dormancy false noSubject [2, 2] v))
      ∧ (s.modem = .locking entry bits → 1040 < us → exec (.huntFailed (.longBit us)) s = .next { s with modem := .hunting })
      ∧ (s.modem = .locked entry bits → ∀ passed, 24 ≤ passed →
          exec (.huntFailed (.windowPassed passed)) s = .next { s with modem := .hunting })
      ∧ (s.modem = .locked entry bits → exec (.syncWordFound 0x1B4E) s
          = .next (judgeView { s with modem := .inFrame entry bits s.now }))
      ∧ (s.modem = .locked entry bits → samples ≠ 0x1B4E → exec (.syncWordFound samples) s = .next s)
      ∧ (s.inFrame = true → ∀ cause bytes,
          exec (.failedFrame cause) s = .next (judgeView { s with modem := .hunting })
            ∧ (frameOfBytes bytes = none → exec (.malformedFrame bytes) s = .next (judgeView { s with modem := .hunting })))

/-- A presentation of FRAME_SENT at the end of the air time: KEY is released, the queue entry on air is gone, a carrier
still present begins a spell, the view is judged, and the owner is told. A request begins its answer wait, a probe its wait
for the ECHO, an OFFER the 5000 ms to the next; a claim opens the spurt, or ends it at once where its end is pending; a voice
block is counted, at the talk limit and in CLEARING with the CLEAR; a CLEAR frees the floor; a halt copy brings the next, not
before 80 ms later, and the last ends the own halt; a relay's state is NONE; a DORMANT notice takes the station to DORMANT,
or, withdrawn, is told CANCELLED with a PRESENT; others do nothing (R29, R49, R72, R100, R121, R127, R142, R152 to R154,
R162, R163). That the event is taken in PREAMBLE as in FRAME, and the air time rounded, are the model's choices (log 27,
log 4). -/
def Obligations.FrameSentLeavesTheAirAndTellsItsOwner : Prop :=
  ∀ (s : State) (a : OnAir), s.chan.onAir = some a → (a.phase = .preamble ∨ a.phase = .frame) →
    a.keyedAt + airMs a.frame a.rate a.wake ≤ s.now →
    let gone := judgeView { s with chan := { s.chan with
      queue := s.chan.queue.filter (fun e => !e.onAir), onAir := none
      spell := if s.pins.cdet then some { start := s.now, jam := false } else none } }
    let cleared (sp : Spurt) (cause : SpurtEnd) (left : Nat) (outlet : List VoiceBlock) : Prop := ∃ v,
      Queued (s.scopeFrame sp.scope (.clear (BitVec.ofNat 8 sp.sent))) none .clear gone v
        ∧ exec .frameSent s = .next (raise .spurtEnd false noSubject
            [match cause with | .talkEnd => 1 | .limit => 2 | .overridden => 3 | .lost => 4, scopeCode sp.scope,
             BitVec.ofNat 8 sp.sent, BitVec.ofNat 8 sp.discarded, BitVec.ofNat 8 left]
            { v with floor := { s.floor with
                st := .own { sp with phase := .clearing cause true left }, outlet := outlet } })
    let opened (scope : Scope) : Spurt :=
      { scope := scope, phase := .talking, sent := 0, discarded := 0, nextNo := 0, assembly := [], started := false }
    (a.voice = none → s.airTag = none → exec .frameSent s = .next gone)
      ∧ (a.voice = none → ∀ tag, s.airTag = some tag →
          (tag = .status ∨ tag = .answer ∨ tag = .bindReply ∨ tag = .settled ∨ tag = .present ∨ tag = .echo ∨ tag = .note
            ∨ (∃ i, tag = .check i) → exec .frameSent s = .next gone)
          ∧ (∀ i kind seq e q, tag = .request i kind seq → s.opEntry i = some e → e.req = some q → reqKind q.body = kind →
              q.seq = seq → q.phase = .queued → exec .frameSent s = .next
                (putEntry i (some (.op { e with req := some { q with phase := .awaiting (s.now + 300) } })) gone))
          ∧ (∀ target pattern, tag = .probe → s.peers.probe = .queued target pattern → exec .frameSent s = .next
              { gone with peers := { s.peers with probe := .awaiting target pattern s.now } })
          ∧ (∀ x, tag = .offer → s.pendingTransfer = some x → exec .frameSent s = .next
              (transferBecomes { x with nextOffer := some (s.now + 5000) } gone))
          ∧ (∀ scope, tag = .claim → s.floor.st = .claiming scope none → exec .frameSent s = .next
              { gone with floor := { s.floor with st := .own (opened scope) } })
          ∧ (∀ scope cause, tag = .claim → s.floor.st = .claiming scope (some cause) → Room gone →
              cleared (opened scope) cause s.floor.outlet.length [])
          ∧ (∀ sp cause offered left, tag = .clear → s.floor.st = .own sp → sp.phase = .clearing cause offered left →
              exec .frameSent s = .next { gone with floor := { s.floor with st := .free } })
          ∧ (∀ number scope copy, tag = .haltCopy number copy → s.halt.own = .sending number scope copy → copy < 2 →
              Room gone → ∃ v, Queued (s.scopeFrame scope (.halt s.unitId number (BitVec.ofNat 8 (copy + 1)) false))
                  (some (s.now + 80)) (.haltCopy number (copy + 1))
                  { gone with halt := { s.halt with own := .sending number scope (copy + 1) } } v
                ∧ exec .frameSent s = .next v)
          ∧ (∀ number scope, tag = .haltCopy number 2 → s.halt.own = .sending number scope 2 → exec .frameSent s = .next
              { gone with halt := { s.halt with own := .idle } })
          ∧ (∀ originator number, tag = .relay originator number → exec .frameSent s = .next
              { gone with halt := { s.halt with memory := s.halt.memory.map (fun x =>
                  if x.originator == originator && x.number == number then { x with relayQueued := false } else x) } })
          ∧ (tag = .dormantNotice → s.life.notice = .queued → exec .frameSent s = .next
              (raise .dormancy false noSubject [1, 0] { gone with
                life := { s.life with st := .dormant, notice := .idle, sniff := some (s.now + 1000), window := none }
                floor := { s.floor with playout := [], playPos := 0 } }))
          ∧ (tag = .dormantNotice → s.life.notice = .withdrawing → Room gone → ∃ v,
              Queued (s.crewFrame .present) none .present { gone with life := { s.life with notice := .idle } } v
                ∧ exec .frameSent s = .next (raise .dormancy false noSubject [3, 0] v)))
      ∧ (∀ number sp, a.voice = some number → s.floor.st = .own sp →
          let counted : Spurt := { sp with sent := sp.sent + 1 }
          (sp.phase = .talking → sp.sent + 1 ≠ s.cfg.talkLimit →
              exec .frameSent s = .next { gone with floor := { s.floor with st := .own counted } })
            ∧ (sp.phase = .talking → sp.sent + 1 = s.cfg.talkLimit → Room gone →
                cleared { counted with assembly := [] } .limit s.floor.outlet.length [])
            ∧ (∀ cause left, sp.phase = .clearing cause false left → Room gone →
                cleared counted cause left s.floor.outlet)
            ∧ (∀ cause left, sp.phase = .clearing cause true left →
                exec .frameSent s = .next { gone with floor := { s.floor with st := .own counted } }))

/-- Entries whose not-before time is reached become eligible once; a class 0 entry among them cuts a wake burst in its lead
or wake preamble, whose entry waits again. A spell of carrier that has lasted 12 s makes JAM live, and after START with jam
stops selected adds JAM-STOP (R23, R31, R36, R117, R172). -/
def Obligations.EntriesBecomeEligibleAndSpellsBecomeJam : Prop :=
  ∀ s : State,
    let new (e : QEntry) : Bool := s.eligible e && !e.eligibleTaken
    let mark (e : QEntry) : QEntry := if new e then { e with eligibleTaken := true } else e
    ((∃ e ∈ s.chan.queue, new e = true) → (s.cuttable = false ∨ ∀ e ∈ s.chan.queue, new e = true → e.cls ≠ .c0) →
        exec .entryEligible s = .next { s with chan := { s.chan with queue := s.chan.queue.map mark } })
      ∧ ((∃ e ∈ s.chan.queue, new e = true ∧ e.cls = .c0) → s.cuttable = true → (∀ e ∈ s.chan.queue, e.withdrawn = false) →
          exec .entryEligible s = .next (judgeView { s with chan := { s.chan with
            queue := s.chan.queue.map (fun e => { mark e with onAir := false }), onAir := none
            spell := if s.pins.cdet then some { start := s.now, jam := false } else none } }))
      ∧ (∀ start, s.chan.spell = some { start := start, jam := false } → start + 12000 ≤ s.now →
          let t := faultLive .jam noSubject { s with chan := { s.chan with spell := some { start := start, jam := true } } }
          exec .jamDetected s = .next
            (if s.started && s.cfg.jamStops then changeCauses causeJamStop 0 noSubject t else t))

/-! ## Received frames -/

/-- A well-formed frame that bears this station's own identity is discarded in ACTIVE: no entry is learned and no block
receives it. It sets the conflict deadline 30 s after its stamp, and IDCONFLICT is live from the first such frame until the
clock reaches the deadline (R10, R47). That CONFLICT_DEADLINE before the deadline changes nothing is the model's choice
(log 3). -/
def Obligations.OwnIdentityFrameShowsAConflict : Prop :=
  ∀ (c : Instr) (f : Frame) (rate : Rate) (bits stamp : Nat) (s : State), c.frame? = some f →
    s.modem = .inFrame rate bits stamp → s.life.st = .active → frameWellFormed f = true → f.header.sender = s.unitId →
    let read := judgeView { s with modem := .hunting }
    (s.peers.conflict = none → exec c s = .next (faultLive .idConflict s.unitId
        { read with peers := { s.peers with conflict := some { deadline := stamp + 30000, id := s.unitId } } }))
      ∧ (s.peers.conflict.isSome = true → ∃ concerned, exec c s = .next
          { read with peers := { s.peers with conflict := some { deadline := stamp + 30000, id := concerned } } })
      ∧ (∀ (t : State) (x : Conflict), t.peers.conflict = some x →
          (x.deadline ≤ t.now → ∃ concerned, exec .conflictDeadline t = .next
              (faultEnd .idConflict concerned { t with peers := { t.peers with conflict := none } }))
            ∧ (t.now < x.deadline → exec .conflictDeadline t = .next t))

/-- Where a received frame ends without an owner: no frame is being read, nothing changes (the model's choice, log 3);
outside ACTIVE or malformed, it only ends the reading; for another station and not of the floor, it is only learned (R6, R7,
R9, R11). What a frame teaches the peer table: an unknown sender is placed last, in a full table after the unpinned entry
heard least recently, the earliest of several, has gone; a known one keeps its role and crew where it has them, and takes
the stamp, the quality, the stated or else the faster rate, and its dormant mark from the kind. A header that differs sets
the conflict deadline (R40, R41, R46, R47). Where a mark has changed, the waiting entries that it now concerns take the
needs-wake flag, and none loses it (R22). -/
def Obligations.FramesEndOrTeachThePeerTable : Prop :=
  (∀ (c : Instr) (f : Frame) (s : State), c.frame? = some f →
     (s.inFrame = false → exec c s = .next s)
       ∧ (s.inFrame = true → s.life.st ≠ .active ∨ frameWellFormed f = false →
           exec c s = .next (judgeView { s with modem := .hunting }))
       ∧ (∀ rate stamp, Delivers f rate stamp s → s.forMe f.header = false → floorKind (frameKind f) = false →
           ∃ quality, quality ≤ 7
             ∧ exec c s = .next (learn f rate stamp quality (judgeView { s with modem := .hunting }))))
    ∧ (∀ (f : Frame) (rate : Rate) (stamp quality : Nat) (s : State),
         let stated (known : Rate) : Rate := match f.body with
           | .bindReply _ _ r _ _ => r
           | .echo _ r _ => r
           | _ => faster known rate
         let dormant : Bool := match f.body with | .dormant => true | _ => false
         let new : PeerEntry :=
           { id := f.header.sender, role := some f.header.role, crew := some f.header.crew, rate := stated rate
             quality := some quality, lastHeard := some stamp, created := s.now, dormant := dormant }
         ∃ t, learn f rate stamp quality s = t
           ∧ t = { s with peers := t.peers, chan := { s.chan with queue := t.chan.queue }, fault := t.fault, host := t.host }
           ∧ (let changes := match s.peer f.header.sender with | some p => p.dormant != dormant | none => dormant
              (changes = false → t.chan = s.chan)
                ∧ (changes = true → t.chan.queue = s.chan.queue.map (fun e =>
                    if e.onAir then e else { e with needsWake := e.needsWake || t.wakeNeeded e.frame })))
           ∧ (∀ p, s.peer f.header.sender = some p →
               t.peers.entries = s.peers.entries.map (fun q => if q.id = p.id then
                 { q with role := some (q.role.getD f.header.role), crew := some (q.crew.getD f.header.crew)
                          rate := stated q.rate, quality := some quality, lastHeard := some stamp, dormant := dormant } else q)
                 ∧ (∀ r c, p.role = some r → p.crew = some c → r ≠ f.header.role ∨ c ≠ f.header.crew →
                     t.peers.conflict.map Conflict.deadline = some (stamp + 30000))
                 ∧ (p.role = none ∨ p.crew = none ∨ (p.role = some f.header.role ∧ p.crew = some f.header.crew) →
                     t.peers.conflict = s.peers.conflict ∧ t.fault = s.fault ∧ t.host = s.host))
           ∧ (s.peer f.header.sender = none → s.peers.entries.length < 32 → t.peers.entries = s.peers.entries ++ [new])
           ∧ (s.peer f.header.sender = none → 32 ≤ s.peers.entries.length → ∀ pre q post, s.peers.entries = pre ++ q :: post →
               s.pinned q.id = false → (∀ r ∈ pre, s.pinned r.id = false → heardBase q < heardBase r) →
               (∀ r ∈ post, s.pinned r.id = false → heardBase q ≤ heardBase r) →
               t.peers.entries = s.peers.entries.filter (fun r => r.id != q.id) ++ [new]))

/-- A request frame at a role other than TRACTION is answered REFUSED ROLE. At a TRACTION a frame whose kind and sequence
are those of the sender's recorded request is a duplicate: it is answered as recorded and judged no second time; but for a
HANDOVER it is contact, which brings a LOST entry back to CONTROLLING (R67, R76, R92, R17). -/
def Obligations.RequestFramesAtOtherRolesAndDuplicates : Prop :=
  ∀ (c : Instr) (kind : Kind) (dev stamp : Nat) (h : Header) (b : Body) (s u : State),
    ((∃ r, b = .move r ∧ c = .moveFrame dev h r) ∨ (b = .resume ∧ c = .resumeFrame dev h)
      ∨ (∃ n t, b = .take n t ∧ c = .takeFrame dev h n t) ∨ (∃ x, b = .release x ∧ c = .releaseFrame dev h x)
      ∨ (∃ x, b = .handover x ∧ c = .handoverFrame dev h x)) →
    kind = bodyKind b → HeardAt ⟨h, b⟩ dev stamp s u → Room u →
    (u.isTraction = false → ∃ t, Answered h kind .refused (some .role) u t ∧ exec c s = .next (judgeNotice t))
      ∧ (u.isTraction = true → ∀ i e verdict reason, u.findTr h.sender = some (i, e) →
          e.last = some { kind := kind, seq := h.seq, verdict := verdict, reason := reason } →
          ∃ t, Answered h kind verdict reason (if kind = .handover then u else contacted i e u) t
            ∧ exec c s = .next (judgeNotice t))

/-- A new MOVE from the operator in control is contact, which brings a LOST entry back to CONTROLLING with cause REGAINED
and, where no other is LOST, ends LINK (R92). With no stop cause and an empty slot it is ACCEPTED: its record is presented at
once by an idle port and waits in the slot otherwise; with a full slot it is BUSY and not recorded; with a stop cause it is
REFUSED STOPPED (R86, R131, R133, R68). From any other sender it is refused HELD, NOT-BOUND or STATE (R86). -/
def Obligations.MoveFrameIsJudgedAndAnswered : Prop :=
  ∀ (dev stamp : Nat) (h : Header) (record : MoveRecord) (s u : State),
    HeardAt ⟨h, .move record⟩ dev stamp s u → u.isTraction = true → Room u →
    (∀ i e, u.findTr h.sender = some (i, e) → (∀ l, e.last = some l → l.kind ≠ .move ∨ l.seq ≠ h.seq) →
        let w := contacted i e u
        (e.st = .controlling ∨ e.st = .lost →
            (u.stop.causes = 0 → u.port.slot = none → ∃ t,
                Recorded i (contactEntry e) h .move .accepted none
                  { w with port := if u.port.st = .idle then
                                     { u.port with st := .setup (u.now + 2), slot := none, last := record }
                                   else { u.port with slot := some record } } t
                ∧ exec (.moveFrame dev h record) s = .next (judgeNotice t))
              ∧ (u.stop.causes = 0 → u.port.slot.isSome = true → ∃ t, Answered h .move .busy none w t
                  ∧ exec (.moveFrame dev h record) s = .next (judgeNotice t))
              ∧ (u.stop.causes ≠ 0 → ∃ t, Recorded i (contactEntry e) h .move .refused (some .stopped) w t
                  ∧ exec (.moveFrame dev h record) s = .next (judgeNotice t)))
          ∧ (e.st = .standby → ∃ t,
              Recorded i e h .move .refused (some (if u.heldByOther h.sender then .held else .state)) u t
                ∧ exec (.moveFrame dev h record) s = .next (judgeNotice t)))
      ∧ (u.findTr h.sender = none → ∃ t,
          Answered h .move .refused (some (if u.heldByOther h.sender then .held else .notBound)) u t
            ∧ exec (.moveFrame dev h record) s = .next (judgeNotice t))

/-- A new RESUME from the operator in control is contact, which brings a LOST entry back to CONTROLLING with cause REGAINED
and ends LINK (R92), and is judged in this order: REFUSED MOVING unless TSTILL, REFUSED STATE unless TRDY, REFUSED STOPPED
while a cause stands that no RESUME clears, else ACCEPTED with the five latched causes removed in one change (R88, R119).
From any other sender it is refused HELD, NOT-BOUND or STATE (R86, R88). -/
def Obligations.ResumeFrameIsJudgedAndAnswered : Prop :=
  ∀ (dev stamp : Nat) (h : Header) (s u : State),
    HeardAt ⟨h, .resume⟩ dev stamp s u → u.isTraction = true → Room u →
    (∀ i e, u.findTr h.sender = some (i, e) → e.st = .controlling ∨ e.st = .lost →
        (∀ l, e.last = some l → l.kind ≠ .resume ∨ l.seq ≠ h.seq) →
        let w := contacted i e u
        let refusal (r : Reason) : Prop := ∃ t, Recorded i (contactEntry e) h .resume .refused (some r) w t
          ∧ exec (.resumeFrame dev h) s = .next (judgeNotice t)
        (u.still = false → refusal .moving)
          ∧ (u.still = true → u.ready = false → refusal .state)
          ∧ (u.still = true → u.ready = true → u.stop.causes &&& 0x1C1 ≠ 0 → refusal .stopped)
          ∧ (u.still = true → u.ready = true → u.stop.causes &&& 0x1C1 = 0 → ∃ t,
              Recorded i (contactEntry e) h .resume .accepted none (changeCauses 0 0x03E h.sender w) t
                ∧ exec (.resumeFrame dev h) s = .next (judgeNotice t)))
      ∧ (u.findTr h.sender = none → ∃ t,
          Answered h .resume .refused (some (if u.heldByOther h.sender then .held else .notBound)) u t
            ∧ exec (.resumeFrame dev h) s = .next (judgeNotice t))
      ∧ (∀ i e, u.findTr h.sender = some (i, e) → e.st = .standby →
          (∀ l, e.last = some l → l.kind ≠ .resume ∨ l.seq ≠ h.seq) → ∃ t,
          Recorded i e h .resume .refused (some (if u.heldByOther h.sender then .held else .state)) u t
            ∧ exec (.resumeFrame dev h) s = .next (judgeNotice t))

/-- A CHECK from the operator in control is contact, which brings a LOST entry back to CONTROLLING with cause REGAINED and
ends LINK; it sets the carried period (at least 1000 ms at a QUARTER station) and is answered by a STATUS of this moment; any
other CHECK is discarded (R18, R77, R92, R93). A STATUS that echoes the check number marks the running period heard; from a
SILENT bond it returns to CONTROLLING with eight HEARD marks, a BOND report, and the end of LINK where no other is SILENT
(R90). A STATUS whose last sequence is that of a request in AWAITING resends it while its count is below 2; otherwise it does
not act on the request (R75). -/
def Obligations.CheckAndStatusFrames : Prop :=
  ∀ (dev stamp : Nat) (h : Header) (number units : Byte) (f : StatusBody) (i : Fin 4) (s u : State),
    (HeardAt ⟨h, .check number units⟩ dev stamp s u →
        (∀ e, u.isTraction = true → u.findTr h.sender = some (i, e) → e.st = .controlling ∨ e.st = .lost → Room u →
          let w := putEntry i (some (.tr (withPeriod (carriedPeriod units u) (contactEntry e)))) (contacted i e u)
          ∃ t, Queued (u.unitFrame h.sender 0 (.status
              { check := number, standstill := u.still, stopAsserted := u.stop.causes != 0
                portFailed := u.port.st == .failed, transferPending := e.transfer.isSome, causes := u.stop.causes
                speed := u.speed, lastSeq := e.last.map LastReq.seq })) none .status w t
            ∧ exec (.checkFrame dev h number units) s = .next (judgeNotice t))
          ∧ (u.isTraction = false ∨ u.findTr h.sender = none ∨ (∃ e, u.findTr h.sender = some (i, e) ∧ e.st = .standby) →
              exec (.checkFrame dev h number units) s = .next (judgeNotice u)))
      ∧ (HeardAt ⟨h, .status f⟩ dev stamp s u →
          (u.isOperator = false ∨ u.findOp h.sender = none
              ∨ (∃ e, u.findOp h.sender = some (i, e) ∧ e.st ≠ .taking ∧ e.st ≠ .controlling ∧ e.st ≠ .silent) →
            exec (.statusFrame dev h f) s = .next (judgeNotice u))
          ∧ (u.isOperator = true → ∀ e, u.findOp h.sender = some (i, e) →
              let matches_ (q : Request) : Prop := f.lastSeq = some q.seq ∧ q.resends < 2 ∧ ∃ t, q.phase = .awaiting t
              let marked := e.sup.map (fun p => if e.link.map OpLink.check = some f.check then { p with heard := true } else p)
              let after : OpEntry := { e with
                st := if e.st = .silent then .controlling else e.st
                sup := if e.st = .silent then marked.map (fun p => { p with history := List.replicate 8 .heard })
                       else if e.st = .controlling then marked else e.sup }
              let heard := putEntry i (some (.op after)) u
              let told := raise .bond false e.traction [BitVec.ofNat 8 i.val, 4, 8] heard
              let w := if e.st = .silent then
                  (if u.otherOp i (fun x => x.st == .silent) then told else faultEnd .link e.traction told)
                else heard
              e.st = .taking ∨ e.st = .controlling ∨ e.st = .silent →
                ((∀ q, e.req = some q → ¬ matches_ q) → exec (.statusFrame dev h f) s = .next (judgeNotice w))
                  ∧ (∀ q, e.req = some q → matches_ q → Room u → ∃ t, Resent i after q w t
                      ∧ exec (.statusFrame dev h f) s = .next (judgeNotice t))))

/-- An ANSWER that matches the outstanding request of the bond. ACCEPTED and REFUSED end it in any phase, a request frame
still waiting being withdrawn, with an OUTCOME report and what its kind's rule gives: a MOVE and a RESUME no more, a TAKE
refused brings back STANDBY, a RELEASE leaves control, a RELEASE with the unbind flag and a refusal NOT-BOUND remove the
entry, a HANDOVER refused clears the handing mark (R63, R65, R69, R71, R80, R83, R109); an accepted TAKE enters control with
a fresh history and a first CHECK (R80, R89). BUSY in AWAITING begins the 150 ms retry wait while a resend remains and else
ends the request NO-ANSWER, and is discarded in QUEUED and RETRY (R71, R73). That a RELEASE refused for a reason other than
STATE and NOT-BOUND ends as one refused STATE is the model's choice (log 18). One that matches nothing is discarded. At a
TRACTION a refusal of the OFFER by the pending transfer's target clears it, with a SETTLED DECLINED to the handing operator,
and the entry made for the target goes; any other ANSWER is discarded (R104). -/
def Obligations.AnswerFrameEndsOrRetriesItsRequest : Prop :=
  ∀ (dev stamp : Nat) (h : Header) (kind : Kind) (seq : BitVec 4) (verdict : Verdict) (reason : Option Reason) (s u : State),
    HeardAt ⟨h, .answer kind seq verdict reason⟩ dev stamp s u →
    let becomes (t : State) : Prop := exec (.answerFrame dev h kind seq verdict reason) s = .next (judgeNotice t)
    (u.isTraction = true →
        (∀ x, u.pendingTransfer = some x → x.target = h.sender → kind = .offer → verdict = .refused → Room u → ∃ v,
            Queued (u.unitFrame x.handing 0 (.settled .declined)) none .settled (transferGone u) v
              ∧ becomes (targetGone h.sender 13 v))
          ∧ (kind ≠ .offer ∨ verdict ≠ .refused ∨ (∀ x, u.pendingTransfer = some x → x.target ≠ h.sender) → becomes u))
      ∧ (u.isTraction = false → u.findOp h.sender = none → becomes u)
      ∧ (∀ i e, u.isTraction = false → u.findOp h.sender = some (i, e) →
          ((∀ q, e.req = some q → reqKind q.body ≠ kind ∨ q.seq ≠ seq ∨ kind = .bindAsk) → becomes u)
            ∧ (∀ q, e.req = some q → reqKind q.body = kind → q.seq = seq → kind ≠ .bindAsk →
                let gone := withoutWaiting (.request i kind seq) u
                (verdict = .accepted → kind ≠ .take → becomes (requestEnds i e q 0 none gone))
                  ∧ (∀ r, verdict = .refused → reason = some r → becomes (requestEnds i e q 1 (some r) gone))
                  ∧ (∀ l, verdict = .accepted → kind = .take → e.link = some l → Room u → NoneWaits (.check i) u →
                      let told := raise .outcome false e.traction [reqCommand q.body, seq.setWidth 8, 0, 0]
                        (putEntry i (some (.op { e with req := none })) gone)
                      let after : OpEntry := { e with
                        st := .controlling, req := none, link := some { l with check := l.check + 1 }
                        sup := some { history := List.replicate 8 .heard, heard := false, due := u.now + l.period } }
                      let w := putEntry i (some (.op after)) told
                      ∃ t, Queued (w.unitFrame e.traction 0 (.check (l.check + 1) (BitVec.ofNat 8 (l.period / 100))))
                          none (.check i) w t ∧ becomes t)
                  ∧ (∀ until_, verdict = .busy → q.phase = .awaiting until_ → q.resends < 2 →
                      becomes (putEntry i (some (.op { e with req := some { q with phase := .retry (u.now + 150) } })) u))
                  ∧ (∀ until_, verdict = .busy → q.phase = .awaiting until_ → 2 ≤ q.resends →
                      becomes (requestEnds i e q 2 none u))
                  ∧ (verdict = .busy → (∀ until_, q.phase ≠ .awaiting until_) → becomes u)))

/-- A BIND-ASK at a TRACTION from an OPERATOR of its crew: a new bond takes the lowest free slot in STANDBY with a BOND
report, a known one forgets its recorded request, and the BIND-REPLY is ACCEPTED with rate, standstill and whether another
operator controls. Refusals: ROLE, CREW, FULL. A BIND-REPLY ends the ASKING entry, a BIND-ASK still waiting being withdrawn:
STANDBY with an OUTCOME report when ACCEPTED; when REFUSED the entry is removed, with an OUTCOME REFUSED that gives the
reply's reason; any other is discarded (R17, R57, R59, R60, R69). -/
def Obligations.BindFramesMakeAndEndBonds : Prop :=
  ∀ (dev stamp : Nat) (h : Header) (verdict : Verdict) (reason : Option Reason) (rate : Rate) (standstill controlled : Bool)
    (s u : State),
    (HeardAt ⟨h, .bindAsk⟩ dev stamp s u → Room u →
        let reply (why : Option Reason) (still held : Bool) (w : State) : Prop := ∃ t,
          Queued (w.unitFrame h.sender 0
              (.bindReply (if why.isSome then .refused else .accepted) why u.cfg.rate still held)) none .bindReply w t
            ∧ exec (.bindAskFrame dev h) s = .next (judgeNotice t)
        (u.isTraction = false → reply (some .role) false false u)
          ∧ (u.isTraction = true → u.peerRole h.sender ≠ some .operator →
              reply (some .role) u.still (u.heldByOther h.sender) u)
          ∧ (u.isTraction = true → u.peerRole h.sender = some .operator →
              (u.peerCrew h.sender ≠ some u.cfg.crew → reply (some .crew) u.still (u.heldByOther h.sender) u)
                ∧ (u.peerCrew h.sender = some u.cfg.crew →
                    (∀ i e, u.findTr h.sender = some (i, e) → reply none u.still (u.heldByOther h.sender)
                        (putEntry i (some (.tr { e with last := none })) u))
                      ∧ (u.trSlot h.sender = none → u.freeSlot = none →
                          reply (some .full) u.still (u.heldByOther h.sender) u)
                      ∧ (∀ i, u.trSlot h.sender = none → u.freeSlot = some i →
                          reply none u.still (u.heldByOther h.sender)
                            (raise .bond false h.sender [BitVec.ofNat 8 i.val, 2, 1] (putEntry i (some (.tr
                              { operator := h.sender, st := .standby, offered := false, last := none, sup := none
                                lostSince := none, transfer := none })) u))))))
      ∧ (HeardAt ⟨h, .bindReply verdict reason rate standstill controlled⟩ dev stamp s u →
          let becomes (t : State) : Prop :=
            exec (.bindReplyFrame dev h verdict reason rate standstill controlled) s = .next (judgeNotice t)
          (∀ i e, u.isTraction = false → u.findOp h.sender = some (i, e) → e.st = .asking →
            let gone := withoutWaiting (.request i .bindAsk 0) u
            (verdict = .accepted → becomes
                (raise .outcome false h.sender [0x10, 0, 0, 0, rateCode rate, flagCode standstill, flagCode controlled]
                  (putEntry i (some (.op { e with st := .standby, req := none })) gone)))
              ∧ (∀ r q, verdict = .refused → reason = some r → e.req = some q → q.body = .bindAsk → becomes
                  (agePeers (putEntry i none (withdrawSlot i
                    (raise .outcome false h.sender [0x10, q.seq.setWidth 8, 1, reasonCode r]
                      (putEntry i (some (.op { e with req := none })) gone)))))))
            ∧ (u.isTraction = true ∨ u.findOp h.sender = none
                ∨ (∃ i e, u.findOp h.sender = some (i, e) ∧ e.st ≠ .asking) → becomes u))

/-- A plain TAKE: refused NOT-BOUND without an entry, UNTESTED without the gate, MOVING unless TSTILL; repeated by the
operator in control (a LOST one has come back by contact) it is ACCEPTED and takes the carried period; HELD while another
operator is in control; else ACCEPTED, the entry CONTROLLING with the period and eight HEARD marks, the first period begun, a
BOND report (R77, R79). A detached transfer it completes for its target, with SETTLED COMPLETED; for another operator it is
cleared, with SETTLED LAPSED, and the entry made for its target goes (R108). A by-transfer TAKE: the same repeat, NOT-OFFERED
without a transfer to its sender, MOVING unless TSTILL, else the transfer completes: the target CONTROLLING, the CONTROLLING
holder of an attached one STANDBY and a LOST one removed with the end of LINK, the OFFER withdrawn, SETTLED COMPLETED (R105,
R106). A RELEASE: NOT-BOUND without an entry; from STANDBY refused STATE without the unbind flag, and with it the entry goes
and a transfer to it is DECLINED (R62, R82, R108); from control the transfer detaches, the entry returns to STANDBY or, with
the flag, goes, and UNATTENDED is added where none is left in control (R82, R97, R108, R116). The order of the BOND,
STOP CHANGE and FAULT reports of one event, and of its ANSWER and SETTLED in the queue, is the model's choice where no rule
states it (log 19). -/
def Obligations.TakeAndReleaseFramesGiveAndEndControl : Prop :=
  ∀ (dev stamp : Nat) (h : Header) (units : Byte) (byTransfer unbind : Bool) (s u : State), u.isTraction = true →
    (HeardAt ⟨h, .take units byTransfer⟩ dev stamp s u →
        let period := carriedPeriod units u
        let becomes (t : State) : Prop := exec (.takeFrame dev h units byTransfer) s = .next (judgeNotice t)
        let settled (i : Fin 4) (after : TrEntry) (outcome : SettledOutcome) (handing : Identity) (w : State) : Prop :=
          ∃ v t, Recorded i after h .take .accepted none w v
            ∧ Queued (v.unitFrame handing 0 (.settled outcome)) none .settled v t ∧ becomes t
        (u.findTr h.sender = none → Room u → ∃ t,
            Answered h .take .refused (some (if byTransfer then .notOffered else .notBound)) u t ∧ becomes t)
          ∧ (∀ i e, u.findTr h.sender = some (i, e) → (∀ l, e.last = some l → l.kind ≠ .take ∨ l.seq ≠ h.seq) → Room u →
              let w := contacted i e u
              let c := contactEntry e
              let refusal (r : Reason) : Prop := ∃ t, Recorded i c h .take .refused (some r) w t ∧ becomes t
              let repeated : Prop := ∃ t, Recorded i (withPeriod period c) h .take .accepted none
                  (putEntry i (some (.tr (withPeriod period c))) w) t ∧ becomes t
              let after := inControlFrom u.now period e
              let given (cause : Byte) : State :=
                raise .bond false h.sender [BitVec.ofNat 8 i.val, 4, cause] (putEntry i (some (.tr after)) u)
              (byTransfer = false →
                  (u.test.gate = false → refusal .untested)
                    ∧ (u.test.gate = true → u.still = false → refusal .moving)
                    ∧ (u.test.gate = true → u.still = true → e.st ≠ .standby → repeated)
                    ∧ (u.test.gate = true → u.still = true → e.st = .standby → u.heldByOther h.sender = true → refusal .held)
                    ∧ (u.test.gate = true → u.still = true → e.st = .standby → u.heldByOther h.sender = false →
                        (u.pendingTransfer = none → ∃ t, Recorded i after h .take .accepted none (given 5) t ∧ becomes t)
                          ∧ (∀ x, u.attached = none → u.bond.detached = some x → u.chan.queue.length < 11 →
                              (x.target = h.sender → settled i after .completed x.handing (transferGone (given 5)))
                                ∧ (x.target ≠ h.sender →
                                    settled i after .lapsed x.handing (targetGone x.target 12 (transferGone (given 5)))))))
                ∧ (byTransfer = true →
                    (e.st ≠ .standby → repeated)
                      ∧ (e.st = .standby → (∀ x, u.pendingTransfer = some x → x.target ≠ h.sender) → refusal .notOffered)
                      ∧ (∀ x, e.st = .standby → u.pendingTransfer = some x → x.target = h.sender →
                          (u.still = false → refusal .moving)
                            ∧ (u.still = true → u.chan.queue.length < 11 →
                                (u.attached = none → settled i after .completed x.handing (transferGone (given 10)))
                                  ∧ (∀ j a, u.attached = some (j, x) → j ≠ i → u.trEntry j = some a →
                                      let cleared := transferGone (given 10)
                                      let removed := raise .bond false a.operator [BitVec.ofNat 8 j.val, 0, 10]
                                        (agePeers (putEntry j none cleared))
                                      (a.st = .controlling → settled i after .completed x.handing
                                          (raise .bond false a.operator [BitVec.ofNat 8 j.val, 2, 10] (putEntry j (some (.tr
                                            { a with transfer := none, st := .standby, sup := none, lostSince := none }))
                                            cleared)))
                                        ∧ (a.st = .lost → settled i after .completed x.handing
                                            (if u.otherTr j (fun y => y.st == .lost) then removed
                                             else faultEnd .link a.operator removed))))))))
      ∧ (HeardAt ⟨h, .release unbind⟩ dev stamp s u →
          let becomes (t : State) : Prop := exec (.releaseFrame dev h unbind) s = .next (judgeNotice t)
          (u.findTr h.sender = none → Room u → ∃ t, Answered h .release .refused (some .notBound) u t ∧ becomes t)
            ∧ (∀ i e, u.findTr h.sender = some (i, e) → (∀ l, e.last = some l → l.kind ≠ .release ∨ l.seq ≠ h.seq) → Room u →
                let gone (w : State) : State :=
                  raise .bond false h.sender [BitVec.ofNat 8 i.val, 0, 2] (agePeers (putEntry i none w))
                (e.st = .standby →
                    (unbind = false → ∃ t, Recorded i e h .release .refused (some .state) u t ∧ becomes t)
                      ∧ (unbind = true →
                          ((∀ x, (gone u).pendingTransfer = some x → x.target ≠ h.sender) →
                              ∃ t, Answered h .release .accepted none (gone u) t ∧ becomes t)
                            ∧ (∀ x, (gone u).pendingTransfer = some x → x.target = h.sender → u.chan.queue.length < 11 → ∃ v t,
                                Answered h .release .accepted none (transferGone (gone u)) v
                                  ∧ Queued (v.unitFrame x.handing 0 (.settled .declined)) none .settled v t ∧ becomes t)))
                  ∧ (e.st = .controlling ∨ e.st = .lost →
                      let c := contactEntry e
                      let w := transferDetached i c (contacted i e u)
                      let after : TrEntry := { c with st := .standby, sup := none, lostSince := none, transfer := none }
                      let back := raise .bond false h.sender [BitVec.ofNat 8 i.val, 2, 6] (putEntry i (some (.tr after)) w)
                      let unattended (x : State) : State :=
                        if u.otherTr i inControl then x else changeCauses causeUnattended 0 h.sender x
                      (unbind = false → ∃ t, Recorded i after h .release .accepted none (unattended back) t ∧ becomes t)
                        ∧ (unbind = true → ∃ t, Answered h .release .accepted none (unattended (gone w)) t ∧ becomes t))))

/-- A HANDOVER from the CONTROLLING operator to an OPERATOR of the crew: the target is ensured as a peer, and one with no
entry takes the lowest free slot with offered set, while one already bound keeps its entry; a transfer of 15 s is written,
the ANSWER and the first OFFER are queued. It is BUSY while a transfer is pending, refused CREW for an unfit target and FULL
without a slot; from a LOST or a STANDBY operator, or one without an entry, it is refused STATE, HELD or NOT-BOUND, and it is
no contact (R99, R100). -/
def Obligations.HandoverFrameWritesATransfer : Prop :=
  ∀ (dev stamp : Nat) (h : Header) (target : Identity) (s u : State),
    HeardAt ⟨h, .handover target⟩ dev stamp s u → u.isTraction = true →
    let becomes (t : State) : Prop := exec (.handoverFrame dev h target) s = .next (judgeNotice t)
    (u.findTr h.sender = none → Room u → ∃ t,
        Answered h .handover .refused (some (if u.heldByOther h.sender then .held else .notBound)) u t ∧ becomes t)
      ∧ (∀ i e, u.findTr h.sender = some (i, e) → (∀ l, e.last = some l → l.kind ≠ .handover ∨ l.seq ≠ h.seq) → Room u →
          let refusal (r : Reason) : Prop := ∃ t, Recorded i e h .handover .refused (some r) u t ∧ becomes t
          let fit : Prop := target ≠ h.sender ∧ u.peerRole target = some .operator ∧ u.peerCrew target = some u.cfg.crew
          (e.st ≠ .controlling → refusal (if u.heldByOther h.sender then .held else .state))
            ∧ (e.st = .controlling → u.pendingTransfer.isSome = true → ∃ t, Answered h .handover .busy none u t ∧ becomes t)
            ∧ (e.st = .controlling → u.pendingTransfer = none →
                (¬ fit → refusal .crew)
                  ∧ (fit → u.trSlot target = none → u.freeSlot = none → refusal .full)
                  ∧ (fit → u.chan.queue.length < 11 →
                      let transfer : Transfer :=
                        { target := target, handing := h.sender, expiry := u.now + 15000, nextOffer := none }
                      let sent (w : State) : Prop := ∃ v t,
                        Recorded i { e with transfer := some transfer } h .handover .accepted none
                            (putEntry i (some (.tr { e with transfer := some transfer })) w) v
                          ∧ Queued (v.unitFrame target 0 (.offer h.sender 15)) none .offer v t ∧ becomes t
                      (∀ j x, u.findTr target = some (j, x) → sent u)
                        ∧ (∀ j, u.trSlot target = none → u.freeSlot = some j →
                            sent (raise .bond false target [BitVec.ofNat 8 j.val, 2, 11] (putEntry j (some (.tr
                              { operator := target, st := .standby, offered := true, last := none, sup := none
                                lostSince := none, transfer := none })) u))))))

/-- An OFFER at an operator, from a TRACTION of the crew: a new entry, or a STANDBY one without a request, becomes OFFERED
until the stamp plus the seconds carried, the handing operator ensured as a peer once the entry names, and pins, its traction, with BOND and OFFER reports; an OFFERED one
is renewed, and another handing operator is told in an OFFER report; one TAKING by transfer discards it; any other refuses it
STATE; refused ROLE, CREW or FULL. A SETTLED frame clears the handing mark, COMPLETED returns a bond in control to STANDBY,
from SILENT with the end of LINK where no other is SILENT, and the host is told (R42, R101, R110, R96). That a SETTLED whose
sender no entry names is reported whatever that sender's role is the model's choice (log 23), and so is that a handing
operator whose identity is this station's own is ensured too (log 37). -/
def Obligations.OfferAndSettledFrames : Prop :=
  ∀ (dev stamp : Nat) (h : Header) (controller : Identity) (seconds : Byte) (outcome : SettledOutcome) (s u : State),
    (HeardAt ⟨h, .offer controller seconds⟩ dev stamp s u →
        let becomes (t : State) : Prop := exec (.offerFrame dev h controller seconds) s = .next (judgeNotice t)
        let refusal (r : Reason) : Prop := Room u → ∃ t,
          Queued (u.unitFrame h.sender 0 (.answer .offer 0 .refused (some r))) none .answer u t ∧ becomes t
        let offer_ (made : Bool) : Offer :=
          { controller := controller, expiry := stamp + seconds.toNat * 1000, madeForOffer := made }
        let toldOffer (i : Fin 4) (w : State) : State :=
          raise .offer false h.sender (identityBytes controller ++ [seconds, BitVec.ofNat 8 i.val]) w
        let told (i : Fin 4) (w : State) : State :=
          toldOffer i (raise .bond false h.sender [BitVec.ofNat 8 i.val, 6, 11] w)
        (u.isOperator = false ∨ u.peerRole h.sender ≠ some .traction → refusal .role)
          ∧ (u.isOperator = true → u.peerRole h.sender = some .traction →
              (u.peerCrew h.sender ≠ some u.cfg.crew → refusal .crew)
                ∧ (u.peerCrew h.sender = some u.cfg.crew →
                    (u.findOp h.sender = none → u.freeSlot = none → refusal .full)
                      ∧ (∀ i, u.findOp h.sender = none → u.freeSlot = some i →
                          let made (o : Option Offer) : OpEntry :=
                            { traction := h.sender, st := .offered, nextSeq := 0, req := none, link := none, sup := none
                              offer := o, handing := none }
                          let named := putEntry i (some (.op (made none))) u
                          becomes (told i
                            (putEntry i (some (.op (made (some (offer_ true))))) (ensurePeer controller named))))
                      ∧ (∀ i e, u.findOp h.sender = some (i, e) →
                          let byTransfer : Prop := e.st = .taking ∧ ∃ q period, e.req = some q ∧ q.body = .take true period
                          (∀ o, e.st = .offered → e.offer = some o →
                              let renewed := agePeers (putEntry i
                                (some (.op { e with offer := some (offer_ o.madeForOffer) })) (ensurePeer controller u))
                              becomes (if o.controller = controller then renewed else toldOffer i renewed))
                            ∧ (byTransfer → becomes u)
                            ∧ (e.st = .standby → e.req = none →
                                becomes (told i (putEntry i (some (.op { e with st := .offered, offer := some (offer_ false) }))
                                  (ensurePeer controller u))))
                            ∧ (e.st ≠ .offered → ¬ byTransfer → ¬ (e.st = .standby ∧ e.req = none) → refusal .state)))))
      ∧ (HeardAt ⟨h, .settled outcome⟩ dev stamp s u →
          let becomes (t : State) : Prop := exec (.settledFrame dev h outcome) s = .next (judgeNotice t)
          (u.isOperator = false → becomes u)
            ∧ (u.isOperator = true → u.findOp h.sender = none →
                becomes (raise .settled false h.sender [settledCode outcome, 0xFF] u))
            ∧ (∀ i e, u.isOperator = true → u.findOp h.sender = some (i, e) →
                let cleared := agePeers (putEntry i (some (.op { e with handing := none })) u)
                let commanding : Prop := e.st = .controlling ∨ e.st = .silent
                let told (w : State) : State := raise .settled false h.sender [settledCode outcome, BitVec.ofNat 8 i.val] w
                (outcome ≠ .completed ∨ ¬ commanding → becomes (told cleared))
                  ∧ (outcome = .completed → commanding →
                      let w := raise .bond false h.sender [BitVec.ofNat 8 i.val, 2, 10]
                        (putEntry i (some (.op { e with handing := none, st := .standby, link := none, sup := none }))
                          (withdrawChecks i cleared))
                      becomes (told (if e.st = .silent ∧ u.otherOp i (fun x => x.st == .silent) = false then
                        faultEnd .link e.traction w else w)))))

/-- A HALT that passes the screen. A new authorized one: the pair is remembered, the earliest of a full memory first making
room, its relay withdrawn; an urgent HALT HEARD report is made, a TRACTION adds the cause of its scope, relays an original
yard halt once, 20 to 100 ms later, and the floor is told; without authority only an AUTHORITY report. A known authorized
pair only tells the floor, but that a relay of it withdraws a relay still waiting, whose state turns NONE. One screened out
does nothing (R122 to R129) beyond what its hearing did: that this includes last activity and the withdrawal of a DORMANT notice
is the model's choice (log 38). What the halt notice does to the floor: a spurt in TALKING ends OVERRIDDEN, with its FLOOR
report before the SPURT END; a claim still waiting is withdrawn with a FLOOR report, one on air will end OVERRIDDEN; any other
floor stays (R149, R153). -/
def Obligations.HaltFrameIsScreenedAndActedOn : Prop :=
  (∀ (dev stamp : Nat) (h : Header) (originator : Identity) (number copy : Byte) (relay : Bool) (s u : State),
    HeardAt ⟨h, .halt originator number copy relay⟩ dev stamp s u →
    let becomes (t : State) : Prop := exec (.haltFrame dev h originator number copy relay) s = .next (judgeNotice t)
    let screened := (relay = false ∧ originator ≠ h.sender) ∨ (relay = true ∧ u.peerRole h.sender ≠ some .traction)
      ∨ originator = u.unitId
    let authorized := h.mode ≠ .yard ∨ relay = true ∨ h.authority = true
    let pair (queued : Bool) : HaltEntry :=
      { originator := originator, number := number, firstHeard := u.now, relayQueued := queued }
    let scope : Scope := if h.mode = .yard then .yard else .crew
    let noRelay (w : State) : State := { w with halt := { w.halt with memory := w.halt.memory.map (fun x =>
      if pairIs originator number x then { x with relayQueued := false } else x) } }
    (screened → becomes u)
      ∧ (∀ e, ¬ screened → u.haltEntry originator number = some e →
          (¬ authorized → becomes u)
            ∧ (authorized → relay = false ∨ e.relayQueued = false → becomes (haltNotice offer u))
            ∧ (relay = true → e.relayQueued = true →
                ((∃ x ∈ u.chan.queue, x.tag = .relay originator number ∧ x.onAir = false) →
                    becomes (haltNotice offer (noRelay (withoutWaiting (.relay originator number) u))))
                  ∧ (NoneWaits (.relay originator number) u →
                      becomes (haltNotice offer (withdraw (.relay originator number) u)))))
      ∧ (¬ screened → u.haltEntry originator number = none →
          let enters (base : State) : Prop :=
            let known : State := { base with halt := { base.halt with memory := base.halt.memory ++ [pair false] } }
            let told := raise .haltHeard true originator
              ([number, scopeCode scope, copy, flagCode relay] ++ identityBytes h.sender) known
            let stopped := changeCauses (match scope with | .crew => causeCrewHalt | .yard => causeYardHalt) 0 originator told
            (¬ authorized → becomes (raise .authority false originator (number :: identityBytes h.sender) known))
              ∧ (authorized →
                  (u.isTraction = false → becomes (haltNotice offer told))
                    ∧ (u.isTraction = true → h.mode ≠ .yard ∨ relay = true → becomes (haltNotice offer stopped))
                    ∧ (u.isTraction = true → h.mode = .yard → relay = false → Room u → ∃ delay v,
                        (delay = 20 ∨ delay = 40 ∨ delay = 60 ∨ delay = 80 ∨ delay = 100)
                          ∧ Queued (u.yardFrame (.halt originator number 0 true)) (some (u.now + delay))
                              (.relay originator number) { stopped with draws := u.draws + 1 } v
                          ∧ becomes (haltNotice offer
                              { v with halt := { v.halt with memory := known.halt.memory.map (fun x =>
                                  if pairIs originator number x then { x with relayQueued := true } else x) } })))
          (u.halt.memory.length < 8 → enters u)
            ∧ (∀ pre e post, 8 ≤ u.halt.memory.length → u.halt.memory = pre ++ e :: post →
                (∀ x ∈ pre, e.firstHeard < x.firstHeard) → (∀ x ∈ post, e.firstHeard ≤ x.firstHeard) →
                let others := u.halt.memory.filter (fun x => !pairIs e.originator e.number x)
                let rest : State := { u with halt := { u.halt with memory := others } }
                enters (if e.relayQueued then withdraw (.relay e.originator e.number) rest else rest))))
    ∧ (∀ u : State,
        let overridden (scope : Scope) (w : State) : State := raise .floor false noSubject [3, scopeCode scope] w
        (u.floor.st = .free ∨ (∃ r, u.floor.st = .held r) → haltNotice offer u = u)
          ∧ (∀ scope cause, u.floor.st = .claiming scope (some cause) → haltNotice offer u = u)
          ∧ (∀ sp cause offered left, u.floor.st = .own sp → sp.phase = .clearing cause offered left → haltNotice offer u = u)
          ∧ (∀ scope, u.floor.st = .claiming scope none → (∃ x ∈ u.chan.queue, x.tag = .claim ∧ x.onAir = false) →
              haltNotice offer u
                = overridden scope { withoutWaiting .claim u with floor := { u.floor with st := .free } })
          ∧ (∀ scope, u.floor.st = .claiming scope none → (∃ x ∈ u.chan.queue, x.tag = .claim ∧ x.onAir = true) →
              (∀ x ∈ u.chan.queue, x.tag = .claim → x.onAir = true) →
              haltNotice offer u
                = { withdraw .claim u with floor := { u.floor with st := .claiming scope (some .overridden) } })
          ∧ (∀ sp, u.floor.st = .own sp → sp.phase = .talking →
              let ended (offered : Bool) (w : State) : State := { w with floor := { u.floor with
                st := .own { sp with phase := .clearing .overridden offered u.floor.outlet.length, assembly := [] }
                outlet := [] } }
              (u.voiceOnAir = true → haltNotice offer u = ended false (overridden sp.scope u))
                ∧ (u.voiceOnAir = false → Room u → ∃ v,
                    Queued (u.scopeFrame sp.scope (.clear (BitVec.ofNat 8 sp.sent))) none .clear (overridden sp.scope u) v
                      ∧ haltNotice offer u = raise .spurtEnd false noSubject
                          [3, scopeCode sp.scope, BitVec.ofNat 8 sp.sent, BitVec.ofNat 8 sp.discarded,
                           BitVec.ofNat 8 u.floor.outlet.length] (ended true v))))

/-- A CLAIM or a VOICE on a FREE floor makes it HELD by its sender from this moment; the talker's renew it, a lower identity
takes it over and empties the playout, a higher one changes nothing; a VOICE to the yard or the own crew enters the playout
buffer. While CLAIMING the own claim is withdrawn, the sender holds the floor and FLOOR TAKEN is reported. In TALKING a lower
identity takes the floor, with FLOOR and SPURT END reports; in CLEARING any does, and a CLEAR offered is withdrawn. The
talker's CLEAR frees a HELD floor (R144, R145, R147, R148, R155). That a block number 128 or more ahead counts no missed
block is the model's choice (log 16). -/
def Obligations.FloorFramesFollowTheLowestTalker : Prop :=
  ∀ (c : Instr) (dev stamp : Nat) (h : Header) (scope : Scope) (sent number : Byte) (block : List CodecFrame) (b : Body)
    (speech : Option (Byte × List CodecFrame)) (s u : State),
    ((b = .claim scope ∧ c = .claimFrame dev h scope ∧ speech = none)
      ∨ (b = .voice number block ∧ c = .voiceFrame dev h number block ∧ speech = some (number, block))) →
    (HeardAt ⟨h, b⟩ dev stamp s u →
        let played (f : Floor) : Floor := match speech with
          | some (_, x) => if h.mode = .yard ∨ (h.mode = .crew ∧ h.dest = u.cfg.crew.setWidth 24) then
              (if f.playout.length < 3 then { f with playout := f.playout ++ [x] }
               else { f with playout := f.playout.drop 1 ++ [x], playPos := 0 }) else f
          | none => f
        let taken_ : FloorState := .held { talker := h.sender, taken := u.now, last := speech.map Prod.fst, missed := 0 }
        (u.floor.st = .free → exec c s = .next (judgeNotice { u with floor := played { u.floor with st := taken_ } }))
          ∧ (∀ r, u.floor.st = .held r → h.sender.toNat < r.talker.toNat → exec c s = .next (judgeNotice
              { u with floor := played { u.floor with st := taken_, playout := [], playPos := 0 } }))
          ∧ (∀ r, u.floor.st = .held r → r.talker.toNat < h.sender.toNat → exec c s = .next (judgeNotice u))
          ∧ (∀ r, u.floor.st = .held r → h.sender = r.talker → speech = none → exec c s = .next (judgeNotice
              { u with floor := { u.floor with st := .held { r with taken := u.now } } }))
          ∧ (∀ r n x, u.floor.st = .held r → h.sender = r.talker → speech = some (n, x) →
              let skipped := match r.last with
                | some last => let ahead := (n - last).toNat; if ahead = 0 ∨ 128 ≤ ahead then 0 else ahead - 1
                | none => 0
              let renewed : Held := { r with
                taken := u.now, last := some n
                missed := if r.last = none then r.missed else min 255 (r.missed + skipped) }
              exec c s = .next (judgeNotice { u with floor := played { u.floor with st := .held renewed } }))
          ∧ (∀ claimed end_, u.floor.st = .claiming claimed end_ →
              let w := withdraw .claim u
              let t := raise .floor false h.sender [1, scopeCode claimed] { w with floor := { w.floor with st := taken_ } }
              exec c s = .next (judgeNotice { t with floor := played t.floor }))
          ∧ (∀ sp, u.floor.st = .own sp → sp.phase = .talking → u.unitId.toNat < h.sender.toNat →
              exec c s = .next (judgeNotice u))
          ∧ (∀ sp, u.floor.st = .own sp → sp.phase = .talking → h.sender.toNat < u.unitId.toNat →
              let t := raise .spurtEnd false h.sender
                [4, scopeCode sp.scope, BitVec.ofNat 8 sp.sent, BitVec.ofNat 8 sp.discarded, BitVec.ofNat 8 u.floor.outlet.length]
                (raise .floor false h.sender [2, scopeCode sp.scope]
                  { u with floor := { u.floor with st := taken_, outlet := [] } })
              exec c s = .next (judgeNotice { t with floor := played t.floor }))
          ∧ (∀ sp cause offered left, u.floor.st = .own sp → sp.phase = .clearing cause offered left →
              let w := if offered then withdraw .clear u else u
              exec c s = .next (judgeNotice { w with floor := played { w.floor with st := taken_ } })))
      ∧ (HeardAt ⟨h, .clear sent⟩ dev stamp s u →
          (∀ r, u.floor.st = .held r → h.sender = r.talker →
              exec (.clearFrame dev h sent) s = .next (judgeNotice { u with floor := { u.floor with st := .free } }))
            ∧ (∀ r, u.floor.st = .held r → h.sender ≠ r.talker → exec (.clearFrame dev h sent) s = .next (judgeNotice u))
            ∧ (u.floor.st = .free ∨ (∃ x y, u.floor.st = .claiming x y) ∨ (∃ x, u.floor.st = .own x) →
                exec (.clearFrame dev h sent) s = .next (judgeNotice u)))

/-- A NOTE is reported with its mode, length and text. A PROBE is answered by an ECHO with the PROBE's quality class, the own
rate and the pattern. An ECHO of the awaited target and pattern ends the probe with its round trip; any other is reported
UNMATCHED. PRESENT and DORMANT are reported (R8, R48, R50, R166, R184). -/
def Obligations.NoteProbeEchoAndPresenceFrames : Prop :=
  ∀ (dev stamp : Nat) (h : Header) (text pattern : List Byte) (quality : Byte) (rate : Rate) (s u : State),
    (HeardAt ⟨h, .note text⟩ dev stamp s u → u.host.reports.length < 24 → ∃ t,
        exec (.noteFrame dev h text) s = .next (judgeNotice t)
          ∧ t = { u with host := { u.host with srq := t.host.srq, reports := u.host.reports ++
              [{ kind := .note, urgent := false, lostBefore := false, time := u.now, subject := h.sender
                 detail := [(modeCode h.mode).setWidth 8, BitVec.ofNat 8 text.length], text := text, entryTime := u.now }] } })
      ∧ (HeardAt ⟨h, .probe pattern⟩ dev stamp s u → Room u → ∃ t,
          Queued (u.unitFrame h.sender 0 (.echo (BitVec.ofNat 8 (7 - dev)) u.cfg.rate pattern)) none .echo u t
            ∧ exec (.probeFrame dev h pattern) s = .next (judgeNotice t))
      ∧ (HeardAt ⟨h, .echo quality rate pattern⟩ dev stamp s u →
          (∀ sentAt, u.peers.probe = .awaiting h.sender pattern sentAt →
              exec (.echoFrame dev h quality rate pattern) s = .next (judgeNotice (raiseAt stamp .echo false h.sender
                ([0, quality, rateCode rate, BitVec.ofNat 8 (7 - dev)] ++ be16 (stamp - sentAt))
                { u with peers := { u.peers with probe := .none } })))
            ∧ ((∀ sentAt, u.peers.probe ≠ .awaiting h.sender pattern sentAt) →
              exec (.echoFrame dev h quality rate pattern) s = .next (judgeNotice (raiseAt stamp .echo false h.sender
                [1, quality, rateCode rate, BitVec.ofNat 8 (7 - dev), 0, 0] u))))
      ∧ (HeardAt ⟨h, .present⟩ dev stamp s u →
          exec (.presentFrame dev h) s = .next (judgeNotice (raise .dormancy false h.sender [5, 0] u)))
      ∧ (HeardAt ⟨h, .dormant⟩ dev stamp s u →
          exec (.dormantFrame dev h) s = .next (judgeNotice (raise .dormancy false h.sender [4, 0] u)))

/-! ## The station's own events -/

/-- A wait that has run out, for a BIND-REPLY, for an ANSWER or after a BUSY, sends the request again under its sequence while
its count is below 2, and ends it with an OUTCOME NO-ANSWER at 2: a BIND removes the entry, so does a RELEASE with the unbind
flag, a TAKE brings back STANDBY, a RELEASE leaves control, a HANDOVER clears the handing mark, a MOVE or a RESUME no more
(R56, R63, R69, R72, R73, R80, R83, R109). A request frame dropped in QUEUED acts at once in the same way, and a queue that
keeps refusing uses the resends up without delay (R58, R74). That an expiry before the end of its wait changes nothing is
the model's choice (log 3). -/
def Obligations.RequestWaitsResendOrEnd : Prop :=
  ∀ (i : Fin 4) (e : OpEntry) (q : Request) (s : State), s.opEntry i = some e → e.req = some q →
    (∀ (c : Instr) (end_ : Nat),
      ((c = .bindWaitExpiry i ∧ q.body = .bindAsk ∧ q.phase = .awaiting end_)
        ∨ (c = .answerWaitExpiry i ∧ q.body ≠ .bindAsk ∧ q.phase = .awaiting end_)
        ∨ (c = .retryWaitExpiry i ∧ q.phase = .retry end_)) →
      (s.now < end_ → exec c s = .next s)
        ∧ (end_ ≤ s.now → q.resends < 2 → Room s → ∃ t, Resent i e q s t ∧ exec c s = .next t)
        ∧ (end_ ≤ s.now → 2 ≤ q.resends ∨ (¬ Room s ∧ kindClass (reqKind q.body) = .c2) →
            exec c s = .next (requestEnds i e q 2 none s)))
      ∧ (∀ off : Offering,
          let tag : OwnerTag := .request i (reqKind q.body) q.seq
          let again := putEntry i (some (.op { e with req := some { q with resends := q.resends + 1, phase := .queued } })) s
          (q.phase = .queued → q.resends < 2 →
              (∀ t, off (s.requestFrame e.traction q.seq q.body) none tag again = some t → ownerDropped off tag s = t)
                ∧ (off (s.requestFrame e.traction q.seq q.body) none tag again = none →
                    ownerDropped off tag s = ownerDropped off tag again))
            ∧ (q.phase = .queued → 2 ≤ q.resends → ownerDropped off tag s = requestEnds i e q 2 none s)
            ∧ (q.phase ≠ .queued → ownerDropped off tag s = s))

/-- The periods of a bond. At the operator's due time the period closes with its mark, the loss rule turns CONTROLLING to
SILENT with an urgent BOND report and LINK, and the next CHECK is queued, or takes the place of the previous one where that
still waits. At the traction's close the same rule turns CONTROLLING to LOST with LINK-LOST; 60 s later the entry is removed,
its transfer detached, UNATTENDED is added where no other is in control, and LINK ends. A STANDBY entry goes after 600 s of
silence (R64, R77, R89, R91, R94, R95, R97, R116). The order of the STOP CHANGE, FAULT and BOND reports of one event is the
model's choice (log 19). -/
def Obligations.SupervisionClosesPeriodsAndAbandons : Prop :=
  ∀ (i : Fin 4) (s : State),
    let marked (history : List Mark) (heard : Bool) : List Mark := history.drop 1 ++ [if heard then .heard else .missed]
    let lost (history : List Mark) : Prop := 5 ≤ history.count .missed ∨ history.drop 5 = [.missed, .missed, .missed]
    (∀ e p l, s.opEntry i = some e → e.sup = some p → e.link = some l → p.due ≤ s.now →
        let history := marked p.history p.heard
        let after (st : OpState) : OpEntry := { e with
          st := st, link := some { l with check := l.check + 1 }
          sup := some { history := history, heard := false, due := p.due + l.period } }
        let frame := s.unitFrame e.traction 0 (.check (l.check + 1) (BitVec.ofNat 8 (l.period / 100)))
        let previous (x : QEntry) : Bool := x.tag == .check i && !x.onAir
          && (match x.frame.body with | .check n _ => n == l.check | _ => false)
        let made (w : State) : Prop :=
          ((∀ x ∈ s.chan.queue, previous x = false) → Room s →
              ∃ t, Queued frame none (.check i) w t ∧ exec (.checkDue i) s = .next t)
            ∧ ((∃ x ∈ s.chan.queue, previous x = true) → exec (.checkDue i) s = .next
                { w with chan := { s.chan with queue := s.chan.queue.map (fun x =>
                    if previous x then { x with frame := frame, needsWake := x.needsWake || s.wakeNeeded frame } else x) } })
        (e.st = .controlling ∨ e.st = .silent → ¬ (e.st = .controlling ∧ lost history) →
            made (putEntry i (some (.op (after e.st))) s))
          ∧ (e.st = .controlling → lost history →
              let told := raise .bond true e.traction [BitVec.ofNat 8 i.val, 5, 7] (putEntry i (some (.op (after .silent))) s)
              made (if s.otherOp i (fun x => x.st == .silent) then told else faultLive .link e.traction told)))
      ∧ (∀ e p, s.trEntry i = some e → e.sup = some p → p.closeAt ≤ s.now →
          let history := marked p.history p.heard
          let sup : TrSup := { p with history := history, heard := false, closeAt := p.closeAt + p.period }
          (e.st = .controlling ∨ e.st = .lost → ¬ (e.st = .controlling ∧ lost history) →
              exec (.periodClose i) s = .next (putEntry i (some (.tr { e with sup := some sup })) s))
            ∧ (e.st = .controlling → lost history →
                let w := changeCauses causeLinkLost 0 e.operator
                  (putEntry i (some (.tr { e with sup := some sup, st := .lost, lostSince := some s.now })) s)
                exec (.periodClose i) s = .next (raise .bond true e.operator [BitVec.ofNat 8 i.val, 7, 7]
                  (if s.otherTr i (fun x => x.st == .lost) then w else faultLive .link e.operator w))))
      ∧ (∀ e since, s.trEntry i = some e → e.st = .lost → e.lostSince = some since → since + 60000 ≤ s.now →
          let gone := raise .bond false e.operator [BitVec.ofNat 8 i.val, 0, 9]
            (agePeers (putEntry i none (transferDetached i e s)))
          let w := if s.otherTr i inControl then gone else changeCauses causeUnattended 0 e.operator gone
          exec (.abandon i) s = .next
            (if s.otherTr i (fun x => x.st == .lost) then w else faultEnd .link e.operator w))
      ∧ (∀ e p, s.trEntry i = some e → e.st = .standby → s.peer e.operator = some p → heardBase p + 600000 ≤ s.now →
          let gone := raise .bond false e.operator [BitVec.ofNat 8 i.val, 0, 3] (agePeers (putEntry i none s))
          ((∀ x, gone.pendingTransfer = some x → x.target ≠ e.operator) → exec (.standbyAgeOut i) s = .next gone)
            ∧ (∀ x, gone.pendingTransfer = some x → x.target = e.operator → Room s → ∃ t,
                Queued (s.unitFrame x.handing 0 (.settled .declined)) none .settled (transferGone gone) t
                  ∧ exec (.standbyAgeOut i) s = .next t))

/-- A pending transfer, attached or detached. Its next OFFER is queued with the whole seconds left while at least 2 s are
left. At its expiry it is cleared, an OFFER of it still waiting is withdrawn, a SETTLED LAPSED goes to the handing operator,
and the target's entry is removed if it was made for the transfer and stays if it was bound before. An OFFERED entry at its
expiry is removed if it was made for the offer and returns to STANDBY otherwise, with a BOND report (R97, R100, R102,
R107). -/
def Obligations.TransfersAndOffersRunOut : Prop :=
  ∀ (i : Fin 4) (s : State),
    (∀ x, s.pendingTransfer = some x →
        (∀ due, x.nextOffer = some due → due ≤ s.now →
            (s.now + 2000 ≤ x.expiry → Room s → ∃ t,
                Queued (s.unitFrame x.target 0 (.offer x.handing (BitVec.ofNat 8 ((x.expiry - s.now) / 1000)))) none .offer
                    (transferBecomes { x with nextOffer := none } s) t ∧ exec .offerRepeat s = .next t)
              ∧ (x.expiry < s.now + 2000 →
                  exec .offerRepeat s = .next (transferBecomes { x with nextOffer := none } s)))
          ∧ (x.expiry ≤ s.now → Room s → ∃ t,
              Queued (s.unitFrame x.handing 0 (.settled .lapsed)) none .settled (transferGone s) t
                ∧ exec .transferLapse s = .next (targetGone x.target 12 t)
                ∧ (s.findTr x.target = none → exec .transferLapse s = .next t)
                ∧ (∀ e, s.findTr x.target = some (i, e) → e.offered = false → exec .transferLapse s = .next t)
                ∧ (∀ e, s.findTr x.target = some (i, e) → e.st = .standby → e.offered = true →
                    exec .transferLapse s = .next
                      (raise .bond false x.target [BitVec.ofNat 8 i.val, 0, 12] (agePeers (putEntry i none t))))))
      ∧ (∀ e o, s.opEntry i = some e → e.st = .offered → e.offer = some o → o.expiry ≤ s.now →
          exec (.offerExpiry i) s = .next (if o.madeForOffer then
              raise .bond false e.traction [BitVec.ofNat 8 i.val, 0, 12] (agePeers (putEntry i none s))
            else raise .bond false e.traction [BitVec.ofNat 8 i.val, 2, 12]
              (agePeers (putEntry i (some (.op { e with st := .standby, offer := none })) s))))

/-- Times that run out in the peer table, the fault monitor, the halt memory, the floor and the report queue: DISAGREE 30 s
after a true input, an unpinned peer after 300 s, a probe SILENT after 2 s, a halt pair after 5 s, a held floor after
1500 ms, SRQ as its rule gives it (R43, R49, R122, R146, R173, R187). That FLOOR_TIMEOUT before the 1500 ms changes nothing
is the model's choice (log 3). -/
def Obligations.StationTimesRunOut : Prop :=
  ∀ s : State,
    (∀ since, s.port.disagree = true → s.isLive .disagree = false → s.fault.timer = some since → since + 30000 ≤ s.now →
        exec .disagreeTimeout s = .next (faultLive .disagree noSubject s))
      ∧ (∀ p ∈ s.peers.entries, s.pinned p.id = false → heardBase p + 300000 ≤ s.now →
          (∀ q ∈ s.peers.entries, q.id = p.id → q = p) → exec (.peerAgeOut p.id) s = .next
            { s with peers := { s.peers with entries := s.peers.entries.filter (fun q => q.id != p.id) } })
      ∧ (∀ target pattern sentAt, s.peers.probe = .awaiting target pattern sentAt → sentAt + 2000 ≤ s.now →
          exec .probeTimeout s = .next (raise .echo false target [2] { s with peers := { s.peers with probe := .none } }))
      ∧ (∀ originator number e, s.haltEntry originator number = some e → e.firstHeard + 5000 ≤ s.now →
          let rest := s.halt.memory.filter (fun x => !(x.originator == originator && x.number == number))
          let gone : State := { s with halt := { s.halt with memory := rest } }
          exec (.haltMemoryExpiry originator number) s
            = .next (if e.relayQueued then withdraw (.relay originator number) gone else gone))
      ∧ (∀ h, s.floor.st = .held h →
          (h.taken + 1500 ≤ s.now → exec .floorTimeout s = .next { s with floor := { s.floor with st := .free } })
            ∧ (s.now < h.taken + 1500 → exec .floorTimeout s = .next s))
      ∧ (∃ t, exec .reportTimeout s = .next t ∧ t = { s with host := { s.host with srq := t.host.srq } }
          ∧ (t.host.srq = true ↔ s.cfg.threshold ≤ s.host.reports.length
              ∨ (∃ r, s.host.reports.head? = some r ∧ r.entryTime + s.cfg.timeout ≤ s.now)
              ∨ ∃ r ∈ s.host.reports, r.urgent = true))

/-- A frame boundary comes every 20 ms. In TALKING the codec frame of the 20 ms joins the block under assembly, its tenth
completes a block, and a full outlet loses its oldest block, counted. The next 20 ms of output carry the next codec frame
of the oldest playout block, whose tenth retires it, or the silence frame (R150, R151, R156). -/
def Obligations.AudioBoundariesAssembleAndPlay : Prop :=
  ∀ (codec : CodecFrame) (due : Nat) (s : State), s.floor.boundary = some due → due ≤ s.now →
    let next (f : Floor) : Floor := { f with boundary := some (due + 20) }
    (s.floor.st = .free ∨ (∃ h, s.floor.st = .held h) ∨ (∃ x y, s.floor.st = .claiming x y) →
        (s.floor.playout = [] → s.floor.playPos < 10 → exec (.audioFrameBoundary codec) s
            = .next { s with floor := next { s.floor with ado := some 0 } })
          ∧ (∀ b rest, s.floor.playout = b :: rest → s.floor.playPos < 10 → exec (.audioFrameBoundary codec) s
              = .next { s with floor := next { s.floor with ado := some (b.getD s.floor.playPos 0)
                                                            playPos := s.floor.playPos + 1 } })
          ∧ (∀ b c rest, s.floor.playout = b :: c :: rest → 10 ≤ s.floor.playPos → exec (.audioFrameBoundary codec) s
              = .next { s with floor := next { s.floor with playout := c :: rest, ado := some (c.getD 0 0), playPos := 1 } })
          ∧ (∀ b, s.floor.playout = [b] → 10 ≤ s.floor.playPos → exec (.audioFrameBoundary codec) s
              = .next { s with floor := next { s.floor with playout := [], ado := some 0, playPos := 0 } }))
      ∧ (∀ sp, s.floor.st = .own sp → sp.phase = .talking → s.floor.playout = [] → s.floor.playPos < 10 →
          (sp.started = false → exec (.audioFrameBoundary codec) s
              = .next { s with
                  floor := next { s.floor with st := .own { sp with started := true }, ado := some 0 } })
            ∧ (sp.started = true → sp.assembly.length < 9 → exec (.audioFrameBoundary codec) s
                = .next { s with
                    floor := next { s.floor with st := .own { sp with assembly := sp.assembly ++ [codec] }, ado := some 0 } })
            ∧ (sp.started = true → sp.assembly.length = 9 →
                let block : VoiceBlock := { number := sp.nextNo, frames := sp.assembly ++ [codec] }
                let begun : Spurt := { sp with nextNo := sp.nextNo + 1, assembly := [] }
                (s.floor.outlet.length < 2 → exec (.audioFrameBoundary codec) s
                    = .next { s with
                        floor := next { s.floor with st := .own begun, outlet := s.floor.outlet ++ [block], ado := some 0 } })
                  ∧ (2 ≤ s.floor.outlet.length → exec (.audioFrameBoundary codec) s
                      = .next { s with
                          floor := next { s.floor with st := .own { begun with discarded := min 255 (sp.discarded + 1) }
                                                       outlet := s.floor.outlet.drop 1 ++ [block], ado := some 0 } })))

/-- The DORMANT notice is queued when the dormancy delay has passed since the last activity of an OPERATOR or ASSIST station
in ACTIVE that rests: bonds in STANDBY without a request, queue empty, floor FREE, no probe, no own halt, no test. A sniff
window of 60 ms opens every 1000 ms in DORMANT; at its close a hunt still LOCKING is dropped (R161, R164, R7). That
SNIFF_WINDOW_OPEN before its time changes nothing is the model's choice (log 3). -/
def Obligations.DormancyNoticeAndSniffWindows : Prop :=
  ∀ s : State,
    (∀ c last, s.life.config = some c → c.role ≠ .traction → c.dormancy ≠ 0 → s.life.st = .active → s.life.notice = .idle →
        s.life.activity = some last → last + c.dormancy ≤ s.now →
        (∀ i e, s.entry i = some (.op e) → e.st = .standby ∧ e.req = none) →
        (∀ i e, s.entry i = some (.tr e) → e.st = .standby) → s.chan.queue = [] → s.floor.st = .free →
        s.peers.probe = .none → s.halt.own = .idle → s.test.running = none → ∃ t,
        Queued (s.crewFrame .dormant) none .dormantNotice s t
          ∧ exec .dormancyDelayExpiry s = .next { t with life := { s.life with notice := .queued } })
      ∧ (∀ due, s.life.st = .dormant → s.life.sniff = some due →
          (due ≤ s.now → exec .sniffWindowOpen s
              = .next { s with life := { s.life with sniff := some (due + 1000), window := some (due + 60) } })
            ∧ (s.now < due → exec .sniffWindowOpen s = .next s))
      ∧ (∀ end_, s.life.window = some end_ → end_ ≤ s.now → ∃ t,
          exec .sniffWindowClose s = .next t
            ∧ t = { s with life := { s.life with window := none }, modem := t.modem }
            ∧ ((∃ entry bits, s.modem = .locking entry bits) → t.modem = .hunting)
            ∧ ((∀ entry bits, s.modem ≠ .locking entry bits) → t.modem = s.modem))

/-- The ends and steps of the self-tests. LOOP after 400 ms and TIMER after 1000 ms end with their result: LOOP passing when
the looped hunter locked at the rate of each of its three test frames, found the sync word and the check, and read the bytes
of the frame sent; TIMER at 9900 to 10100 units, of which a report shows the low 16 bits (the model's choice, log 32). STOPLINE drives
and judges the lines at its eight moments, and ends at 50 ms: a PASS opens the gate, ends STOPFAIL and removes TEST-FAIL, a
FAIL makes STOPFAIL live and adds TEST-FAIL. Each end makes a TEST DONE report (R174, R176 to R179, R117). What the hunter
measures and samples is the command's operand (log 10). -/
def Obligations.SelfTestsStepAndEnd : Prop :=
  ∀ s : State,
    (∀ start sent (readings : Rate → LoopReading), s.test.running = some (.loop start sent) → start + 400 ≤ s.now →
        let good (r : Rate) : Bool := lockedRate (readings r).bitTimes == some r
          && (syncSearch none 0 0 0 (readings r).samples).bind readFrame == some (frameBytes sent)
        let ended (r : TestResult) : State := { s with test := { s.test with running := none, loop := r }, modem := .hunting }
        let missing : BitVec 3 := BitVec.ofBool (!good .quarter) ++ BitVec.ofBool (!good .half) ++ BitVec.ofBool (!good .full)
        exec (.loopTestEnd (readings .full) (readings .half) (readings .quarter)) s = .next
          (if good .full = true ∧ good .half = true ∧ good .quarter = true then
            raise .testDone false noSubject [1, 0, 0, 0] (faultEnd .loopFail noSubject (ended .pass))
           else raise .testDone false noSubject [1, 1, missing.setWidth 8, 0] (faultLive .loopFail noSubject (ended .fail))))
      ∧ (∀ start pos failed moment (a b : Bool), s.test.running = some (.stopline start pos failed) →
          [0, 8, 10, 23, 25, 33, 35, 48][pos]? = some moment → start + moment ≤ s.now → ∃ t,
          exec (.stoplineStep a b) s = .next t
            ∧ t = { s with stop := { s.stop with stopA := t.stop.stopA, stopB := t.stop.stopB }
                           test := { s.test with running := t.test.running } }
            ∧ (pos = 0 → t.stop.stopA = .testLevel ∧ t.stop.stopB = .asserted)
            ∧ (pos = 4 → t.stop.stopA = .asserted ∧ t.stop.stopB = .testLevel)
            ∧ (pos = 2 ∨ pos = 6 → t.stop.stopA = .asserted ∧ t.stop.stopB = .asserted)
            ∧ (pos = 1 ∨ pos = 3 ∨ pos = 5 ∨ pos = 7 → t.stop = s.stop)
            ∧ (∀ n, failed = some n → t.test.running = some (.stopline start (pos + 1) (some n)))
            ∧ (failed = none → ∀ step wantA wantB,
                (pos, step, wantA, wantB) ∈ [(0, 1, true, true), (1, 2, false, true), (3, 3, true, true), (5, 4, true, false),
                  (7, 5, true, true)] →
                t.test.running = some (.stopline start (pos + 1) (if a = wantA ∧ b = wantB then none else some step)))
            ∧ (failed = none → pos = 2 ∨ pos = 4 ∨ pos = 6 → t.test.running = some (.stopline start (pos + 1) none)))
      ∧ (∀ start pos failed, s.test.running = some (.stopline start pos failed) → 8 ≤ pos → start + 50 ≤ s.now →
          (failed = none → exec .stoplineTestEnd s = .next (raise .testDone false noSubject [2, 0, 0, 0]
              (changeCauses 0 causeTestFail noSubject (faultEnd .stopFail noSubject
                { s with test := { s.test with running := none, stopline := .pass, gate := true } }))))
            ∧ (∀ n, failed = some n → exec .stoplineTestEnd s
                = .next (raise .testDone false noSubject [2, 1, BitVec.ofNat 8 n, 0]
                  (changeCauses causeTestFail 0 noSubject (faultLive .stopFail noSubject
                    { s with test := { s.test with running := none, stopline := .fail } })))))
      ∧ (∀ start noted, s.test.running = some (.timer start noted) → start + 1000 ≤ s.now →
          let measure := s.supTimer - noted
          let passed : Bool := decide (9900 ≤ measure ∧ measure ≤ 10100)
          exec .timerTestEnd s = .next (raise .testDone false noSubject
            [3, if passed then 0 else 1, BitVec.ofNat 8 (measure / 256), BitVec.ofNat 8 measure]
            { s with test := { s.test with running := none, timer := if passed then .pass else .fail } }))

/-- The presentation cycle of the traction port: 2 ms after its record the strobe begins with a limit of 400 ms, 10 ms later
it ends by what TACK has shown; a rise of TACK begins the release limit, a fall completes the presentation and begins the
next; a limit that runs out fails the port, and a fall of TACK lets it recover. An input held for 20 ms is sampled
(R133 to R138); that a sample of another level less than 20 ms after the last is taken is the model's choice (log 36). -/
def Obligations.PortEventsMoveThePresentation : Prop :=
  ∀ s : State,
    let put (st : PortState) : State := { s with port := { s.port with st := st } }
    let failed : State := faultLive .port noSubject (changeCauses causePortFault 0 noSubject
      { s with port := { s.port with st := .failed, last := safeRecord, slot := some safeRecord } })
    let complete (t : State) : State := { t with port := match s.port.slot with
      | some r => { s.port with st := .setup (s.now + 2), slot := none, last := r }
      | none => { s.port with st := .idle } }
    let tack (b : Bool) (t : State) : State := { t with pins := { s.pins with tack := b } }
    (∀ strobeAt, s.port.st = .setup strobeAt → strobeAt ≤ s.now →
        exec .strobeStart s = .next (put (.strobe (s.now + 10) (s.now + 400) false false)))
      ∧ (∀ end_ limit acked fell, s.port.st = .strobe end_ limit acked fell →
          (end_ ≤ s.now → exec .strobeEnd s = .next
              (if acked then (if fell then complete s else put (.waitRelease limit)) else put (.waitAck limit)))
            ∧ (s.pins.tack = false → acked = false →
                exec .tackRise s = .next (tack true (put (.strobe end_ (s.now + 400) true fell))))
            ∧ (s.pins.tack = true → acked = true →
                exec .tackFall s = .next (tack false (put (.strobe end_ limit true true)))))
      ∧ (∀ limit, s.port.st = .waitAck limit →
          (s.pins.tack = false → exec .tackRise s = .next (tack true (put (.waitRelease (s.now + 400)))))
            ∧ (limit ≤ s.now → exec .ackLimitExpiry s = .next failed))
      ∧ (∀ limit, s.port.st = .waitRelease limit →
          (s.pins.tack = true → exec .tackFall s = .next (tack false (complete s)))
            ∧ (limit ≤ s.now → exec .releaseLimitExpiry s = .next failed))
      ∧ (s.port.st = .failed → s.pins.tack = true →
          (s.stop.causes &&& causePortFault ≠ 0 → exec .tackFall s = .next (tack false s))
            ∧ (s.stop.causes &&& causePortFault = 0 → s.port.slot = some safeRecord → exec .tackFall s = .next
                (let t := faultEnd .port noSubject (tack false (put .idle))
                 { t with port := { s.port with st := .setup (s.now + 2), slot := none, last := safeRecord } })))
      ∧ (20 ≤ s.now →
          (∀ b, exec (.inputSampled (.ready b)) s = .next { s with port := { s.port with ready := some b } })
            ∧ (∀ v, exec (.inputSampled (.speed v)) s = .next { s with port := { s.port with speed := some v } })
            ∧ (∀ b, ∃ t, exec (.inputSampled (.still b)) s = .next t
                ∧ t = { s with port := { s.port with still := some b, disagree := t.port.disagree }, fault := t.fault
                               host := t.host }
                ∧ (t.port.disagree = true ↔
                    s.isTraction = true ∧ s.started = true ∧ s.stop.causes ≠ 0 ∧ b = false)
                ∧ (t.port.disagree = true → s.port.disagree = false → t.fault.timer = some s.now)))
end

