-- ==== Sys2Proof/Laws/Footprint.lean ====
section
/-! SUPPORT. The footprint of each shared operation: `op_frame` says that the operation changes only the blocks it names, and
the lemmas after it that every other block is as it was. -/

namespace Sys2Proof.Machine

/-- Judging SRQ changes the host link alone (R187). -/
theorem judgeSrq_frame (s : State) :
    judgeSrq s = { s with host := (judgeSrq s).host } := rfl

/-- A report changes the host link alone (R185). -/
theorem postReport_frame (r : Report) (s : State) :
    postReport r s = { s with host := (postReport r s).host } := by unfold postReport; split <;> rfl

/-- The same, raised with a time. -/
theorem raiseAt_frame (n : Nat) (k : ReportKind) (b : Bool) (i : Identity) (d : List Byte) (s : State) :
    raiseAt n k b i d s = { s with host := (raiseAt n k b i d s).host } := postReport_frame _ _
@[simp] theorem raiseAt_pending (n : Nat) (k : ReportKind) (b : Bool) (i : Identity) (d : List Byte) (s : State) : (raiseAt n k b i d s).pending = s.pending := by rw [raiseAt_frame]
@[simp] theorem raiseAt_unitId (n : Nat) (k : ReportKind) (b : Bool) (i : Identity) (d : List Byte) (s : State) : (raiseAt n k b i d s).unitId = s.unitId := by rw [raiseAt_frame]
@[simp] theorem raiseAt_resets (n : Nat) (k : ReportKind) (b : Bool) (i : Identity) (d : List Byte) (s : State) : (raiseAt n k b i d s).resets = s.resets := by rw [raiseAt_frame]
@[simp] theorem raiseAt_now (n : Nat) (k : ReportKind) (b : Bool) (i : Identity) (d : List Byte) (s : State) : (raiseAt n k b i d s).now = s.now := by rw [raiseAt_frame]
@[simp] theorem raiseAt_draws (n : Nat) (k : ReportKind) (b : Bool) (i : Identity) (d : List Byte) (s : State) : (raiseAt n k b i d s).draws = s.draws := by rw [raiseAt_frame]
@[simp] theorem raiseAt_supTimer (n : Nat) (k : ReportKind) (b : Bool) (i : Identity) (d : List Byte) (s : State) : (raiseAt n k b i d s).supTimer = s.supTimer := by rw [raiseAt_frame]
@[simp] theorem raiseAt_pins (n : Nat) (k : ReportKind) (b : Bool) (i : Identity) (d : List Byte) (s : State) : (raiseAt n k b i d s).pins = s.pins := by rw [raiseAt_frame]
@[simp] theorem raiseAt_modem (n : Nat) (k : ReportKind) (b : Bool) (i : Identity) (d : List Byte) (s : State) : (raiseAt n k b i d s).modem = s.modem := by rw [raiseAt_frame]
@[simp] theorem raiseAt_chan (n : Nat) (k : ReportKind) (b : Bool) (i : Identity) (d : List Byte) (s : State) : (raiseAt n k b i d s).chan = s.chan := by rw [raiseAt_frame]
@[simp] theorem raiseAt_peers (n : Nat) (k : ReportKind) (b : Bool) (i : Identity) (d : List Byte) (s : State) : (raiseAt n k b i d s).peers = s.peers := by rw [raiseAt_frame]
@[simp] theorem raiseAt_bond (n : Nat) (k : ReportKind) (b : Bool) (i : Identity) (d : List Byte) (s : State) : (raiseAt n k b i d s).bond = s.bond := by rw [raiseAt_frame]
@[simp] theorem raiseAt_halt (n : Nat) (k : ReportKind) (b : Bool) (i : Identity) (d : List Byte) (s : State) : (raiseAt n k b i d s).halt = s.halt := by rw [raiseAt_frame]
@[simp] theorem raiseAt_stop (n : Nat) (k : ReportKind) (b : Bool) (i : Identity) (d : List Byte) (s : State) : (raiseAt n k b i d s).stop = s.stop := by rw [raiseAt_frame]
@[simp] theorem raiseAt_port (n : Nat) (k : ReportKind) (b : Bool) (i : Identity) (d : List Byte) (s : State) : (raiseAt n k b i d s).port = s.port := by rw [raiseAt_frame]
@[simp] theorem raiseAt_floor (n : Nat) (k : ReportKind) (b : Bool) (i : Identity) (d : List Byte) (s : State) : (raiseAt n k b i d s).floor = s.floor := by rw [raiseAt_frame]
@[simp] theorem raiseAt_life (n : Nat) (k : ReportKind) (b : Bool) (i : Identity) (d : List Byte) (s : State) : (raiseAt n k b i d s).life = s.life := by rw [raiseAt_frame]
@[simp] theorem raiseAt_fault (n : Nat) (k : ReportKind) (b : Bool) (i : Identity) (d : List Byte) (s : State) : (raiseAt n k b i d s).fault = s.fault := by rw [raiseAt_frame]
@[simp] theorem raiseAt_test (n : Nat) (k : ReportKind) (b : Bool) (i : Identity) (d : List Byte) (s : State) : (raiseAt n k b i d s).test = s.test := by rw [raiseAt_frame]

/-- The same, raised now. -/
theorem raise_frame (k : ReportKind) (b : Bool) (i : Identity) (d : List Byte) (s : State) :
    raise k b i d s = { s with host := (raise k b i d s).host } := postReport_frame _ _
@[simp] theorem raise_pending (k : ReportKind) (b : Bool) (i : Identity) (d : List Byte) (s : State) : (raise k b i d s).pending = s.pending := by rw [raise_frame]
@[simp] theorem raise_unitId (k : ReportKind) (b : Bool) (i : Identity) (d : List Byte) (s : State) : (raise k b i d s).unitId = s.unitId := by rw [raise_frame]
@[simp] theorem raise_resets (k : ReportKind) (b : Bool) (i : Identity) (d : List Byte) (s : State) : (raise k b i d s).resets = s.resets := by rw [raise_frame]
@[simp] theorem raise_now (k : ReportKind) (b : Bool) (i : Identity) (d : List Byte) (s : State) : (raise k b i d s).now = s.now := by rw [raise_frame]
@[simp] theorem raise_draws (k : ReportKind) (b : Bool) (i : Identity) (d : List Byte) (s : State) : (raise k b i d s).draws = s.draws := by rw [raise_frame]
@[simp] theorem raise_supTimer (k : ReportKind) (b : Bool) (i : Identity) (d : List Byte) (s : State) : (raise k b i d s).supTimer = s.supTimer := by rw [raise_frame]
@[simp] theorem raise_pins (k : ReportKind) (b : Bool) (i : Identity) (d : List Byte) (s : State) : (raise k b i d s).pins = s.pins := by rw [raise_frame]
@[simp] theorem raise_modem (k : ReportKind) (b : Bool) (i : Identity) (d : List Byte) (s : State) : (raise k b i d s).modem = s.modem := by rw [raise_frame]
@[simp] theorem raise_chan (k : ReportKind) (b : Bool) (i : Identity) (d : List Byte) (s : State) : (raise k b i d s).chan = s.chan := by rw [raise_frame]
@[simp] theorem raise_peers (k : ReportKind) (b : Bool) (i : Identity) (d : List Byte) (s : State) : (raise k b i d s).peers = s.peers := by rw [raise_frame]
@[simp] theorem raise_bond (k : ReportKind) (b : Bool) (i : Identity) (d : List Byte) (s : State) : (raise k b i d s).bond = s.bond := by rw [raise_frame]
@[simp] theorem raise_halt (k : ReportKind) (b : Bool) (i : Identity) (d : List Byte) (s : State) : (raise k b i d s).halt = s.halt := by rw [raise_frame]
@[simp] theorem raise_stop (k : ReportKind) (b : Bool) (i : Identity) (d : List Byte) (s : State) : (raise k b i d s).stop = s.stop := by rw [raise_frame]
@[simp] theorem raise_port (k : ReportKind) (b : Bool) (i : Identity) (d : List Byte) (s : State) : (raise k b i d s).port = s.port := by rw [raise_frame]
@[simp] theorem raise_floor (k : ReportKind) (b : Bool) (i : Identity) (d : List Byte) (s : State) : (raise k b i d s).floor = s.floor := by rw [raise_frame]
@[simp] theorem raise_life (k : ReportKind) (b : Bool) (i : Identity) (d : List Byte) (s : State) : (raise k b i d s).life = s.life := by rw [raise_frame]
@[simp] theorem raise_fault (k : ReportKind) (b : Bool) (i : Identity) (d : List Byte) (s : State) : (raise k b i d s).fault = s.fault := by rw [raise_frame]
@[simp] theorem raise_test (k : ReportKind) (b : Bool) (i : Identity) (d : List Byte) (s : State) : (raise k b i d s).test = s.test := by rw [raise_frame]

/-- A BOND report changes the host link alone (R69). -/
theorem raiseBond_frame (i : Fin 4) (p : Identity) (n : Byte) (c : BondCause) (s : State) :
    raiseBond i p n c s = { s with host := (raiseBond i p n c s).host } := postReport_frame _ _
@[simp] theorem raiseBond_pending (i : Fin 4) (p : Identity) (n : Byte) (c : BondCause) (s : State) : (raiseBond i p n c s).pending = s.pending := by rw [raiseBond_frame]
@[simp] theorem raiseBond_unitId (i : Fin 4) (p : Identity) (n : Byte) (c : BondCause) (s : State) : (raiseBond i p n c s).unitId = s.unitId := by rw [raiseBond_frame]
@[simp] theorem raiseBond_resets (i : Fin 4) (p : Identity) (n : Byte) (c : BondCause) (s : State) : (raiseBond i p n c s).resets = s.resets := by rw [raiseBond_frame]
@[simp] theorem raiseBond_now (i : Fin 4) (p : Identity) (n : Byte) (c : BondCause) (s : State) : (raiseBond i p n c s).now = s.now := by rw [raiseBond_frame]
@[simp] theorem raiseBond_draws (i : Fin 4) (p : Identity) (n : Byte) (c : BondCause) (s : State) : (raiseBond i p n c s).draws = s.draws := by rw [raiseBond_frame]
@[simp] theorem raiseBond_supTimer (i : Fin 4) (p : Identity) (n : Byte) (c : BondCause) (s : State) : (raiseBond i p n c s).supTimer = s.supTimer := by rw [raiseBond_frame]
@[simp] theorem raiseBond_pins (i : Fin 4) (p : Identity) (n : Byte) (c : BondCause) (s : State) : (raiseBond i p n c s).pins = s.pins := by rw [raiseBond_frame]
@[simp] theorem raiseBond_modem (i : Fin 4) (p : Identity) (n : Byte) (c : BondCause) (s : State) : (raiseBond i p n c s).modem = s.modem := by rw [raiseBond_frame]
@[simp] theorem raiseBond_chan (i : Fin 4) (p : Identity) (n : Byte) (c : BondCause) (s : State) : (raiseBond i p n c s).chan = s.chan := by rw [raiseBond_frame]
@[simp] theorem raiseBond_peers (i : Fin 4) (p : Identity) (n : Byte) (c : BondCause) (s : State) : (raiseBond i p n c s).peers = s.peers := by rw [raiseBond_frame]
@[simp] theorem raiseBond_bond (i : Fin 4) (p : Identity) (n : Byte) (c : BondCause) (s : State) : (raiseBond i p n c s).bond = s.bond := by rw [raiseBond_frame]
@[simp] theorem raiseBond_halt (i : Fin 4) (p : Identity) (n : Byte) (c : BondCause) (s : State) : (raiseBond i p n c s).halt = s.halt := by rw [raiseBond_frame]
@[simp] theorem raiseBond_stop (i : Fin 4) (p : Identity) (n : Byte) (c : BondCause) (s : State) : (raiseBond i p n c s).stop = s.stop := by rw [raiseBond_frame]
@[simp] theorem raiseBond_port (i : Fin 4) (p : Identity) (n : Byte) (c : BondCause) (s : State) : (raiseBond i p n c s).port = s.port := by rw [raiseBond_frame]
@[simp] theorem raiseBond_floor (i : Fin 4) (p : Identity) (n : Byte) (c : BondCause) (s : State) : (raiseBond i p n c s).floor = s.floor := by rw [raiseBond_frame]
@[simp] theorem raiseBond_life (i : Fin 4) (p : Identity) (n : Byte) (c : BondCause) (s : State) : (raiseBond i p n c s).life = s.life := by rw [raiseBond_frame]
@[simp] theorem raiseBond_fault (i : Fin 4) (p : Identity) (n : Byte) (c : BondCause) (s : State) : (raiseBond i p n c s).fault = s.fault := by rw [raiseBond_frame]
@[simp] theorem raiseBond_test (i : Fin 4) (p : Identity) (n : Byte) (c : BondCause) (s : State) : (raiseBond i p n c s).test = s.test := by rw [raiseBond_frame]

/-- A rise changes the fault monitor and the host link (R169). -/
theorem faultLive_frame (c : Condition) (i : Identity) (s : State) :
    faultLive c i s = { s with fault := (faultLive c i s).fault, host := (faultLive c i s).host } := by unfold faultLive; split; rfl; dsimp only; rw [raise_frame]; rfl
@[simp] theorem faultLive_pending (c : Condition) (i : Identity) (s : State) : (faultLive c i s).pending = s.pending := by rw [faultLive_frame]
@[simp] theorem faultLive_unitId (c : Condition) (i : Identity) (s : State) : (faultLive c i s).unitId = s.unitId := by rw [faultLive_frame]
@[simp] theorem faultLive_resets (c : Condition) (i : Identity) (s : State) : (faultLive c i s).resets = s.resets := by rw [faultLive_frame]
@[simp] theorem faultLive_now (c : Condition) (i : Identity) (s : State) : (faultLive c i s).now = s.now := by rw [faultLive_frame]
@[simp] theorem faultLive_draws (c : Condition) (i : Identity) (s : State) : (faultLive c i s).draws = s.draws := by rw [faultLive_frame]
@[simp] theorem faultLive_supTimer (c : Condition) (i : Identity) (s : State) : (faultLive c i s).supTimer = s.supTimer := by rw [faultLive_frame]
@[simp] theorem faultLive_pins (c : Condition) (i : Identity) (s : State) : (faultLive c i s).pins = s.pins := by rw [faultLive_frame]
@[simp] theorem faultLive_modem (c : Condition) (i : Identity) (s : State) : (faultLive c i s).modem = s.modem := by rw [faultLive_frame]
@[simp] theorem faultLive_chan (c : Condition) (i : Identity) (s : State) : (faultLive c i s).chan = s.chan := by rw [faultLive_frame]
@[simp] theorem faultLive_peers (c : Condition) (i : Identity) (s : State) : (faultLive c i s).peers = s.peers := by rw [faultLive_frame]
@[simp] theorem faultLive_bond (c : Condition) (i : Identity) (s : State) : (faultLive c i s).bond = s.bond := by rw [faultLive_frame]
@[simp] theorem faultLive_halt (c : Condition) (i : Identity) (s : State) : (faultLive c i s).halt = s.halt := by rw [faultLive_frame]
@[simp] theorem faultLive_stop (c : Condition) (i : Identity) (s : State) : (faultLive c i s).stop = s.stop := by rw [faultLive_frame]
@[simp] theorem faultLive_port (c : Condition) (i : Identity) (s : State) : (faultLive c i s).port = s.port := by rw [faultLive_frame]
@[simp] theorem faultLive_floor (c : Condition) (i : Identity) (s : State) : (faultLive c i s).floor = s.floor := by rw [faultLive_frame]
@[simp] theorem faultLive_life (c : Condition) (i : Identity) (s : State) : (faultLive c i s).life = s.life := by rw [faultLive_frame]
@[simp] theorem faultLive_test (c : Condition) (i : Identity) (s : State) : (faultLive c i s).test = s.test := by rw [faultLive_frame]

/-- A fall changes the fault monitor and the host link (R169). -/
theorem faultEnd_frame (c : Condition) (i : Identity) (s : State) :
    faultEnd c i s = { s with fault := (faultEnd c i s).fault, host := (faultEnd c i s).host } := by unfold faultEnd; split; (dsimp only; rw [raise_frame]; rfl); rfl
@[simp] theorem faultEnd_pending (c : Condition) (i : Identity) (s : State) : (faultEnd c i s).pending = s.pending := by rw [faultEnd_frame]
@[simp] theorem faultEnd_unitId (c : Condition) (i : Identity) (s : State) : (faultEnd c i s).unitId = s.unitId := by rw [faultEnd_frame]
@[simp] theorem faultEnd_resets (c : Condition) (i : Identity) (s : State) : (faultEnd c i s).resets = s.resets := by rw [faultEnd_frame]
@[simp] theorem faultEnd_now (c : Condition) (i : Identity) (s : State) : (faultEnd c i s).now = s.now := by rw [faultEnd_frame]
@[simp] theorem faultEnd_draws (c : Condition) (i : Identity) (s : State) : (faultEnd c i s).draws = s.draws := by rw [faultEnd_frame]
@[simp] theorem faultEnd_supTimer (c : Condition) (i : Identity) (s : State) : (faultEnd c i s).supTimer = s.supTimer := by rw [faultEnd_frame]
@[simp] theorem faultEnd_pins (c : Condition) (i : Identity) (s : State) : (faultEnd c i s).pins = s.pins := by rw [faultEnd_frame]
@[simp] theorem faultEnd_modem (c : Condition) (i : Identity) (s : State) : (faultEnd c i s).modem = s.modem := by rw [faultEnd_frame]
@[simp] theorem faultEnd_chan (c : Condition) (i : Identity) (s : State) : (faultEnd c i s).chan = s.chan := by rw [faultEnd_frame]
@[simp] theorem faultEnd_peers (c : Condition) (i : Identity) (s : State) : (faultEnd c i s).peers = s.peers := by rw [faultEnd_frame]
@[simp] theorem faultEnd_bond (c : Condition) (i : Identity) (s : State) : (faultEnd c i s).bond = s.bond := by rw [faultEnd_frame]
@[simp] theorem faultEnd_halt (c : Condition) (i : Identity) (s : State) : (faultEnd c i s).halt = s.halt := by rw [faultEnd_frame]
@[simp] theorem faultEnd_stop (c : Condition) (i : Identity) (s : State) : (faultEnd c i s).stop = s.stop := by rw [faultEnd_frame]
@[simp] theorem faultEnd_port (c : Condition) (i : Identity) (s : State) : (faultEnd c i s).port = s.port := by rw [faultEnd_frame]
@[simp] theorem faultEnd_floor (c : Condition) (i : Identity) (s : State) : (faultEnd c i s).floor = s.floor := by rw [faultEnd_frame]
@[simp] theorem faultEnd_life (c : Condition) (i : Identity) (s : State) : (faultEnd c i s).life = s.life := by rw [faultEnd_frame]
@[simp] theorem faultEnd_test (c : Condition) (i : Identity) (s : State) : (faultEnd c i s).test = s.test := by rw [faultEnd_frame]

/-- The start of a presentation changes the port alone (R133). -/
theorem beginPresentation_frame (s : State) :
    beginPresentation s = { s with port := (beginPresentation s).port } := by unfold beginPresentation; split <;> rfl

/-- The safe record changes the port alone (R132). -/
theorem writeSafeRecord_frame (s : State) :
    writeSafeRecord s = { s with port := (writeSafeRecord s).port } := by unfold writeSafeRecord; rw [beginPresentation_frame]; rfl
@[simp] theorem writeSafeRecord_pending (s : State) : (writeSafeRecord s).pending = s.pending := by rw [writeSafeRecord_frame]
@[simp] theorem writeSafeRecord_unitId (s : State) : (writeSafeRecord s).unitId = s.unitId := by rw [writeSafeRecord_frame]
@[simp] theorem writeSafeRecord_resets (s : State) : (writeSafeRecord s).resets = s.resets := by rw [writeSafeRecord_frame]
@[simp] theorem writeSafeRecord_now (s : State) : (writeSafeRecord s).now = s.now := by rw [writeSafeRecord_frame]
@[simp] theorem writeSafeRecord_draws (s : State) : (writeSafeRecord s).draws = s.draws := by rw [writeSafeRecord_frame]
@[simp] theorem writeSafeRecord_supTimer (s : State) : (writeSafeRecord s).supTimer = s.supTimer := by rw [writeSafeRecord_frame]
@[simp] theorem writeSafeRecord_pins (s : State) : (writeSafeRecord s).pins = s.pins := by rw [writeSafeRecord_frame]
@[simp] theorem writeSafeRecord_modem (s : State) : (writeSafeRecord s).modem = s.modem := by rw [writeSafeRecord_frame]
@[simp] theorem writeSafeRecord_chan (s : State) : (writeSafeRecord s).chan = s.chan := by rw [writeSafeRecord_frame]
@[simp] theorem writeSafeRecord_peers (s : State) : (writeSafeRecord s).peers = s.peers := by rw [writeSafeRecord_frame]
@[simp] theorem writeSafeRecord_bond (s : State) : (writeSafeRecord s).bond = s.bond := by rw [writeSafeRecord_frame]
@[simp] theorem writeSafeRecord_halt (s : State) : (writeSafeRecord s).halt = s.halt := by rw [writeSafeRecord_frame]
@[simp] theorem writeSafeRecord_stop (s : State) : (writeSafeRecord s).stop = s.stop := by rw [writeSafeRecord_frame]
@[simp] theorem writeSafeRecord_floor (s : State) : (writeSafeRecord s).floor = s.floor := by rw [writeSafeRecord_frame]
@[simp] theorem writeSafeRecord_life (s : State) : (writeSafeRecord s).life = s.life := by rw [writeSafeRecord_frame]
@[simp] theorem writeSafeRecord_fault (s : State) : (writeSafeRecord s).fault = s.fault := by rw [writeSafeRecord_frame]
@[simp] theorem writeSafeRecord_test (s : State) : (writeSafeRecord s).test = s.test := by rw [writeSafeRecord_frame]
@[simp] theorem writeSafeRecord_host (s : State) : (writeSafeRecord s).host = s.host := by rw [writeSafeRecord_frame]

/-- Recovery changes the port and ends PORT (R136). -/
theorem recoverPort_frame (s : State) :
    recoverPort s = { s with port := (recoverPort s).port, fault := (recoverPort s).fault, host := (recoverPort s).host } := by unfold recoverPort; split; (rw [beginPresentation_frame, faultEnd_frame]; rfl); rfl
@[simp] theorem recoverPort_pending (s : State) : (recoverPort s).pending = s.pending := by rw [recoverPort_frame]
@[simp] theorem recoverPort_unitId (s : State) : (recoverPort s).unitId = s.unitId := by rw [recoverPort_frame]
@[simp] theorem recoverPort_resets (s : State) : (recoverPort s).resets = s.resets := by rw [recoverPort_frame]
@[simp] theorem recoverPort_now (s : State) : (recoverPort s).now = s.now := by rw [recoverPort_frame]
@[simp] theorem recoverPort_draws (s : State) : (recoverPort s).draws = s.draws := by rw [recoverPort_frame]
@[simp] theorem recoverPort_supTimer (s : State) : (recoverPort s).supTimer = s.supTimer := by rw [recoverPort_frame]
@[simp] theorem recoverPort_pins (s : State) : (recoverPort s).pins = s.pins := by rw [recoverPort_frame]
@[simp] theorem recoverPort_modem (s : State) : (recoverPort s).modem = s.modem := by rw [recoverPort_frame]
@[simp] theorem recoverPort_chan (s : State) : (recoverPort s).chan = s.chan := by rw [recoverPort_frame]
@[simp] theorem recoverPort_peers (s : State) : (recoverPort s).peers = s.peers := by rw [recoverPort_frame]
@[simp] theorem recoverPort_bond (s : State) : (recoverPort s).bond = s.bond := by rw [recoverPort_frame]
@[simp] theorem recoverPort_halt (s : State) : (recoverPort s).halt = s.halt := by rw [recoverPort_frame]
@[simp] theorem recoverPort_stop (s : State) : (recoverPort s).stop = s.stop := by rw [recoverPort_frame]
@[simp] theorem recoverPort_floor (s : State) : (recoverPort s).floor = s.floor := by rw [recoverPort_frame]
@[simp] theorem recoverPort_life (s : State) : (recoverPort s).life = s.life := by rw [recoverPort_frame]
@[simp] theorem recoverPort_test (s : State) : (recoverPort s).test = s.test := by rw [recoverPort_frame]

/-- Judging the disagreement input changes the port and the fault monitor (R138). -/
theorem judgeDisagree_frame (s : State) :
    judgeDisagree s = { s with port := (judgeDisagree s).port, fault := (judgeDisagree s).fault, host := (judgeDisagree s).host } := by unfold judgeDisagree; dsimp only; split; rfl; split; rfl; rw [faultEnd_frame]; rfl
@[simp] theorem judgeDisagree_pending (s : State) : (judgeDisagree s).pending = s.pending := by rw [judgeDisagree_frame]
@[simp] theorem judgeDisagree_unitId (s : State) : (judgeDisagree s).unitId = s.unitId := by rw [judgeDisagree_frame]
@[simp] theorem judgeDisagree_resets (s : State) : (judgeDisagree s).resets = s.resets := by rw [judgeDisagree_frame]
@[simp] theorem judgeDisagree_now (s : State) : (judgeDisagree s).now = s.now := by rw [judgeDisagree_frame]
@[simp] theorem judgeDisagree_draws (s : State) : (judgeDisagree s).draws = s.draws := by rw [judgeDisagree_frame]
@[simp] theorem judgeDisagree_supTimer (s : State) : (judgeDisagree s).supTimer = s.supTimer := by rw [judgeDisagree_frame]
@[simp] theorem judgeDisagree_pins (s : State) : (judgeDisagree s).pins = s.pins := by rw [judgeDisagree_frame]
@[simp] theorem judgeDisagree_modem (s : State) : (judgeDisagree s).modem = s.modem := by rw [judgeDisagree_frame]
@[simp] theorem judgeDisagree_chan (s : State) : (judgeDisagree s).chan = s.chan := by rw [judgeDisagree_frame]
@[simp] theorem judgeDisagree_peers (s : State) : (judgeDisagree s).peers = s.peers := by rw [judgeDisagree_frame]
@[simp] theorem judgeDisagree_bond (s : State) : (judgeDisagree s).bond = s.bond := by rw [judgeDisagree_frame]
@[simp] theorem judgeDisagree_halt (s : State) : (judgeDisagree s).halt = s.halt := by rw [judgeDisagree_frame]
@[simp] theorem judgeDisagree_stop (s : State) : (judgeDisagree s).stop = s.stop := by rw [judgeDisagree_frame]
@[simp] theorem judgeDisagree_floor (s : State) : (judgeDisagree s).floor = s.floor := by rw [judgeDisagree_frame]
@[simp] theorem judgeDisagree_life (s : State) : (judgeDisagree s).life = s.life := by rw [judgeDisagree_frame]
@[simp] theorem judgeDisagree_test (s : State) : (judgeDisagree s).test = s.test := by rw [judgeDisagree_frame]

/-- An abandoned STOPLINE changes the test unit and reports (R177). -/
theorem abandonStopline_frame (s : State) :
    abandonStopline s = { s with test := (abandonStopline s).test, host := (abandonStopline s).host } := by unfold abandonStopline; split; (rw [raise_frame]; rfl); rfl
@[simp] theorem abandonStopline_pending (s : State) : (abandonStopline s).pending = s.pending := by rw [abandonStopline_frame]
@[simp] theorem abandonStopline_unitId (s : State) : (abandonStopline s).unitId = s.unitId := by rw [abandonStopline_frame]
@[simp] theorem abandonStopline_resets (s : State) : (abandonStopline s).resets = s.resets := by rw [abandonStopline_frame]
@[simp] theorem abandonStopline_now (s : State) : (abandonStopline s).now = s.now := by rw [abandonStopline_frame]
@[simp] theorem abandonStopline_draws (s : State) : (abandonStopline s).draws = s.draws := by rw [abandonStopline_frame]
@[simp] theorem abandonStopline_supTimer (s : State) : (abandonStopline s).supTimer = s.supTimer := by rw [abandonStopline_frame]
@[simp] theorem abandonStopline_pins (s : State) : (abandonStopline s).pins = s.pins := by rw [abandonStopline_frame]
@[simp] theorem abandonStopline_modem (s : State) : (abandonStopline s).modem = s.modem := by rw [abandonStopline_frame]
@[simp] theorem abandonStopline_chan (s : State) : (abandonStopline s).chan = s.chan := by rw [abandonStopline_frame]
@[simp] theorem abandonStopline_peers (s : State) : (abandonStopline s).peers = s.peers := by rw [abandonStopline_frame]
@[simp] theorem abandonStopline_bond (s : State) : (abandonStopline s).bond = s.bond := by rw [abandonStopline_frame]
@[simp] theorem abandonStopline_halt (s : State) : (abandonStopline s).halt = s.halt := by rw [abandonStopline_frame]
@[simp] theorem abandonStopline_stop (s : State) : (abandonStopline s).stop = s.stop := by rw [abandonStopline_frame]
@[simp] theorem abandonStopline_port (s : State) : (abandonStopline s).port = s.port := by rw [abandonStopline_frame]
@[simp] theorem abandonStopline_floor (s : State) : (abandonStopline s).floor = s.floor := by rw [abandonStopline_frame]
@[simp] theorem abandonStopline_life (s : State) : (abandonStopline s).life = s.life := by rw [abandonStopline_frame]
@[simp] theorem abandonStopline_fault (s : State) : (abandonStopline s).fault = s.fault := by rw [abandonStopline_frame]
@[simp] theorem changeCauses_pending (a r : CauseSet) (i : Identity) (s : State) : (changeCauses a r i s).pending = s.pending := by
  unfold changeCauses; dsimp only; split_ifs <;> simp
@[simp] theorem changeCauses_unitId (a r : CauseSet) (i : Identity) (s : State) : (changeCauses a r i s).unitId = s.unitId := by
  unfold changeCauses; dsimp only; split_ifs <;> simp
@[simp] theorem changeCauses_resets (a r : CauseSet) (i : Identity) (s : State) : (changeCauses a r i s).resets = s.resets := by
  unfold changeCauses; dsimp only; split_ifs <;> simp
@[simp] theorem changeCauses_now (a r : CauseSet) (i : Identity) (s : State) : (changeCauses a r i s).now = s.now := by
  unfold changeCauses; dsimp only; split_ifs <;> simp
@[simp] theorem changeCauses_draws (a r : CauseSet) (i : Identity) (s : State) : (changeCauses a r i s).draws = s.draws := by
  unfold changeCauses; dsimp only; split_ifs <;> simp
@[simp] theorem changeCauses_supTimer (a r : CauseSet) (i : Identity) (s : State) : (changeCauses a r i s).supTimer = s.supTimer := by
  unfold changeCauses; dsimp only; split_ifs <;> simp
@[simp] theorem changeCauses_pins (a r : CauseSet) (i : Identity) (s : State) : (changeCauses a r i s).pins = s.pins := by
  unfold changeCauses; dsimp only; split_ifs <;> simp
@[simp] theorem changeCauses_modem (a r : CauseSet) (i : Identity) (s : State) : (changeCauses a r i s).modem = s.modem := by
  unfold changeCauses; dsimp only; split_ifs <;> simp
@[simp] theorem changeCauses_chan (a r : CauseSet) (i : Identity) (s : State) : (changeCauses a r i s).chan = s.chan := by
  unfold changeCauses; dsimp only; split_ifs <;> simp
@[simp] theorem changeCauses_peers (a r : CauseSet) (i : Identity) (s : State) : (changeCauses a r i s).peers = s.peers := by
  unfold changeCauses; dsimp only; split_ifs <;> simp
@[simp] theorem changeCauses_bond (a r : CauseSet) (i : Identity) (s : State) : (changeCauses a r i s).bond = s.bond := by
  unfold changeCauses; dsimp only; split_ifs <;> simp
@[simp] theorem changeCauses_halt (a r : CauseSet) (i : Identity) (s : State) : (changeCauses a r i s).halt = s.halt := by
  unfold changeCauses; dsimp only; split_ifs <;> simp
@[simp] theorem changeCauses_floor (a r : CauseSet) (i : Identity) (s : State) : (changeCauses a r i s).floor = s.floor := by
  unfold changeCauses; dsimp only; split_ifs <;> simp
@[simp] theorem changeCauses_life (a r : CauseSet) (i : Identity) (s : State) : (changeCauses a r i s).life = s.life := by
  unfold changeCauses; dsimp only; split_ifs <;> simp

/-- A change of the stop cause set changes the stop unit, the port, the fault monitor, the test unit and the reports (R113, R114). -/
theorem changeCauses_frame (a r : CauseSet) (i : Identity) (s : State) :
    changeCauses a r i s = { s with stop := (changeCauses a r i s).stop, port := (changeCauses a r i s).port, fault := (changeCauses a r i s).fault, test := (changeCauses a r i s).test, host := (changeCauses a r i s).host } := by
  have h_pending := changeCauses_pending a r i s
  have h_unitId := changeCauses_unitId a r i s
  have h_resets := changeCauses_resets a r i s
  have h_now := changeCauses_now a r i s
  have h_draws := changeCauses_draws a r i s
  have h_supTimer := changeCauses_supTimer a r i s
  have h_pins := changeCauses_pins a r i s
  have h_modem := changeCauses_modem a r i s
  have h_chan := changeCauses_chan a r i s
  have h_peers := changeCauses_peers a r i s
  have h_bond := changeCauses_bond a r i s
  have h_halt := changeCauses_halt a r i s
  have h_floor := changeCauses_floor a r i s
  have h_life := changeCauses_life a r i s
  generalize changeCauses a r i s = t at *
  cases t
  simp_all

/-- Writing a slot changes the bond table alone. -/
theorem putEntry_frame (i : Fin 4) (e : Option BondEntry) (s : State) :
    putEntry i e s = { s with bond := (putEntry i e s).bond } := rfl
@[simp] theorem putEntry_pending (i : Fin 4) (e : Option BondEntry) (s : State) : (putEntry i e s).pending = s.pending := by rw [putEntry_frame]
@[simp] theorem putEntry_unitId (i : Fin 4) (e : Option BondEntry) (s : State) : (putEntry i e s).unitId = s.unitId := by rw [putEntry_frame]
@[simp] theorem putEntry_resets (i : Fin 4) (e : Option BondEntry) (s : State) : (putEntry i e s).resets = s.resets := by rw [putEntry_frame]
@[simp] theorem putEntry_now (i : Fin 4) (e : Option BondEntry) (s : State) : (putEntry i e s).now = s.now := by rw [putEntry_frame]
@[simp] theorem putEntry_draws (i : Fin 4) (e : Option BondEntry) (s : State) : (putEntry i e s).draws = s.draws := by rw [putEntry_frame]
@[simp] theorem putEntry_supTimer (i : Fin 4) (e : Option BondEntry) (s : State) : (putEntry i e s).supTimer = s.supTimer := by rw [putEntry_frame]
@[simp] theorem putEntry_pins (i : Fin 4) (e : Option BondEntry) (s : State) : (putEntry i e s).pins = s.pins := by rw [putEntry_frame]
@[simp] theorem putEntry_modem (i : Fin 4) (e : Option BondEntry) (s : State) : (putEntry i e s).modem = s.modem := by rw [putEntry_frame]
@[simp] theorem putEntry_chan (i : Fin 4) (e : Option BondEntry) (s : State) : (putEntry i e s).chan = s.chan := by rw [putEntry_frame]
@[simp] theorem putEntry_peers (i : Fin 4) (e : Option BondEntry) (s : State) : (putEntry i e s).peers = s.peers := by rw [putEntry_frame]
@[simp] theorem putEntry_halt (i : Fin 4) (e : Option BondEntry) (s : State) : (putEntry i e s).halt = s.halt := by rw [putEntry_frame]
@[simp] theorem putEntry_stop (i : Fin 4) (e : Option BondEntry) (s : State) : (putEntry i e s).stop = s.stop := by rw [putEntry_frame]
@[simp] theorem putEntry_port (i : Fin 4) (e : Option BondEntry) (s : State) : (putEntry i e s).port = s.port := by rw [putEntry_frame]
@[simp] theorem putEntry_floor (i : Fin 4) (e : Option BondEntry) (s : State) : (putEntry i e s).floor = s.floor := by rw [putEntry_frame]
@[simp] theorem putEntry_life (i : Fin 4) (e : Option BondEntry) (s : State) : (putEntry i e s).life = s.life := by rw [putEntry_frame]
@[simp] theorem putEntry_fault (i : Fin 4) (e : Option BondEntry) (s : State) : (putEntry i e s).fault = s.fault := by rw [putEntry_frame]
@[simp] theorem putEntry_test (i : Fin 4) (e : Option BondEntry) (s : State) : (putEntry i e s).test = s.test := by rw [putEntry_frame]
@[simp] theorem putEntry_host (i : Fin 4) (e : Option BondEntry) (s : State) : (putEntry i e s).host = s.host := by rw [putEntry_frame]

/-- Changing an operator-side entry changes the bond table alone. -/
theorem modOp_frame (i : Fin 4) (f : OpEntry → OpEntry) (s : State) :
    modOp i f s = { s with bond := (modOp i f s).bond } := by unfold modOp; split <;> rfl
@[simp] theorem modOp_pending (i : Fin 4) (f : OpEntry → OpEntry) (s : State) : (modOp i f s).pending = s.pending := by rw [modOp_frame]
@[simp] theorem modOp_unitId (i : Fin 4) (f : OpEntry → OpEntry) (s : State) : (modOp i f s).unitId = s.unitId := by rw [modOp_frame]
@[simp] theorem modOp_resets (i : Fin 4) (f : OpEntry → OpEntry) (s : State) : (modOp i f s).resets = s.resets := by rw [modOp_frame]
@[simp] theorem modOp_now (i : Fin 4) (f : OpEntry → OpEntry) (s : State) : (modOp i f s).now = s.now := by rw [modOp_frame]
@[simp] theorem modOp_draws (i : Fin 4) (f : OpEntry → OpEntry) (s : State) : (modOp i f s).draws = s.draws := by rw [modOp_frame]
@[simp] theorem modOp_supTimer (i : Fin 4) (f : OpEntry → OpEntry) (s : State) : (modOp i f s).supTimer = s.supTimer := by rw [modOp_frame]
@[simp] theorem modOp_pins (i : Fin 4) (f : OpEntry → OpEntry) (s : State) : (modOp i f s).pins = s.pins := by rw [modOp_frame]
@[simp] theorem modOp_modem (i : Fin 4) (f : OpEntry → OpEntry) (s : State) : (modOp i f s).modem = s.modem := by rw [modOp_frame]
@[simp] theorem modOp_chan (i : Fin 4) (f : OpEntry → OpEntry) (s : State) : (modOp i f s).chan = s.chan := by rw [modOp_frame]
@[simp] theorem modOp_peers (i : Fin 4) (f : OpEntry → OpEntry) (s : State) : (modOp i f s).peers = s.peers := by rw [modOp_frame]
@[simp] theorem modOp_halt (i : Fin 4) (f : OpEntry → OpEntry) (s : State) : (modOp i f s).halt = s.halt := by rw [modOp_frame]
@[simp] theorem modOp_stop (i : Fin 4) (f : OpEntry → OpEntry) (s : State) : (modOp i f s).stop = s.stop := by rw [modOp_frame]
@[simp] theorem modOp_port (i : Fin 4) (f : OpEntry → OpEntry) (s : State) : (modOp i f s).port = s.port := by rw [modOp_frame]
@[simp] theorem modOp_floor (i : Fin 4) (f : OpEntry → OpEntry) (s : State) : (modOp i f s).floor = s.floor := by rw [modOp_frame]
@[simp] theorem modOp_life (i : Fin 4) (f : OpEntry → OpEntry) (s : State) : (modOp i f s).life = s.life := by rw [modOp_frame]
@[simp] theorem modOp_fault (i : Fin 4) (f : OpEntry → OpEntry) (s : State) : (modOp i f s).fault = s.fault := by rw [modOp_frame]
@[simp] theorem modOp_test (i : Fin 4) (f : OpEntry → OpEntry) (s : State) : (modOp i f s).test = s.test := by rw [modOp_frame]
@[simp] theorem modOp_host (i : Fin 4) (f : OpEntry → OpEntry) (s : State) : (modOp i f s).host = s.host := by rw [modOp_frame]

/-- Changing a traction-side entry changes the bond table alone. -/
theorem modTr_frame (i : Fin 4) (f : TrEntry → TrEntry) (s : State) :
    modTr i f s = { s with bond := (modTr i f s).bond } := by unfold modTr; split <;> rfl
@[simp] theorem modTr_pending (i : Fin 4) (f : TrEntry → TrEntry) (s : State) : (modTr i f s).pending = s.pending := by rw [modTr_frame]
@[simp] theorem modTr_unitId (i : Fin 4) (f : TrEntry → TrEntry) (s : State) : (modTr i f s).unitId = s.unitId := by rw [modTr_frame]
@[simp] theorem modTr_resets (i : Fin 4) (f : TrEntry → TrEntry) (s : State) : (modTr i f s).resets = s.resets := by rw [modTr_frame]
@[simp] theorem modTr_now (i : Fin 4) (f : TrEntry → TrEntry) (s : State) : (modTr i f s).now = s.now := by rw [modTr_frame]
@[simp] theorem modTr_draws (i : Fin 4) (f : TrEntry → TrEntry) (s : State) : (modTr i f s).draws = s.draws := by rw [modTr_frame]
@[simp] theorem modTr_supTimer (i : Fin 4) (f : TrEntry → TrEntry) (s : State) : (modTr i f s).supTimer = s.supTimer := by rw [modTr_frame]
@[simp] theorem modTr_pins (i : Fin 4) (f : TrEntry → TrEntry) (s : State) : (modTr i f s).pins = s.pins := by rw [modTr_frame]
@[simp] theorem modTr_modem (i : Fin 4) (f : TrEntry → TrEntry) (s : State) : (modTr i f s).modem = s.modem := by rw [modTr_frame]
@[simp] theorem modTr_chan (i : Fin 4) (f : TrEntry → TrEntry) (s : State) : (modTr i f s).chan = s.chan := by rw [modTr_frame]
@[simp] theorem modTr_peers (i : Fin 4) (f : TrEntry → TrEntry) (s : State) : (modTr i f s).peers = s.peers := by rw [modTr_frame]
@[simp] theorem modTr_halt (i : Fin 4) (f : TrEntry → TrEntry) (s : State) : (modTr i f s).halt = s.halt := by rw [modTr_frame]
@[simp] theorem modTr_stop (i : Fin 4) (f : TrEntry → TrEntry) (s : State) : (modTr i f s).stop = s.stop := by rw [modTr_frame]
@[simp] theorem modTr_port (i : Fin 4) (f : TrEntry → TrEntry) (s : State) : (modTr i f s).port = s.port := by rw [modTr_frame]
@[simp] theorem modTr_floor (i : Fin 4) (f : TrEntry → TrEntry) (s : State) : (modTr i f s).floor = s.floor := by rw [modTr_frame]
@[simp] theorem modTr_life (i : Fin 4) (f : TrEntry → TrEntry) (s : State) : (modTr i f s).life = s.life := by rw [modTr_frame]
@[simp] theorem modTr_fault (i : Fin 4) (f : TrEntry → TrEntry) (s : State) : (modTr i f s).fault = s.fault := by rw [modTr_frame]
@[simp] theorem modTr_test (i : Fin 4) (f : TrEntry → TrEntry) (s : State) : (modTr i f s).test = s.test := by rw [modTr_frame]
@[simp] theorem modTr_host (i : Fin 4) (f : TrEntry → TrEntry) (s : State) : (modTr i f s).host = s.host := by rw [modTr_frame]

/-- Aging changes the peer table alone (R43). -/
theorem agePeers_frame (s : State) :
    agePeers s = { s with peers := (agePeers s).peers } := rfl
@[simp] theorem agePeers_pending (s : State) : (agePeers s).pending = s.pending := by rw [agePeers_frame]
@[simp] theorem agePeers_unitId (s : State) : (agePeers s).unitId = s.unitId := by rw [agePeers_frame]
@[simp] theorem agePeers_resets (s : State) : (agePeers s).resets = s.resets := by rw [agePeers_frame]
@[simp] theorem agePeers_now (s : State) : (agePeers s).now = s.now := by rw [agePeers_frame]
@[simp] theorem agePeers_draws (s : State) : (agePeers s).draws = s.draws := by rw [agePeers_frame]
@[simp] theorem agePeers_supTimer (s : State) : (agePeers s).supTimer = s.supTimer := by rw [agePeers_frame]
@[simp] theorem agePeers_pins (s : State) : (agePeers s).pins = s.pins := by rw [agePeers_frame]
@[simp] theorem agePeers_modem (s : State) : (agePeers s).modem = s.modem := by rw [agePeers_frame]
@[simp] theorem agePeers_chan (s : State) : (agePeers s).chan = s.chan := by rw [agePeers_frame]
@[simp] theorem agePeers_bond (s : State) : (agePeers s).bond = s.bond := by rw [agePeers_frame]
@[simp] theorem agePeers_halt (s : State) : (agePeers s).halt = s.halt := by rw [agePeers_frame]
@[simp] theorem agePeers_stop (s : State) : (agePeers s).stop = s.stop := by rw [agePeers_frame]
@[simp] theorem agePeers_port (s : State) : (agePeers s).port = s.port := by rw [agePeers_frame]
@[simp] theorem agePeers_floor (s : State) : (agePeers s).floor = s.floor := by rw [agePeers_frame]
@[simp] theorem agePeers_life (s : State) : (agePeers s).life = s.life := by rw [agePeers_frame]
@[simp] theorem agePeers_fault (s : State) : (agePeers s).fault = s.fault := by rw [agePeers_frame]
@[simp] theorem agePeers_test (s : State) : (agePeers s).test = s.test := by rw [agePeers_frame]
@[simp] theorem agePeers_host (s : State) : (agePeers s).host = s.host := by rw [agePeers_frame]

/-- Freeing a slot changes the bond table and ages peers (R43). -/
theorem freeEntry_frame (i : Fin 4) (s : State) :
    freeEntry i s = { s with bond := (freeEntry i s).bond, peers := (freeEntry i s).peers } := rfl
@[simp] theorem freeEntry_pending (i : Fin 4) (s : State) : (freeEntry i s).pending = s.pending := by rw [freeEntry_frame]
@[simp] theorem freeEntry_unitId (i : Fin 4) (s : State) : (freeEntry i s).unitId = s.unitId := by rw [freeEntry_frame]
@[simp] theorem freeEntry_resets (i : Fin 4) (s : State) : (freeEntry i s).resets = s.resets := by rw [freeEntry_frame]
@[simp] theorem freeEntry_now (i : Fin 4) (s : State) : (freeEntry i s).now = s.now := by rw [freeEntry_frame]
@[simp] theorem freeEntry_draws (i : Fin 4) (s : State) : (freeEntry i s).draws = s.draws := by rw [freeEntry_frame]
@[simp] theorem freeEntry_supTimer (i : Fin 4) (s : State) : (freeEntry i s).supTimer = s.supTimer := by rw [freeEntry_frame]
@[simp] theorem freeEntry_pins (i : Fin 4) (s : State) : (freeEntry i s).pins = s.pins := by rw [freeEntry_frame]
@[simp] theorem freeEntry_modem (i : Fin 4) (s : State) : (freeEntry i s).modem = s.modem := by rw [freeEntry_frame]
@[simp] theorem freeEntry_chan (i : Fin 4) (s : State) : (freeEntry i s).chan = s.chan := by rw [freeEntry_frame]
@[simp] theorem freeEntry_halt (i : Fin 4) (s : State) : (freeEntry i s).halt = s.halt := by rw [freeEntry_frame]
@[simp] theorem freeEntry_stop (i : Fin 4) (s : State) : (freeEntry i s).stop = s.stop := by rw [freeEntry_frame]
@[simp] theorem freeEntry_port (i : Fin 4) (s : State) : (freeEntry i s).port = s.port := by rw [freeEntry_frame]
@[simp] theorem freeEntry_floor (i : Fin 4) (s : State) : (freeEntry i s).floor = s.floor := by rw [freeEntry_frame]
@[simp] theorem freeEntry_life (i : Fin 4) (s : State) : (freeEntry i s).life = s.life := by rw [freeEntry_frame]
@[simp] theorem freeEntry_fault (i : Fin 4) (s : State) : (freeEntry i s).fault = s.fault := by rw [freeEntry_frame]
@[simp] theorem freeEntry_test (i : Fin 4) (s : State) : (freeEntry i s).test = s.test := by rw [freeEntry_frame]
@[simp] theorem freeEntry_host (i : Fin 4) (s : State) : (freeEntry i s).host = s.host := by rw [freeEntry_frame]

/-- A new peer entry changes the peer table alone (R40). -/
theorem addPeer_frame (p : PeerEntry) (s : State) :
    addPeer p s = { s with peers := (addPeer p s).peers } := by unfold addPeer; split <;> rfl

/-- Ensuring a peer changes the peer table alone (R42). -/
theorem ensurePeer_frame (i : Identity) (s : State) :
    ensurePeer i s = { s with peers := (ensurePeer i s).peers } := by unfold ensurePeer; split; rfl; rw [addPeer_frame]
@[simp] theorem ensurePeer_pending (i : Identity) (s : State) : (ensurePeer i s).pending = s.pending := by rw [ensurePeer_frame]
@[simp] theorem ensurePeer_unitId (i : Identity) (s : State) : (ensurePeer i s).unitId = s.unitId := by rw [ensurePeer_frame]
@[simp] theorem ensurePeer_resets (i : Identity) (s : State) : (ensurePeer i s).resets = s.resets := by rw [ensurePeer_frame]
@[simp] theorem ensurePeer_now (i : Identity) (s : State) : (ensurePeer i s).now = s.now := by rw [ensurePeer_frame]
@[simp] theorem ensurePeer_draws (i : Identity) (s : State) : (ensurePeer i s).draws = s.draws := by rw [ensurePeer_frame]
@[simp] theorem ensurePeer_supTimer (i : Identity) (s : State) : (ensurePeer i s).supTimer = s.supTimer := by rw [ensurePeer_frame]
@[simp] theorem ensurePeer_pins (i : Identity) (s : State) : (ensurePeer i s).pins = s.pins := by rw [ensurePeer_frame]
@[simp] theorem ensurePeer_modem (i : Identity) (s : State) : (ensurePeer i s).modem = s.modem := by rw [ensurePeer_frame]
@[simp] theorem ensurePeer_chan (i : Identity) (s : State) : (ensurePeer i s).chan = s.chan := by rw [ensurePeer_frame]
@[simp] theorem ensurePeer_bond (i : Identity) (s : State) : (ensurePeer i s).bond = s.bond := by rw [ensurePeer_frame]
@[simp] theorem ensurePeer_halt (i : Identity) (s : State) : (ensurePeer i s).halt = s.halt := by rw [ensurePeer_frame]
@[simp] theorem ensurePeer_stop (i : Identity) (s : State) : (ensurePeer i s).stop = s.stop := by rw [ensurePeer_frame]
@[simp] theorem ensurePeer_port (i : Identity) (s : State) : (ensurePeer i s).port = s.port := by rw [ensurePeer_frame]
@[simp] theorem ensurePeer_floor (i : Identity) (s : State) : (ensurePeer i s).floor = s.floor := by rw [ensurePeer_frame]
@[simp] theorem ensurePeer_life (i : Identity) (s : State) : (ensurePeer i s).life = s.life := by rw [ensurePeer_frame]
@[simp] theorem ensurePeer_fault (i : Identity) (s : State) : (ensurePeer i s).fault = s.fault := by rw [ensurePeer_frame]
@[simp] theorem ensurePeer_test (i : Identity) (s : State) : (ensurePeer i s).test = s.test := by rw [ensurePeer_frame]
@[simp] theorem ensurePeer_host (i : Identity) (s : State) : (ensurePeer i s).host = s.host := by rw [ensurePeer_frame]

/-- A redraw changes the queue and the count of draws (R24). -/
theorem redraw_frame (s : State) :
    redraw s = { s with chan := (redraw s).chan, draws := (redraw s).draws } := rfl

/-- Judging the view changes the channel and may redraw (R19, R24). -/
theorem judgeView_frame (s : State) :
    judgeView s = { s with chan := (judgeView s).chan, draws := (judgeView s).draws } := by unfold judgeView; dsimp only; split <;> rfl
@[simp] theorem judgeView_pending (s : State) : (judgeView s).pending = s.pending := by rw [judgeView_frame]
@[simp] theorem judgeView_unitId (s : State) : (judgeView s).unitId = s.unitId := by rw [judgeView_frame]
@[simp] theorem judgeView_resets (s : State) : (judgeView s).resets = s.resets := by rw [judgeView_frame]
@[simp] theorem judgeView_now (s : State) : (judgeView s).now = s.now := by rw [judgeView_frame]
@[simp] theorem judgeView_supTimer (s : State) : (judgeView s).supTimer = s.supTimer := by rw [judgeView_frame]
@[simp] theorem judgeView_pins (s : State) : (judgeView s).pins = s.pins := by rw [judgeView_frame]
@[simp] theorem judgeView_modem (s : State) : (judgeView s).modem = s.modem := by rw [judgeView_frame]
@[simp] theorem judgeView_peers (s : State) : (judgeView s).peers = s.peers := by rw [judgeView_frame]
@[simp] theorem judgeView_bond (s : State) : (judgeView s).bond = s.bond := by rw [judgeView_frame]
@[simp] theorem judgeView_halt (s : State) : (judgeView s).halt = s.halt := by rw [judgeView_frame]
@[simp] theorem judgeView_stop (s : State) : (judgeView s).stop = s.stop := by rw [judgeView_frame]
@[simp] theorem judgeView_port (s : State) : (judgeView s).port = s.port := by rw [judgeView_frame]
@[simp] theorem judgeView_floor (s : State) : (judgeView s).floor = s.floor := by rw [judgeView_frame]
@[simp] theorem judgeView_life (s : State) : (judgeView s).life = s.life := by rw [judgeView_frame]
@[simp] theorem judgeView_fault (s : State) : (judgeView s).fault = s.fault := by rw [judgeView_frame]
@[simp] theorem judgeView_test (s : State) : (judgeView s).test = s.test := by rw [judgeView_frame]
@[simp] theorem judgeView_host (s : State) : (judgeView s).host = s.host := by rw [judgeView_frame]

/-- A frame taken changes the queue and the count of draws (R21, R24). -/
theorem enqueue_frame (q : List QEntry) (f : Frame) (n : Option Nat) (t : OwnerTag) (s : State) :
    enqueue q f n t s = { s with chan := (enqueue q f n t s).chan, draws := (enqueue q f n t s).draws } := by unfold enqueue; dsimp only; split <;> rfl
@[simp] theorem enqueue_pending (q : List QEntry) (f : Frame) (n : Option Nat) (t : OwnerTag) (s : State) : (enqueue q f n t s).pending = s.pending := by rw [enqueue_frame]
@[simp] theorem enqueue_unitId (q : List QEntry) (f : Frame) (n : Option Nat) (t : OwnerTag) (s : State) : (enqueue q f n t s).unitId = s.unitId := by rw [enqueue_frame]
@[simp] theorem enqueue_resets (q : List QEntry) (f : Frame) (n : Option Nat) (t : OwnerTag) (s : State) : (enqueue q f n t s).resets = s.resets := by rw [enqueue_frame]
@[simp] theorem enqueue_now (q : List QEntry) (f : Frame) (n : Option Nat) (t : OwnerTag) (s : State) : (enqueue q f n t s).now = s.now := by rw [enqueue_frame]
@[simp] theorem enqueue_supTimer (q : List QEntry) (f : Frame) (n : Option Nat) (t : OwnerTag) (s : State) : (enqueue q f n t s).supTimer = s.supTimer := by rw [enqueue_frame]
@[simp] theorem enqueue_pins (q : List QEntry) (f : Frame) (n : Option Nat) (t : OwnerTag) (s : State) : (enqueue q f n t s).pins = s.pins := by rw [enqueue_frame]
@[simp] theorem enqueue_modem (q : List QEntry) (f : Frame) (n : Option Nat) (t : OwnerTag) (s : State) : (enqueue q f n t s).modem = s.modem := by rw [enqueue_frame]
@[simp] theorem enqueue_peers (q : List QEntry) (f : Frame) (n : Option Nat) (t : OwnerTag) (s : State) : (enqueue q f n t s).peers = s.peers := by rw [enqueue_frame]
@[simp] theorem enqueue_bond (q : List QEntry) (f : Frame) (n : Option Nat) (t : OwnerTag) (s : State) : (enqueue q f n t s).bond = s.bond := by rw [enqueue_frame]
@[simp] theorem enqueue_halt (q : List QEntry) (f : Frame) (n : Option Nat) (t : OwnerTag) (s : State) : (enqueue q f n t s).halt = s.halt := by rw [enqueue_frame]
@[simp] theorem enqueue_stop (q : List QEntry) (f : Frame) (n : Option Nat) (t : OwnerTag) (s : State) : (enqueue q f n t s).stop = s.stop := by rw [enqueue_frame]
@[simp] theorem enqueue_port (q : List QEntry) (f : Frame) (n : Option Nat) (t : OwnerTag) (s : State) : (enqueue q f n t s).port = s.port := by rw [enqueue_frame]
@[simp] theorem enqueue_floor (q : List QEntry) (f : Frame) (n : Option Nat) (t : OwnerTag) (s : State) : (enqueue q f n t s).floor = s.floor := by rw [enqueue_frame]
@[simp] theorem enqueue_life (q : List QEntry) (f : Frame) (n : Option Nat) (t : OwnerTag) (s : State) : (enqueue q f n t s).life = s.life := by rw [enqueue_frame]
@[simp] theorem enqueue_fault (q : List QEntry) (f : Frame) (n : Option Nat) (t : OwnerTag) (s : State) : (enqueue q f n t s).fault = s.fault := by rw [enqueue_frame]
@[simp] theorem enqueue_test (q : List QEntry) (f : Frame) (n : Option Nat) (t : OwnerTag) (s : State) : (enqueue q f n t s).test = s.test := by rw [enqueue_frame]
@[simp] theorem enqueue_host (q : List QEntry) (f : Frame) (n : Option Nat) (t : OwnerTag) (s : State) : (enqueue q f n t s).host = s.host := by rw [enqueue_frame]

/-- Judging the marks again changes the queue alone (R22). -/
theorem refreshWake_frame (s : State) :
    refreshWake s = { s with chan := (refreshWake s).chan } := rfl

/-- A removal changes the queue alone (R32). -/
theorem withdraw_frame (t : OwnerTag) (s : State) :
    withdraw t s = { s with chan := (withdraw t s).chan } := by unfold withdraw; split <;> rfl
@[simp] theorem withdraw_pending (t : OwnerTag) (s : State) : (withdraw t s).pending = s.pending := by rw [withdraw_frame]
@[simp] theorem withdraw_unitId (t : OwnerTag) (s : State) : (withdraw t s).unitId = s.unitId := by rw [withdraw_frame]
@[simp] theorem withdraw_resets (t : OwnerTag) (s : State) : (withdraw t s).resets = s.resets := by rw [withdraw_frame]
@[simp] theorem withdraw_now (t : OwnerTag) (s : State) : (withdraw t s).now = s.now := by rw [withdraw_frame]
@[simp] theorem withdraw_draws (t : OwnerTag) (s : State) : (withdraw t s).draws = s.draws := by rw [withdraw_frame]
@[simp] theorem withdraw_supTimer (t : OwnerTag) (s : State) : (withdraw t s).supTimer = s.supTimer := by rw [withdraw_frame]
@[simp] theorem withdraw_pins (t : OwnerTag) (s : State) : (withdraw t s).pins = s.pins := by rw [withdraw_frame]
@[simp] theorem withdraw_modem (t : OwnerTag) (s : State) : (withdraw t s).modem = s.modem := by rw [withdraw_frame]
@[simp] theorem withdraw_peers (t : OwnerTag) (s : State) : (withdraw t s).peers = s.peers := by rw [withdraw_frame]
@[simp] theorem withdraw_bond (t : OwnerTag) (s : State) : (withdraw t s).bond = s.bond := by rw [withdraw_frame]
@[simp] theorem withdraw_halt (t : OwnerTag) (s : State) : (withdraw t s).halt = s.halt := by rw [withdraw_frame]
@[simp] theorem withdraw_stop (t : OwnerTag) (s : State) : (withdraw t s).stop = s.stop := by rw [withdraw_frame]
@[simp] theorem withdraw_port (t : OwnerTag) (s : State) : (withdraw t s).port = s.port := by rw [withdraw_frame]
@[simp] theorem withdraw_floor (t : OwnerTag) (s : State) : (withdraw t s).floor = s.floor := by rw [withdraw_frame]
@[simp] theorem withdraw_life (t : OwnerTag) (s : State) : (withdraw t s).life = s.life := by rw [withdraw_frame]
@[simp] theorem withdraw_fault (t : OwnerTag) (s : State) : (withdraw t s).fault = s.fault := by rw [withdraw_frame]
@[simp] theorem withdraw_test (t : OwnerTag) (s : State) : (withdraw t s).test = s.test := by rw [withdraw_frame]
@[simp] theorem withdraw_host (t : OwnerTag) (s : State) : (withdraw t s).host = s.host := by rw [withdraw_frame]

/-- A removal of a waiting frame changes the queue alone (R32). -/
theorem withdrawWaiting_frame (t : OwnerTag) (s : State) :
    withdrawWaiting t s = { s with chan := (withdrawWaiting t s).chan } := by unfold withdrawWaiting; split; (rw [withdraw_frame]); rfl
@[simp] theorem withdrawWaiting_pending (t : OwnerTag) (s : State) : (withdrawWaiting t s).pending = s.pending := by rw [withdrawWaiting_frame]
@[simp] theorem withdrawWaiting_unitId (t : OwnerTag) (s : State) : (withdrawWaiting t s).unitId = s.unitId := by rw [withdrawWaiting_frame]
@[simp] theorem withdrawWaiting_resets (t : OwnerTag) (s : State) : (withdrawWaiting t s).resets = s.resets := by rw [withdrawWaiting_frame]
@[simp] theorem withdrawWaiting_now (t : OwnerTag) (s : State) : (withdrawWaiting t s).now = s.now := by rw [withdrawWaiting_frame]
@[simp] theorem withdrawWaiting_draws (t : OwnerTag) (s : State) : (withdrawWaiting t s).draws = s.draws := by rw [withdrawWaiting_frame]
@[simp] theorem withdrawWaiting_supTimer (t : OwnerTag) (s : State) : (withdrawWaiting t s).supTimer = s.supTimer := by rw [withdrawWaiting_frame]
@[simp] theorem withdrawWaiting_pins (t : OwnerTag) (s : State) : (withdrawWaiting t s).pins = s.pins := by rw [withdrawWaiting_frame]
@[simp] theorem withdrawWaiting_modem (t : OwnerTag) (s : State) : (withdrawWaiting t s).modem = s.modem := by rw [withdrawWaiting_frame]
@[simp] theorem withdrawWaiting_peers (t : OwnerTag) (s : State) : (withdrawWaiting t s).peers = s.peers := by rw [withdrawWaiting_frame]
@[simp] theorem withdrawWaiting_bond (t : OwnerTag) (s : State) : (withdrawWaiting t s).bond = s.bond := by rw [withdrawWaiting_frame]
@[simp] theorem withdrawWaiting_halt (t : OwnerTag) (s : State) : (withdrawWaiting t s).halt = s.halt := by rw [withdrawWaiting_frame]
@[simp] theorem withdrawWaiting_stop (t : OwnerTag) (s : State) : (withdrawWaiting t s).stop = s.stop := by rw [withdrawWaiting_frame]
@[simp] theorem withdrawWaiting_port (t : OwnerTag) (s : State) : (withdrawWaiting t s).port = s.port := by rw [withdrawWaiting_frame]
@[simp] theorem withdrawWaiting_floor (t : OwnerTag) (s : State) : (withdrawWaiting t s).floor = s.floor := by rw [withdrawWaiting_frame]
@[simp] theorem withdrawWaiting_life (t : OwnerTag) (s : State) : (withdrawWaiting t s).life = s.life := by rw [withdrawWaiting_frame]
@[simp] theorem withdrawWaiting_fault (t : OwnerTag) (s : State) : (withdrawWaiting t s).fault = s.fault := by rw [withdrawWaiting_frame]
@[simp] theorem withdrawWaiting_test (t : OwnerTag) (s : State) : (withdrawWaiting t s).test = s.test := by rw [withdrawWaiting_frame]
@[simp] theorem withdrawWaiting_host (t : OwnerTag) (s : State) : (withdrawWaiting t s).host = s.host := by rw [withdrawWaiting_frame]

/-- Releasing KEY changes the channel and may redraw (R29). -/
theorem releaseKey_frame (s : State) :
    releaseKey s = { s with chan := (releaseKey s).chan, draws := (releaseKey s).draws } := by unfold releaseKey; rw [judgeView_frame]; rfl

/-- Leaving the air changes the channel and may redraw (R29). -/
theorem leaveAir_frame (s : State) :
    leaveAir s = { s with chan := (leaveAir s).chan, draws := (leaveAir s).draws } := by unfold leaveAir; rw [releaseKey_frame]; rfl
@[simp] theorem leaveAir_pending (s : State) : (leaveAir s).pending = s.pending := by rw [leaveAir_frame]
@[simp] theorem leaveAir_unitId (s : State) : (leaveAir s).unitId = s.unitId := by rw [leaveAir_frame]
@[simp] theorem leaveAir_resets (s : State) : (leaveAir s).resets = s.resets := by rw [leaveAir_frame]
@[simp] theorem leaveAir_now (s : State) : (leaveAir s).now = s.now := by rw [leaveAir_frame]
@[simp] theorem leaveAir_supTimer (s : State) : (leaveAir s).supTimer = s.supTimer := by rw [leaveAir_frame]
@[simp] theorem leaveAir_pins (s : State) : (leaveAir s).pins = s.pins := by rw [leaveAir_frame]
@[simp] theorem leaveAir_modem (s : State) : (leaveAir s).modem = s.modem := by rw [leaveAir_frame]
@[simp] theorem leaveAir_peers (s : State) : (leaveAir s).peers = s.peers := by rw [leaveAir_frame]
@[simp] theorem leaveAir_bond (s : State) : (leaveAir s).bond = s.bond := by rw [leaveAir_frame]
@[simp] theorem leaveAir_halt (s : State) : (leaveAir s).halt = s.halt := by rw [leaveAir_frame]
@[simp] theorem leaveAir_stop (s : State) : (leaveAir s).stop = s.stop := by rw [leaveAir_frame]
@[simp] theorem leaveAir_port (s : State) : (leaveAir s).port = s.port := by rw [leaveAir_frame]
@[simp] theorem leaveAir_floor (s : State) : (leaveAir s).floor = s.floor := by rw [leaveAir_frame]
@[simp] theorem leaveAir_life (s : State) : (leaveAir s).life = s.life := by rw [leaveAir_frame]
@[simp] theorem leaveAir_fault (s : State) : (leaveAir s).fault = s.fault := by rw [leaveAir_frame]
@[simp] theorem leaveAir_test (s : State) : (leaveAir s).test = s.test := by rw [leaveAir_frame]
@[simp] theorem leaveAir_host (s : State) : (leaveAir s).host = s.host := by rw [leaveAir_frame]

/-- The end of a frame changes the receive state and the view (R6). -/
theorem endReading_frame (s : State) :
    endReading s = { s with modem := (endReading s).modem, chan := (endReading s).chan, draws := (endReading s).draws } := by unfold endReading; rw [judgeView_frame]; rfl
@[simp] theorem endReading_pending (s : State) : (endReading s).pending = s.pending := by rw [endReading_frame]
@[simp] theorem endReading_unitId (s : State) : (endReading s).unitId = s.unitId := by rw [endReading_frame]
@[simp] theorem endReading_resets (s : State) : (endReading s).resets = s.resets := by rw [endReading_frame]
@[simp] theorem endReading_now (s : State) : (endReading s).now = s.now := by rw [endReading_frame]
@[simp] theorem endReading_supTimer (s : State) : (endReading s).supTimer = s.supTimer := by rw [endReading_frame]
@[simp] theorem endReading_pins (s : State) : (endReading s).pins = s.pins := by rw [endReading_frame]
@[simp] theorem endReading_peers (s : State) : (endReading s).peers = s.peers := by rw [endReading_frame]
@[simp] theorem endReading_bond (s : State) : (endReading s).bond = s.bond := by rw [endReading_frame]
@[simp] theorem endReading_halt (s : State) : (endReading s).halt = s.halt := by rw [endReading_frame]
@[simp] theorem endReading_stop (s : State) : (endReading s).stop = s.stop := by rw [endReading_frame]
@[simp] theorem endReading_port (s : State) : (endReading s).port = s.port := by rw [endReading_frame]
@[simp] theorem endReading_floor (s : State) : (endReading s).floor = s.floor := by rw [endReading_frame]
@[simp] theorem endReading_life (s : State) : (endReading s).life = s.life := by rw [endReading_frame]
@[simp] theorem endReading_fault (s : State) : (endReading s).fault = s.fault := by rw [endReading_frame]
@[simp] theorem endReading_test (s : State) : (endReading s).test = s.test := by rw [endReading_frame]
@[simp] theorem endReading_host (s : State) : (endReading s).host = s.host := by rw [endReading_frame]

/-- A conflict changes the peer table's deadline and the fault monitor (R47). -/
theorem showConflict_frame (i : Identity) (n : Nat) (s : State) :
    showConflict i n s = { s with peers := (showConflict i n s).peers, fault := (showConflict i n s).fault, host := (showConflict i n s).host } := by unfold showConflict; split; rfl; rw [faultLive_frame]; rfl

/-- Learning changes the peer table, the queue's flags, and through a conflict the fault monitor (R40, R41, R46, R47). -/
theorem learn_frame (f : Frame) (r : Rate) (n q : Nat) (s : State) :
    learn f r n q s = { s with chan := (learn f r n q s).chan, peers := (learn f r n q s).peers, fault := (learn f r n q s).fault, host := (learn f r n q s).host } := by
  unfold learn
  dsimp only
  repeat' split
  all_goals first
    | (rw [showConflict_frame]; rfl)
    | rw [refreshWake_frame, showConflict_frame]
    | (rw [addPeer_frame]; done)
    | rw [refreshWake_frame, addPeer_frame]
    | rfl
@[simp] theorem learn_pending (f : Frame) (r : Rate) (n q : Nat) (s : State) : (learn f r n q s).pending = s.pending := by rw [learn_frame]
@[simp] theorem learn_unitId (f : Frame) (r : Rate) (n q : Nat) (s : State) : (learn f r n q s).unitId = s.unitId := by rw [learn_frame]
@[simp] theorem learn_resets (f : Frame) (r : Rate) (n q : Nat) (s : State) : (learn f r n q s).resets = s.resets := by rw [learn_frame]
@[simp] theorem learn_now (f : Frame) (r : Rate) (n q : Nat) (s : State) : (learn f r n q s).now = s.now := by rw [learn_frame]
@[simp] theorem learn_draws (f : Frame) (r : Rate) (n q : Nat) (s : State) : (learn f r n q s).draws = s.draws := by rw [learn_frame]
@[simp] theorem learn_supTimer (f : Frame) (r : Rate) (n q : Nat) (s : State) : (learn f r n q s).supTimer = s.supTimer := by rw [learn_frame]
@[simp] theorem learn_pins (f : Frame) (r : Rate) (n q : Nat) (s : State) : (learn f r n q s).pins = s.pins := by rw [learn_frame]
@[simp] theorem learn_modem (f : Frame) (r : Rate) (n q : Nat) (s : State) : (learn f r n q s).modem = s.modem := by rw [learn_frame]
@[simp] theorem learn_bond (f : Frame) (r : Rate) (n q : Nat) (s : State) : (learn f r n q s).bond = s.bond := by rw [learn_frame]
@[simp] theorem learn_halt (f : Frame) (r : Rate) (n q : Nat) (s : State) : (learn f r n q s).halt = s.halt := by rw [learn_frame]
@[simp] theorem learn_stop (f : Frame) (r : Rate) (n q : Nat) (s : State) : (learn f r n q s).stop = s.stop := by rw [learn_frame]
@[simp] theorem learn_port (f : Frame) (r : Rate) (n q : Nat) (s : State) : (learn f r n q s).port = s.port := by rw [learn_frame]
@[simp] theorem learn_floor (f : Frame) (r : Rate) (n q : Nat) (s : State) : (learn f r n q s).floor = s.floor := by rw [learn_frame]
@[simp] theorem learn_life (f : Frame) (r : Rate) (n q : Nat) (s : State) : (learn f r n q s).life = s.life := by rw [learn_frame]
@[simp] theorem learn_test (f : Frame) (r : Rate) (n q : Nat) (s : State) : (learn f r n q s).test = s.test := by rw [learn_frame]

/-- Activity changes station control alone (R160). -/
theorem noteActivity_frame (s : State) :
    noteActivity s = { s with life := (noteActivity s).life } := rfl
@[simp] theorem noteActivity_pending (s : State) : (noteActivity s).pending = s.pending := by rw [noteActivity_frame]
@[simp] theorem noteActivity_unitId (s : State) : (noteActivity s).unitId = s.unitId := by rw [noteActivity_frame]
@[simp] theorem noteActivity_resets (s : State) : (noteActivity s).resets = s.resets := by rw [noteActivity_frame]
@[simp] theorem noteActivity_now (s : State) : (noteActivity s).now = s.now := by rw [noteActivity_frame]
@[simp] theorem noteActivity_draws (s : State) : (noteActivity s).draws = s.draws := by rw [noteActivity_frame]
@[simp] theorem noteActivity_supTimer (s : State) : (noteActivity s).supTimer = s.supTimer := by rw [noteActivity_frame]
@[simp] theorem noteActivity_pins (s : State) : (noteActivity s).pins = s.pins := by rw [noteActivity_frame]
@[simp] theorem noteActivity_modem (s : State) : (noteActivity s).modem = s.modem := by rw [noteActivity_frame]
@[simp] theorem noteActivity_chan (s : State) : (noteActivity s).chan = s.chan := by rw [noteActivity_frame]
@[simp] theorem noteActivity_peers (s : State) : (noteActivity s).peers = s.peers := by rw [noteActivity_frame]
@[simp] theorem noteActivity_bond (s : State) : (noteActivity s).bond = s.bond := by rw [noteActivity_frame]
@[simp] theorem noteActivity_halt (s : State) : (noteActivity s).halt = s.halt := by rw [noteActivity_frame]
@[simp] theorem noteActivity_stop (s : State) : (noteActivity s).stop = s.stop := by rw [noteActivity_frame]
@[simp] theorem noteActivity_port (s : State) : (noteActivity s).port = s.port := by rw [noteActivity_frame]
@[simp] theorem noteActivity_floor (s : State) : (noteActivity s).floor = s.floor := by rw [noteActivity_frame]
@[simp] theorem noteActivity_fault (s : State) : (noteActivity s).fault = s.fault := by rw [noteActivity_frame]
@[simp] theorem noteActivity_test (s : State) : (noteActivity s).test = s.test := by rw [noteActivity_frame]
@[simp] theorem noteActivity_host (s : State) : (noteActivity s).host = s.host := by rw [noteActivity_frame]

/-- Withdrawing the notice changes the queue, the notice record and the reports (R163). -/
theorem withdrawNotice_frame (s : State) :
    withdrawNotice s = { s with chan := (withdrawNotice s).chan, life := (withdrawNotice s).life, host := (withdrawNotice s).host } := by
  unfold withdrawNotice
  split
  · split
    · unfold raiseDormancy
      rw [raise_frame, setNotice_eq, withdraw_frame]; rfl
    · rw [setNotice_eq, withdraw_frame]; rfl
    · rfl
  · rfl
@[simp] theorem withdrawNotice_pending (s : State) : (withdrawNotice s).pending = s.pending := by rw [withdrawNotice_frame]
@[simp] theorem withdrawNotice_unitId (s : State) : (withdrawNotice s).unitId = s.unitId := by rw [withdrawNotice_frame]
@[simp] theorem withdrawNotice_resets (s : State) : (withdrawNotice s).resets = s.resets := by rw [withdrawNotice_frame]
@[simp] theorem withdrawNotice_now (s : State) : (withdrawNotice s).now = s.now := by rw [withdrawNotice_frame]
@[simp] theorem withdrawNotice_draws (s : State) : (withdrawNotice s).draws = s.draws := by rw [withdrawNotice_frame]
@[simp] theorem withdrawNotice_supTimer (s : State) : (withdrawNotice s).supTimer = s.supTimer := by rw [withdrawNotice_frame]
@[simp] theorem withdrawNotice_pins (s : State) : (withdrawNotice s).pins = s.pins := by rw [withdrawNotice_frame]
@[simp] theorem withdrawNotice_modem (s : State) : (withdrawNotice s).modem = s.modem := by rw [withdrawNotice_frame]
@[simp] theorem withdrawNotice_peers (s : State) : (withdrawNotice s).peers = s.peers := by rw [withdrawNotice_frame]
@[simp] theorem withdrawNotice_bond (s : State) : (withdrawNotice s).bond = s.bond := by rw [withdrawNotice_frame]
@[simp] theorem withdrawNotice_halt (s : State) : (withdrawNotice s).halt = s.halt := by rw [withdrawNotice_frame]
@[simp] theorem withdrawNotice_stop (s : State) : (withdrawNotice s).stop = s.stop := by rw [withdrawNotice_frame]
@[simp] theorem withdrawNotice_port (s : State) : (withdrawNotice s).port = s.port := by rw [withdrawNotice_frame]
@[simp] theorem withdrawNotice_floor (s : State) : (withdrawNotice s).floor = s.floor := by rw [withdrawNotice_frame]
@[simp] theorem withdrawNotice_fault (s : State) : (withdrawNotice s).fault = s.fault := by rw [withdrawNotice_frame]
@[simp] theorem withdrawNotice_test (s : State) : (withdrawNotice s).test = s.test := by rw [withdrawNotice_frame]

/-- The same, when a condition has ended (R162). -/
theorem judgeNotice_frame (s : State) :
    judgeNotice s = { s with chan := (judgeNotice s).chan, life := (judgeNotice s).life, host := (judgeNotice s).host } := by unfold judgeNotice; split; rfl; rw [withdrawNotice_frame]
@[simp] theorem judgeNotice_pending (s : State) : (judgeNotice s).pending = s.pending := by rw [judgeNotice_frame]
@[simp] theorem judgeNotice_unitId (s : State) : (judgeNotice s).unitId = s.unitId := by rw [judgeNotice_frame]
@[simp] theorem judgeNotice_resets (s : State) : (judgeNotice s).resets = s.resets := by rw [judgeNotice_frame]
@[simp] theorem judgeNotice_now (s : State) : (judgeNotice s).now = s.now := by rw [judgeNotice_frame]
@[simp] theorem judgeNotice_draws (s : State) : (judgeNotice s).draws = s.draws := by rw [judgeNotice_frame]
@[simp] theorem judgeNotice_supTimer (s : State) : (judgeNotice s).supTimer = s.supTimer := by rw [judgeNotice_frame]
@[simp] theorem judgeNotice_pins (s : State) : (judgeNotice s).pins = s.pins := by rw [judgeNotice_frame]
@[simp] theorem judgeNotice_modem (s : State) : (judgeNotice s).modem = s.modem := by rw [judgeNotice_frame]
@[simp] theorem judgeNotice_peers (s : State) : (judgeNotice s).peers = s.peers := by rw [judgeNotice_frame]
@[simp] theorem judgeNotice_bond (s : State) : (judgeNotice s).bond = s.bond := by rw [judgeNotice_frame]
@[simp] theorem judgeNotice_halt (s : State) : (judgeNotice s).halt = s.halt := by rw [judgeNotice_frame]
@[simp] theorem judgeNotice_stop (s : State) : (judgeNotice s).stop = s.stop := by rw [judgeNotice_frame]
@[simp] theorem judgeNotice_port (s : State) : (judgeNotice s).port = s.port := by rw [judgeNotice_frame]
@[simp] theorem judgeNotice_floor (s : State) : (judgeNotice s).floor = s.floor := by rw [judgeNotice_frame]
@[simp] theorem judgeNotice_fault (s : State) : (judgeNotice s).fault = s.fault := by rw [judgeNotice_frame]
@[simp] theorem judgeNotice_test (s : State) : (judgeNotice s).test = s.test := by rw [judgeNotice_frame]

/-- A frame as activity changes the same (R160). -/
theorem frameActivity_frame (f : Frame) (s : State) :
    frameActivity f s = { s with chan := (frameActivity f s).chan, life := (frameActivity f s).life, host := (frameActivity f s).host } := by unfold frameActivity; split; (rw [withdrawNotice_frame]; rfl); rfl
@[simp] theorem frameActivity_pending (f : Frame) (s : State) : (frameActivity f s).pending = s.pending := by rw [frameActivity_frame]
@[simp] theorem frameActivity_unitId (f : Frame) (s : State) : (frameActivity f s).unitId = s.unitId := by rw [frameActivity_frame]
@[simp] theorem frameActivity_resets (f : Frame) (s : State) : (frameActivity f s).resets = s.resets := by rw [frameActivity_frame]
@[simp] theorem frameActivity_now (f : Frame) (s : State) : (frameActivity f s).now = s.now := by rw [frameActivity_frame]
@[simp] theorem frameActivity_draws (f : Frame) (s : State) : (frameActivity f s).draws = s.draws := by rw [frameActivity_frame]
@[simp] theorem frameActivity_supTimer (f : Frame) (s : State) : (frameActivity f s).supTimer = s.supTimer := by rw [frameActivity_frame]
@[simp] theorem frameActivity_pins (f : Frame) (s : State) : (frameActivity f s).pins = s.pins := by rw [frameActivity_frame]
@[simp] theorem frameActivity_modem (f : Frame) (s : State) : (frameActivity f s).modem = s.modem := by rw [frameActivity_frame]
@[simp] theorem frameActivity_peers (f : Frame) (s : State) : (frameActivity f s).peers = s.peers := by rw [frameActivity_frame]
@[simp] theorem frameActivity_bond (f : Frame) (s : State) : (frameActivity f s).bond = s.bond := by rw [frameActivity_frame]
@[simp] theorem frameActivity_halt (f : Frame) (s : State) : (frameActivity f s).halt = s.halt := by rw [frameActivity_frame]
@[simp] theorem frameActivity_stop (f : Frame) (s : State) : (frameActivity f s).stop = s.stop := by rw [frameActivity_frame]
@[simp] theorem frameActivity_port (f : Frame) (s : State) : (frameActivity f s).port = s.port := by rw [frameActivity_frame]
@[simp] theorem frameActivity_floor (f : Frame) (s : State) : (frameActivity f s).floor = s.floor := by rw [frameActivity_frame]
@[simp] theorem frameActivity_fault (f : Frame) (s : State) : (frameActivity f s).fault = s.fault := by rw [frameActivity_frame]
@[simp] theorem frameActivity_test (f : Frame) (s : State) : (frameActivity f s).test = s.test := by rw [frameActivity_frame]

/-- What comes before a frame's owner changes no bond, stop, halt, floor, test or port state (R11). -/
theorem handed_frame (d : Nat) (f : Frame) (r : Rate) (n : Nat) (s : State) :
    handed d f r n s = { s with draws := (handed d f r n s).draws, modem := (handed d f r n s).modem, chan := (handed d f r n s).chan, peers := (handed d f r n s).peers, life := (handed d f r n s).life, fault := (handed d f r n s).fault, host := (handed d f r n s).host } := by unfold handed; rw [frameActivity_frame, learn_frame, endReading_frame]
@[simp] theorem handed_pending (d : Nat) (f : Frame) (r : Rate) (n : Nat) (s : State) : (handed d f r n s).pending = s.pending := by rw [handed_frame]
@[simp] theorem handed_unitId (d : Nat) (f : Frame) (r : Rate) (n : Nat) (s : State) : (handed d f r n s).unitId = s.unitId := by rw [handed_frame]
@[simp] theorem handed_resets (d : Nat) (f : Frame) (r : Rate) (n : Nat) (s : State) : (handed d f r n s).resets = s.resets := by rw [handed_frame]
@[simp] theorem handed_now (d : Nat) (f : Frame) (r : Rate) (n : Nat) (s : State) : (handed d f r n s).now = s.now := by rw [handed_frame]
@[simp] theorem handed_supTimer (d : Nat) (f : Frame) (r : Rate) (n : Nat) (s : State) : (handed d f r n s).supTimer = s.supTimer := by rw [handed_frame]
@[simp] theorem handed_pins (d : Nat) (f : Frame) (r : Rate) (n : Nat) (s : State) : (handed d f r n s).pins = s.pins := by rw [handed_frame]
@[simp] theorem handed_bond (d : Nat) (f : Frame) (r : Rate) (n : Nat) (s : State) : (handed d f r n s).bond = s.bond := by rw [handed_frame]
@[simp] theorem handed_halt (d : Nat) (f : Frame) (r : Rate) (n : Nat) (s : State) : (handed d f r n s).halt = s.halt := by rw [handed_frame]
@[simp] theorem handed_stop (d : Nat) (f : Frame) (r : Rate) (n : Nat) (s : State) : (handed d f r n s).stop = s.stop := by rw [handed_frame]
@[simp] theorem handed_port (d : Nat) (f : Frame) (r : Rate) (n : Nat) (s : State) : (handed d f r n s).port = s.port := by rw [handed_frame]
@[simp] theorem handed_floor (d : Nat) (f : Frame) (r : Rate) (n : Nat) (s : State) : (handed d f r n s).floor = s.floor := by rw [handed_frame]
@[simp] theorem handed_test (d : Nat) (f : Frame) (r : Rate) (n : Nat) (s : State) : (handed d f r n s).test = s.test := by rw [handed_frame]

/-- Contact changes the bond table, and at a regained bond the reports and LINK (R92). -/
theorem contact_frame (i : Identity) (s : State) :
    contact i s = { s with bond := (contact i s).bond, fault := (contact i s).fault, host := (contact i s).host } := by
  unfold contact
  split
  · split
    · dsimp only
      split
      · unfold endLinkIfLost
        split
        · rw [faultEnd_frame, raiseBond_frame, modTr_frame, modSup, modTr_frame]
        · rw [raiseBond_frame, modTr_frame, modSup, modTr_frame]
      · rw [modSup, modTr_frame]
    · rfl
  · rfl
@[simp] theorem contact_pending (i : Identity) (s : State) : (contact i s).pending = s.pending := by rw [contact_frame]
@[simp] theorem contact_unitId (i : Identity) (s : State) : (contact i s).unitId = s.unitId := by rw [contact_frame]
@[simp] theorem contact_resets (i : Identity) (s : State) : (contact i s).resets = s.resets := by rw [contact_frame]
@[simp] theorem contact_now (i : Identity) (s : State) : (contact i s).now = s.now := by rw [contact_frame]
@[simp] theorem contact_draws (i : Identity) (s : State) : (contact i s).draws = s.draws := by rw [contact_frame]
@[simp] theorem contact_supTimer (i : Identity) (s : State) : (contact i s).supTimer = s.supTimer := by rw [contact_frame]
@[simp] theorem contact_pins (i : Identity) (s : State) : (contact i s).pins = s.pins := by rw [contact_frame]
@[simp] theorem contact_modem (i : Identity) (s : State) : (contact i s).modem = s.modem := by rw [contact_frame]
@[simp] theorem contact_chan (i : Identity) (s : State) : (contact i s).chan = s.chan := by rw [contact_frame]
@[simp] theorem contact_peers (i : Identity) (s : State) : (contact i s).peers = s.peers := by rw [contact_frame]
@[simp] theorem contact_halt (i : Identity) (s : State) : (contact i s).halt = s.halt := by rw [contact_frame]
@[simp] theorem contact_stop (i : Identity) (s : State) : (contact i s).stop = s.stop := by rw [contact_frame]
@[simp] theorem contact_port (i : Identity) (s : State) : (contact i s).port = s.port := by rw [contact_frame]
@[simp] theorem contact_floor (i : Identity) (s : State) : (contact i s).floor = s.floor := by rw [contact_frame]
@[simp] theorem contact_life (i : Identity) (s : State) : (contact i s).life = s.life := by rw [contact_frame]
@[simp] theorem contact_test (i : Identity) (s : State) : (contact i s).test = s.test := by rw [contact_frame]

/-- Preparing an answer changes the host link alone (R180). -/
theorem prepare_frame (a : Prepared) (s : State) :
    prepare a s = { s with host := (prepare a s).host } := rfl
@[simp] theorem prepare_pending (a : Prepared) (s : State) : (prepare a s).pending = s.pending := by rw [prepare_frame]
@[simp] theorem prepare_unitId (a : Prepared) (s : State) : (prepare a s).unitId = s.unitId := by rw [prepare_frame]
@[simp] theorem prepare_resets (a : Prepared) (s : State) : (prepare a s).resets = s.resets := by rw [prepare_frame]
@[simp] theorem prepare_now (a : Prepared) (s : State) : (prepare a s).now = s.now := by rw [prepare_frame]
@[simp] theorem prepare_draws (a : Prepared) (s : State) : (prepare a s).draws = s.draws := by rw [prepare_frame]
@[simp] theorem prepare_supTimer (a : Prepared) (s : State) : (prepare a s).supTimer = s.supTimer := by rw [prepare_frame]
@[simp] theorem prepare_pins (a : Prepared) (s : State) : (prepare a s).pins = s.pins := by rw [prepare_frame]
@[simp] theorem prepare_modem (a : Prepared) (s : State) : (prepare a s).modem = s.modem := by rw [prepare_frame]
@[simp] theorem prepare_chan (a : Prepared) (s : State) : (prepare a s).chan = s.chan := by rw [prepare_frame]
@[simp] theorem prepare_peers (a : Prepared) (s : State) : (prepare a s).peers = s.peers := by rw [prepare_frame]
@[simp] theorem prepare_bond (a : Prepared) (s : State) : (prepare a s).bond = s.bond := by rw [prepare_frame]
@[simp] theorem prepare_halt (a : Prepared) (s : State) : (prepare a s).halt = s.halt := by rw [prepare_frame]
@[simp] theorem prepare_stop (a : Prepared) (s : State) : (prepare a s).stop = s.stop := by rw [prepare_frame]
@[simp] theorem prepare_port (a : Prepared) (s : State) : (prepare a s).port = s.port := by rw [prepare_frame]
@[simp] theorem prepare_floor (a : Prepared) (s : State) : (prepare a s).floor = s.floor := by rw [prepare_frame]
@[simp] theorem prepare_life (a : Prepared) (s : State) : (prepare a s).life = s.life := by rw [prepare_frame]
@[simp] theorem prepare_fault (a : Prepared) (s : State) : (prepare a s).fault = s.fault := by rw [prepare_frame]
@[simp] theorem prepare_test (a : Prepared) (s : State) : (prepare a s).test = s.test := by rw [prepare_frame]

end Sys2Proof.Machine
end

