-- ==== Sys2Proof/Laws/Delivery.lean ====
section
/-! SUPPORT. Slots written and read back, finding an entry, the queuing of a request, and the delivery of a frame to its owner:
one lemma each, for the provers to cite. -/

namespace Sys2Proof.Machine

/-! ## Slots -/

theorem slotGet_set (t : Slots) (i : Fin 4) (e : Option BondEntry) : slotGet (slotSet t i e) i = e := by
  fin_cases i <;> rfl

theorem slotGet_set_of_ne (t : Slots) {i j : Fin 4} (e : Option BondEntry) (h : j ≠ i) :
    slotGet (slotSet t i e) j = slotGet t j := by
  fin_cases i <;> fin_cases j <;> first | rfl | exact absurd rfl h

theorem slotSet_set (t : Slots) (i : Fin 4) (e e' : Option BondEntry) :
    slotSet (slotSet t i e) i e' = slotSet t i e' := by
  fin_cases i <;> rfl

@[simp] theorem entry_putEntry (i : Fin 4) (e : Option BondEntry) (s : State) : (putEntry i e s).entry i = e := by
  simp [State.entry, putEntry, slotGet_set]

theorem entry_putEntry_of_ne {i j : Fin 4} (e : Option BondEntry) (s : State) (h : j ≠ i) :
    (putEntry i e s).entry j = s.entry j := by
  simp [State.entry, putEntry, slotGet_set_of_ne _ _ h]

@[simp] theorem putEntry_putEntry (i : Fin 4) (e e' : Option BondEntry) (s : State) :
    putEntry i e' (putEntry i e s) = putEntry i e' s := by
  simp [putEntry, State.setBond, slotSet_set]

@[simp] theorem opEntry_putEntry (i : Fin 4) (e : OpEntry) (s : State) :
    (putEntry i (some (.op e)) s).opEntry i = some e := by
  simp [State.opEntry]

@[simp] theorem trEntry_putEntry (i : Fin 4) (e : TrEntry) (s : State) :
    (putEntry i (some (.tr e)) s).trEntry i = some e := by
  simp [State.trEntry]

@[simp] theorem modOp_putEntry (i : Fin 4) (e : OpEntry) (f : OpEntry → OpEntry) (s : State) :
    modOp i f (putEntry i (some (.op e)) s) = putEntry i (some (.op (f e))) s := by
  simp [modOp]

@[simp] theorem modTr_putEntry (i : Fin 4) (e : TrEntry) (f : TrEntry → TrEntry) (s : State) :
    modTr i f (putEntry i (some (.tr e)) s) = putEntry i (some (.tr (f e))) s := by
  simp [modTr]

/-- An operation that leaves the bond table leaves every entry. -/
theorem entry_of_bond {s t : State} (h : t.bond = s.bond) (i : Fin 4) : t.entry i = s.entry i := by
  simp [State.entry, h]

theorem opEntry_of_bond {s t : State} (h : t.bond = s.bond) (i : Fin 4) : t.opEntry i = s.opEntry i := by
  simp [State.opEntry, entry_of_bond h]

theorem trEntry_of_bond {s t : State} (h : t.bond = s.bond) (i : Fin 4) : t.trEntry i = s.trEntry i := by
  simp [State.trEntry, entry_of_bond h]

/-! ## Finding an entry -/

theorem opEntry_of_findOp {s : State} {id : Identity} {i : Fin 4} {e : OpEntry} (h : s.findOp id = some (i, e)) :
    s.opEntry i = some e := by
  unfold State.findOp at h
  cases h1 : s.opSlot id with
  | none => simp [h1] at h
  | some j =>
    simp only [h1, Option.bind_some, Option.map_eq_some_iff] at h
    obtain ⟨e', h2, h3⟩ := h
    obtain ⟨rfl, rfl⟩ := Prod.mk.inj h3
    exact h2

theorem trEntry_of_findTr {s : State} {id : Identity} {i : Fin 4} {e : TrEntry} (h : s.findTr id = some (i, e)) :
    s.trEntry i = some e := by
  unfold State.findTr at h
  cases h1 : s.trSlot id with
  | none => simp [h1] at h
  | some j =>
    simp only [h1, Option.bind_some, Option.map_eq_some_iff] at h
    obtain ⟨e', h2, h3⟩ := h
    obtain ⟨rfl, rfl⟩ := Prod.mk.inj h3
    exact h2

/-- The entry found names the identity sought. -/
theorem traction_of_findOp {s : State} {id : Identity} {i : Fin 4} {e : OpEntry} (h : s.findOp id = some (i, e)) :
    e.traction = id := by
  have he := opEntry_of_findOp h
  unfold State.findOp at h
  cases h1 : s.opSlot id with
  | none => simp [h1] at h
  | some j =>
    simp only [h1, Option.bind_some, Option.map_eq_some_iff] at h
    obtain ⟨e', h2, h3⟩ := h
    obtain ⟨rfl, rfl⟩ := Prod.mk.inj h3
    have := List.find?_some h1
    simpa [he] using this

/-- The entry found names the identity sought. -/
theorem operator_of_findTr {s : State} {id : Identity} {i : Fin 4} {e : TrEntry} (h : s.findTr id = some (i, e)) :
    e.operator = id := by
  have he := trEntry_of_findTr h
  unfold State.findTr at h
  cases h1 : s.trSlot id with
  | none => simp [h1] at h
  | some j =>
    simp only [h1, Option.bind_some, Option.map_eq_some_iff] at h
    obtain ⟨e', h2, h3⟩ := h
    obtain ⟨rfl, rfl⟩ := Prod.mk.inj h3
    have := List.find?_some h1
    simpa [he] using this

/-- A traction-side entry is found as before when each slot names the operator it named. -/
theorem trSlot_congr {s t : State} (id : Identity)
    (h : ∀ i, (t.trEntry i).map TrEntry.operator = (s.trEntry i).map TrEntry.operator) : t.trSlot id = s.trSlot id := by
  unfold State.trSlot
  congr 1
  funext i
  have := h i
  cases h1 : t.trEntry i <;> cases h2 : s.trEntry i <;> simp_all

/-- An operator-side entry is found as before when each slot names the traction it named. -/
theorem opSlot_congr {s t : State} (id : Identity)
    (h : ∀ i, (t.opEntry i).map OpEntry.traction = (s.opEntry i).map OpEntry.traction) : t.opSlot id = s.opSlot id := by
  unfold State.opSlot
  congr 1
  funext i
  have := h i
  cases h1 : t.opEntry i <;> cases h2 : s.opEntry i <;> simp_all

/-- After the entry found is changed, the same slot is found with the changed entry. -/
theorem findTr_putEntry {s : State} {id : Identity} {i : Fin 4} {e e' : TrEntry} (h : s.findTr id = some (i, e))
    (ho : e'.operator = e.operator) : (putEntry i (some (.tr e')) s).findTr id = some (i, e') := by
  have he := trEntry_of_findTr h
  have hs : (putEntry i (some (.tr e')) s).trSlot id = s.trSlot id := by
    apply trSlot_congr
    intro j
    by_cases hj : j = i
    · subst hj; simp [he, ho]
    · simp [State.trEntry, entry_putEntry_of_ne _ _ hj]
  unfold State.findTr at h ⊢
  rw [hs]
  cases h1 : s.trSlot id with
  | none => simp [h1] at h
  | some j =>
    simp only [h1, Option.bind_some, Option.map_eq_some_iff] at h
    obtain ⟨e'', h2, h3⟩ := h
    obtain ⟨rfl, rfl⟩ := Prod.mk.inj h3
    simp

/-- After the entry found is changed, the same slot is found with the changed entry. -/
theorem findOp_putEntry {s : State} {id : Identity} {i : Fin 4} {e e' : OpEntry} (h : s.findOp id = some (i, e))
    (ho : e'.traction = e.traction) : (putEntry i (some (.op e')) s).findOp id = some (i, e') := by
  have he := opEntry_of_findOp h
  have hs : (putEntry i (some (.op e')) s).opSlot id = s.opSlot id := by
    apply opSlot_congr
    intro j
    by_cases hj : j = i
    · subst hj; simp [he, ho]
    · simp [State.opEntry, entry_putEntry_of_ne _ _ hj]
  unfold State.findOp at h ⊢
  rw [hs]
  cases h1 : s.opSlot id with
  | none => simp [h1] at h
  | some j =>
    simp only [h1, Option.bind_some, Option.map_eq_some_iff] at h
    obtain ⟨e'', h2, h3⟩ := h
    obtain ⟨rfl, rfl⟩ := Prod.mk.inj h3
    simp

/-- Finding depends on the bond table alone. -/
theorem findOp_of_bond {s t : State} (h : t.bond = s.bond) (id : Identity) : t.findOp id = s.findOp id := by
  simp [State.findOp, State.opSlot, State.opEntry, State.entry, h]

theorem findTr_of_bond {s t : State} (h : t.bond = s.bond) (id : Identity) : t.findTr id = s.findTr id := by
  simp [State.findTr, State.trSlot, State.trEntry, State.entry, h]

theorem trSlot_of_bond {s t : State} (h : t.bond = s.bond) (id : Identity) : t.trSlot id = s.trSlot id := by
  simp [State.trSlot, State.trEntry, State.entry, h]

/-- The slot of an entry found. -/
theorem trSlot_of_findTr {s : State} {id : Identity} {i : Fin 4} {e : TrEntry} (h : s.findTr id = some (i, e)) :
    s.trSlot id = some i := by
  unfold State.findTr at h
  cases h1 : s.trSlot id with
  | none => simp [h1] at h
  | some j =>
    simp only [h1, Option.bind_some, Option.map_eq_some_iff] at h
    obtain ⟨e', h2, h3⟩ := h
    rw [(Prod.mk.inj h3).1]

/-! ## What depends on station control alone -/

theorem cfg_of_life {s t : State} (h : t.life = s.life) : t.cfg = s.cfg := by simp [State.cfg, h]
theorem isTraction_of_life {s t : State} (h : t.life = s.life) : t.isTraction = s.isTraction := by
  simp [State.isTraction, State.role, h]
theorem isOperator_of_life {s t : State} (h : t.life = s.life) : t.isOperator = s.isOperator := by
  simp [State.isOperator, State.role, h]
theorem started_of_life {s t : State} (h : t.life = s.life) : t.started = s.started := by simp [State.started, h]

/-- A frame's fields come from the identity and the configuration. -/
theorem frameTo_congr {s t : State} (hu : t.unitId = s.unitId) (hl : t.life = s.life) (m : DestMode) (d : BitVec 24)
    (n : BitVec 4) (b : Body) : t.frameTo m d n b = s.frameTo m d n b := by
  simp [State.frameTo, hu, cfg_of_life hl]

/-! ## A request queued (R66) -/

theorem frameKind_requestFrame (s : State) (t : Identity) (n : BitVec 4) (b : ReqBody) :
    frameKind (s.requestFrame t n b) = reqKind b := by
  cases b <;> rfl

/-- A queued frame leaves the bond table. -/
theorem bond_of_queued {f : Frame} {nb : Option Nat} {tag : OwnerTag} {s t : State} (h : Queued f nb tag s t) :
    t.bond = s.bond := by
  unfold Queued at h
  rw [h]

/-- With room in the queue a new request of an entry is queued. -/
theorem sendRequest_room {i : Fin 4} {e : OpEntry} {body : ReqBody} {s : State} (he : s.opEntry i = some e) (hr : Room s) :
    ∃ t, Asked i e body (requested e body) s t ∧ sendRequest offer i e body s = some t := by
  have hq := enqueue_queued (s.requestFrame e.traction e.nextSeq body) none (.request i (reqKind body) e.nextSeq) s
  refine ⟨_, ⟨_, hq, rfl⟩, ?_⟩
  have hc : kindClass (frameKind (s.requestFrame e.traction e.nextSeq body)) ≠ .c0 := by
    rw [frameKind_requestFrame]; cases body <;> simp [reqKind, kindClass]
  unfold sendRequest
  rw [offer_room hr hc]
  simp only [Option.map_some, requestTag, modOp, opEntry_of_bond (bond_of_queued hq), he]
  rfl

/-! ## A frame delivered (R11) -/

/-- The owner of a frame that comes to it acts in the state `handed` gives, and the notice is judged after it. -/
theorem receive_heard {f : Frame} {dev stamp : Nat} {s u : State} (owner : Owner) (h : HeardAt f dev stamp s u) :
    receive dev f owner s = judgeNotice (owner stamp (qualityClass dev) u) := by
  obtain ⟨rate, ⟨⟨bits, hm⟩, hl, hw, hs⟩, hf, rfl⟩ := h
  have hf' : ((learn f rate stamp (qualityClass dev) (endReading s)).forMe f.header || floorKind (frameKind f)) = true := by
    have hfm : (learn f rate stamp (qualityClass dev) (endReading s)).forMe f.header = s.forMe f.header := by
      simp [State.forMe, State.cfg]
    rw [hfm]
    rcases hf with hf | hf <;> simp [hf]
  simp only [receive, hm, acceptFrame, endReading_life, hl, hw, and_self, if_true, endReading_unitId, hs, if_false, deliver,
    hf', handed]

/-- The state an owner finds has the bond, the floor, the halt, the stop, the port and the test state of the state before. -/
theorem heard_blocks {f : Frame} {dev stamp : Nat} {s u : State} (h : HeardAt f dev stamp s u) :
    u.bond = s.bond ∧ u.floor = s.floor ∧ u.halt = s.halt ∧ u.stop = s.stop ∧ u.port = s.port ∧ u.test = s.test
      ∧ u.now = s.now ∧ u.unitId = s.unitId := by
  obtain ⟨rate, _, _, rfl⟩ := h
  simp

end Sys2Proof.Machine
end

