-- ==== Sys2Proof/Laws/Bonds.lean ====
section
/-! SUPPORT. The operations of the bond unit as the words of Safety.lean say them: a frame taken out of the queue, contact,
the end of a request, the end of a transfer; one equation each. -/

namespace Sys2Proof.Machine

/-! ## Frames taken out of the queue (R32) -/

/-- A removal request is answered REMOVED exactly where an entry with the tag waits (R32). -/
theorem removalAnswer_removed {tag : OwnerTag} {s : State} :
    removalAnswer tag s = .removed ↔ ∃ e ∈ s.chan.queue, e.tag = tag ∧ e.onAir = false := by
  unfold removalAnswer
  have : s.chan.queue.any (waitsTagged tag) = true ↔ ∃ e ∈ s.chan.queue, e.tag = tag ∧ e.onAir = false := by
    simp [List.any_eq_true, waitsTagged]
  rw [← this]
  split
  · simp_all
  · split <;> simp_all

/-- A waiting entry asked out of the queue goes (R32). -/
theorem withdraw_waiting {tag : OwnerTag} {s : State} (h : ∃ e ∈ s.chan.queue, e.tag = tag ∧ e.onAir = false) :
    withdraw tag s = withoutWaiting tag s := by
  simp only [withdraw, removalAnswer_removed.mpr h]
  rfl

/-- Where none waits, an entry on air is marked and no other changes (R32). -/
theorem withdraw_airing {tag : OwnerTag} {s : State} (h : NoneWaits tag s) :
    withdraw tag s = { s with chan := { s.chan with
      queue := s.chan.queue.map (fun e => if e.tag == tag && e.onAir then { e with withdrawn := true } else e) } } := by
  unfold NoneWaits at h
  have hw : s.chan.queue.any (waitsTagged tag) = false := by
    simp only [List.any_eq_false, waitsTagged]
    intro e he
    have := h e he
    simp only [Bool.and_eq_true, beq_iff_eq, Bool.not_eq_true', not_and]
    intro ht; simp [this ht]
  unfold withdraw removalAnswer
  rw [hw]
  by_cases ha : s.chan.queue.any (airsTagged tag) = true
  · simp [ha, State.setQueue, State.setChan, airsTagged]
  · have hm : s.chan.queue.map (fun e => if e.tag == tag && e.onAir then { e with withdrawn := true } else e)
        = s.chan.queue := by
      conv_rhs => rw [← List.map_id s.chan.queue]
      apply List.map_congr_left
      intro e he
      have := (List.any_eq_false.mp (Bool.not_eq_true _ |>.mp ha)) e he
      simp only [airsTagged] at this
      simp only [this]; rfl
    rw [hm]
    simp [ha]

/-- Where none waits, none is taken out. -/
theorem withoutWaiting_of_none {tag : OwnerTag} {s : State} (h : NoneWaits tag s) : withoutWaiting tag s = s := by
  unfold NoneWaits at h
  unfold withoutWaiting
  have : s.chan.queue.filter (fun e => !(e.tag == tag && !e.onAir)) = s.chan.queue := by
    apply List.filter_eq_self.mpr
    intro e he
    by_cases ht : e.tag = tag
    · simp [h e he ht]
    · simp [ht]
  rw [this]

/-- An entry with the tag waits, or none does. -/
theorem noneWaits_or (tag : OwnerTag) (s : State) :
    (∃ e ∈ s.chan.queue, e.tag = tag ∧ e.onAir = false) ∨ NoneWaits tag s := by
  by_cases h : ∃ e ∈ s.chan.queue, e.tag = tag ∧ e.onAir = false
  · exact Or.inl h
  · right
    intro e he ht
    by_contra hn
    exact h ⟨e, he, ht, by simpa using hn⟩

/-- A frame is taken out of the queue if it still waits there (R71, R85). -/
theorem withdrawWaiting_eq (tag : OwnerTag) (s : State) : withdrawWaiting tag s = withoutWaiting tag s := by
  unfold withdrawWaiting
  rcases noneWaits_or tag s with h | h
  · simp only [removalAnswer_removed.mpr h]; exact withdraw_waiting h
  · rw [withoutWaiting_of_none h]
    have : removalAnswer tag s ≠ .removed := by
      intro hr
      obtain ⟨e, he, ht, ha⟩ := removalAnswer_removed.mp hr
      simp [h e he ht] at ha
    split
    · contradiction
    · rfl

/-! ## Contact (R92) -/

/-- Contact from the operator that an entry names (R92). -/
theorem contact_eq {sender : Identity} {i : Fin 4} {e : TrEntry} {s : State} (h : s.findTr sender = some (i, e)) :
    contact sender s = contacted i e s := by
  have he := trEntry_of_findTr h
  have ho := operator_of_findTr h
  unfold contact contacted
  rw [h]
  simp only
  cases hst : e.st with
  | standby => simp [inControl, hst]
  | controlling => simp [inControl, hst, modSup, modTr, he, contactEntry, heardPeriod]
  | lost =>
    simp only [inControl, hst, modSup, modTr, he, contactEntry, endLinkIfLost, raiseBond, State.otherTr,
      trEntry_of_bond (raise_bond _ _ _ _ _), bondCauseCode, ho, freshHistory]
    have hot : ∀ (x : TrEntry) (p : TrEntry → Bool), (allSlots.any fun j => j != i && Option.any p ((putEntry i (some (.tr x)) s).trEntry j))
        = (allSlots.any fun j => j != i && Option.any p (s.trEntry j)) := by
      intro x p
      congr 1; funext j
      by_cases hj : j = i
      · simp [hj]
      · simp [State.trEntry, entry_putEntry_of_ne _ _ hj]
    simp only [trEntry_putEntry, putEntry_putEntry, hot]
    by_cases hl : (allSlots.any fun j => j != i && Option.any (fun x => x.st == TrState.lost) (s.trEntry j)) = true
    · simp [hl]; rfl
    · simp [hl]; rfl


/-! ## The pending transfer (R97) -/

/-- The pending transfer is cleared in its home, with any OFFER of it still waiting (R97, R106). -/
theorem clearTransfer_eq (s : State) : clearTransfer s = transferGone s := by
  unfold clearTransfer transferGone
  cases h : s.attached with
  | none => rfl
  | some r =>
    obtain ⟨i, x⟩ := r
    simp only [modTr]
    have : s.trEntry i ≠ none := by
      intro hn
      unfold State.attached at h
      obtain ⟨j, hj, hx⟩ := List.exists_of_findSome?_eq_some h
      cases ht : s.trEntry j with
      | none => simp [ht] at hx
      | some e => 
        simp only [ht, Option.bind_some, Option.map_eq_some_iff] at hx
        obtain ⟨y, hy, hz⟩ := hx
        obtain ⟨rfl, rfl⟩ := Prod.mk.inj hz
        simp [ht] at hn
    cases ht : s.trEntry i with
    | none => exact absurd ht this
    | some e => rfl

/-- The slot found holds a traction-side entry with the transfer found. -/
theorem attached_entry {s : State} {i : Fin 4} {x : Transfer} (h : s.attached = some (i, x)) :
    ∃ e, s.trEntry i = some e ∧ e.transfer = some x := by
  unfold State.attached at h
  obtain ⟨j, hj, hx⟩ := List.exists_of_findSome?_eq_some h
  cases ht : s.trEntry j with
  | none => simp [ht] at hx
  | some e =>
    simp only [ht, Option.bind_some, Option.map_eq_some_iff] at hx
    obtain ⟨y, hy, hz⟩ := hx
    obtain ⟨rfl, rfl⟩ := Prod.mk.inj hz
    exact ⟨e, ht, hy⟩

/-- The transfer of an entry becomes detached (R97). -/
theorem detachTransfer_eq {i : Fin 4} {e : TrEntry} {s : State} (h : s.trEntry i = some e) :
    detachTransfer i s = transferDetached i e s := by
  unfold detachTransfer transferDetached
  rw [h]
  cases hx : e.transfer with
  | none => simp [hx]
  | some x =>
    simp only [hx]
    have : (s.setDetached (some x)).trEntry i = some e := by
      simpa [State.trEntry, State.entry, State.setDetached, State.setBond] using h
    simp only [modTr, this]
    rfl

/-- The entry made for a transfer's target goes (R104, R107, R108). -/
theorem removeOffered_eq (target : Identity) (cause : BondCause) (s : State) :
    removeOffered target cause s = targetGone target (bondCauseCode cause) s := by
  unfold removeOffered targetGone
  cases h : s.findTr target with
  | none => rfl
  | some r => obtain ⟨i, e⟩ := r; simp only [raiseBond, freeEntry]; rfl

/-- The pending transfer is changed in its home (R97). -/
theorem modTransfer_eq {f : Transfer → Transfer} {x : Transfer} {s : State} (h : s.pendingTransfer = some x) :
    modTransfer f s = transferBecomes (f x) s := by
  unfold modTransfer transferBecomes
  unfold State.pendingTransfer at h
  cases ha : s.attached with
  | none =>
    simp only [ha, Option.map_none, Option.orElse_none] at h
    simp [h, State.setDetached, State.setBond]
  | some r =>
    obtain ⟨i, y⟩ := r
    obtain ⟨e, he, hy⟩ := attached_entry ha
    simp only [ha, Option.map_some, Option.orElse_some, Option.some.injEq] at h
    subst h
    simp only [modTr, he, hy, Option.map_some]


/-! ## The other slots -/

theorem otherOp_congr {s t : State} {i : Fin 4} (p : OpEntry → Bool) (h : ∀ j, j ≠ i → t.opEntry j = s.opEntry j) :
    t.otherOp i p = s.otherOp i p := by
  unfold State.otherOp
  congr 1; funext j
  by_cases hj : j = i
  · simp [hj]
  · rw [h j hj]

theorem otherTr_congr {s t : State} {i : Fin 4} (p : TrEntry → Bool) (h : ∀ j, j ≠ i → t.trEntry j = s.trEntry j) :
    t.otherTr i p = s.otherTr i p := by
  unfold State.otherTr
  congr 1; funext j
  by_cases hj : j = i
  · simp [hj]
  · rw [h j hj]

theorem opEntry_putEntry_of_ne {i j : Fin 4} (e : Option BondEntry) (s : State) (h : j ≠ i) :
    (putEntry i e s).opEntry j = s.opEntry j := by
  simp [State.opEntry, entry_putEntry_of_ne _ _ h]

theorem trEntry_putEntry_of_ne {i j : Fin 4} (e : Option BondEntry) (s : State) (h : j ≠ i) :
    (putEntry i e s).trEntry j = s.trEntry j := by
  simp [State.trEntry, entry_putEntry_of_ne _ _ h]

/-- A removal request for several tags changes the queue alone (R32). -/
theorem withdrawEach_frame (p : OwnerTag → Bool) (s : State) :
    withdrawEach p s = { s with chan := { s.chan with queue := (withdrawEach p s).chan.queue } } := rfl

theorem withdrawChecks_bond (i : Fin 4) (s : State) : (withdrawChecks i s).bond = s.bond := rfl

theorem withdrawSlot_bond (i : Fin 4) (s : State) : (withdrawSlot i s).bond = s.bond := rfl

/-- A queue with no frame of a slot's entry is left as it is when the entry goes. -/
theorem withdrawEach_of_none {p : OwnerTag → Bool} {s : State} (h : ∀ e ∈ s.chan.queue, p e.tag = false) :
    withdrawEach p s = s := by
  have hq : ((s.chan.queue.filter (fun e => !(p e.tag && !e.onAir))).map fun e =>
      if p e.tag && e.onAir then { e with withdrawn := true } else e) = s.chan.queue := by
    rw [List.filter_eq_self.2 fun e he => by simp [h e he]]
    exact (List.map_congr_left fun e he => by simp [h e he]).trans (List.map_id _)
  unfold withdrawEach
  rw [hq]
  rfl

@[simp] theorem otherOp_putEntry (i : Fin 4) (e : Option BondEntry) (p : OpEntry → Bool) (s : State) :
    (putEntry i e s).otherOp i p = s.otherOp i p :=
  otherOp_congr p fun _ h => opEntry_putEntry_of_ne e s h

@[simp] theorem otherTr_putEntry (i : Fin 4) (e : Option BondEntry) (p : TrEntry → Bool) (s : State) :
    (putEntry i e s).otherTr i p = s.otherTr i p :=
  otherTr_congr p fun _ h => trEntry_putEntry_of_ne e s h

theorem otherOp_of_bond {s t : State} (h : t.bond = s.bond) (i : Fin 4) (p : OpEntry → Bool) :
    t.otherOp i p = s.otherOp i p := otherOp_congr p fun j _ => opEntry_of_bond h j

theorem otherTr_of_bond {s t : State} (h : t.bond = s.bond) (i : Fin 4) (p : TrEntry → Bool) :
    t.otherTr i p = s.otherTr i p := otherTr_congr p fun j _ => trEntry_of_bond h j

/-! ## The end of a request (R57, R63, R65, R80, R83, R84, R87, R109) -/

/-- LINK ends with the entry that leaves SILENT as the last one (R90, R96). -/
theorem endLinkIfSilent_eq {i : Fin 4} {e : OpEntry} {s t : State} (h : ∀ p, t.otherOp i p = s.otherOp i p) :
    endLinkIfSilent i e t
      = if e.st = .silent ∧ s.otherOp i (fun x => x.st == .silent) = false then faultEnd .link e.traction t else t := by
  simp only [endLinkIfSilent, h]

/-- An entry is removed with its queued frames; a cause is told; SILENT ends LINK (R63, R65, R96). -/
theorem removeOp_eq {i : Fin 4} {e : OpEntry} {s : State} (he : s.opEntry i = some e)
    (cause : Option BondCause) :
    removeOp i cause s =
      let gone := agePeers (putEntry i none (withdrawSlot i s))
      let told := match cause with
        | some c => raise .bond false e.traction [BitVec.ofNat 8 i.val, 0, bondCauseCode c] gone
        | none => gone
      if e.st = .silent ∧ s.otherOp i (fun x => x.st == .silent) = false then faultEnd .link e.traction told else told := by
  have ho : ∀ p, (agePeers (putEntry i none (withdrawSlot i s))).otherOp i p = s.otherOp i p := by
    intro p
    rw [otherOp_of_bond (agePeers_bond _), otherOp_putEntry, otherOp_of_bond (withdrawSlot_bond _ _)]
  unfold removeOp
  simp only [he, freeEntry]
  cases cause with
  | none => exact endLinkIfSilent_eq ho
  | some c => exact endLinkIfSilent_eq fun p => by rw [otherOp_of_bond (raiseBond_bond _ _ _ _ _), ho]

/-- An entry in TAKING, CONTROLLING or SILENT returns to STANDBY; another stays; SILENT ends LINK (R96). -/
theorem leaveControl_eq {i : Fin 4} {e : OpEntry} {s : State} (he : s.opEntry i = some e) :
    leaveControl i none s =
      if e.st = .taking ∨ e.st = .controlling ∨ e.st = .silent then
        let back := putEntry i (some (.op { e with st := .standby, link := none, sup := none })) (withdrawChecks i s)
        if e.st = .silent ∧ s.otherOp i (fun x => x.st == .silent) = false then faultEnd .link e.traction back else back
      else s := by
  unfold leaveControl
  simp only [he, inOpControl]
  have hb : (e.st == .taking || e.st == .controlling || e.st == .silent) = true
      ↔ e.st = .taking ∨ e.st = .controlling ∨ e.st = .silent := by
    cases e.st <;> simp
  simp only [hb]
  split
  · simp only [modOp, opEntry_of_bond (withdrawChecks_bond i s), he]
    exact endLinkIfSilent_eq fun p => by rw [otherOp_putEntry, otherOp_of_bond (withdrawChecks_bond _ _)]
  · rfl

/-- The reason of a refusal. -/
def endReason : ReqEnd → Option Reason
  | .refused r => some r
  | _ => none

/-- Everything the end of a request does, but for the acceptance of a BIND or a TAKE. -/
theorem endRequest_eq {off : Offering} {i : Fin 4} {e : OpEntry} {q : Request} {r : ReqEnd} {s : State}
    (he : s.opEntry i = some e) (hq : e.req = some q)
    (h : r = .accepted → reqKind q.body ≠ .bindAsk ∧ reqKind q.body ≠ .take) :
    endRequest off i r s = requestEnds i e q (reqEndCode r) (endReason r) s := by
  have hreason : reqEndReason r = ((endReason r).map reasonCode).getD 0 := by cases r <;> rfl
  unfold endRequest requestEnds
  simp only [he, hq, modOp, raiseOutcome, hreason]
  generalize hT : raise ReportKind.outcome false e.traction
    [reqCommand q.body, BitVec.setWidth 8 q.seq, reqEndCode r, (Option.map reasonCode (endReason r)).getD 0]
    (putEntry i (some (BondEntry.op { e with req := none })) s) = T
  have hTb : T.bond = (putEntry i (some (BondEntry.op { e with req := none })) s).bond := by rw [← hT]; simp
  have hTe : T.opEntry i = some { e with req := none } := by rw [opEntry_of_bond hTb]; simp
  have hTo : ∀ p, T.otherOp i p = s.otherOp i p := by intro p; rw [otherOp_of_bond hTb]; simp
  have hfree := removeOp_eq hTe
  have hleave := leaveControl_eq hTe
  have hUe : (agePeers (putEntry i (some (.op { e with req := none, handing := none })) T)).opEntry i
      = some { e with req := none, handing := none } := by
    rw [opEntry_of_bond (agePeers_bond _)]; simp
  have hback := leaveControl_eq hUe
  have hUo : ∀ p, (agePeers (putEntry i (some (.op { e with req := none, handing := none })) T)).otherOp i p
      = s.otherOp i p := by
    intro p; rw [otherOp_of_bond (agePeers_bond _)]; simp [hTo]
  simp only [hTo, hUo] at hfree hleave hback
  unfold afterRequest
  cases hbody : q.body with
  | bindAsk =>
    cases r with
    | accepted => simp [hbody, reqKind] at h
    | refused r => simp [hfree]
    | noAnswer => simp [hfree]
  | take a b =>
    cases r with
    | accepted => simp [hbody, reqKind] at h
    | refused r => cases r <;> simp [hfree, endReason, bondCauseCode, hleave]
    | noAnswer => simp [endReason, hleave]
  | release u =>
    cases u with
    | true => simp [hfree]
    | false =>
      cases r with
      | accepted => simp [endReason, modOp, hTe, hback]
      | noAnswer => simp [endReason, modOp, hTe, hback]
      | refused r => cases r <;> simp [hfree, endReason, bondCauseCode, modOp, hTe, hback]
  | move m =>
    cases r with
    | refused r => cases r <;> simp [hfree, endReason, bondCauseCode]
    | accepted => simp [endReason]
    | noAnswer => simp [endReason]
  | resume =>
    cases r with
    | refused r => cases r <;> simp [hfree, endReason, bondCauseCode]
    | accepted => simp [endReason]
    | noAnswer => simp [endReason]
  | handover t =>
    cases r with
    | refused r => cases r <;> simp [hfree, endReason, bondCauseCode, modOp, hTe, reqEndCode]
    | accepted => simp [endReason, reqEndCode]
    | noAnswer => simp [endReason, modOp, hTe, reqEndCode]

/-! ## Room (R21) -/

theorem room_of_queue {s t : State} (h : t.chan.queue.length ≤ s.chan.queue.length) (hr : Room s) : Room t := by
  unfold Room at *
  omega

theorem withdraw_queue_le (tag : OwnerTag) (s : State) : (withdraw tag s).chan.queue.length ≤ s.chan.queue.length := by
  unfold withdraw
  split
  · exact List.length_filter_le _ _
  · simp [State.setQueue, State.setChan]
  · exact Nat.le_refl _

theorem withoutWaiting_queue_le (tag : OwnerTag) (s : State) :
    (withoutWaiting tag s).chan.queue.length ≤ s.chan.queue.length := List.length_filter_le _ _

theorem clearTransfer_queue_le (s : State) : (clearTransfer s).chan.queue.length ≤ s.chan.queue.length := by
  unfold clearTransfer
  refine Nat.le_trans (withdraw_queue_le _ _) ?_
  split <;> simp [State.setDetached]

/-! ## A request frame at a traction (R67, R68, R76) -/

theorem contacted_life (i : Fin 4) (e : TrEntry) (s : State) : (contacted i e s).life = s.life := by
  unfold contacted; split <;> simp; split <;> simp
theorem contacted_chan (i : Fin 4) (e : TrEntry) (s : State) : (contacted i e s).chan = s.chan := by
  unfold contacted; split <;> simp; split <;> simp

/-- After contact the same slot is found, with the entry contact leaves. -/
theorem contacted_findTr {sender : Identity} {i : Fin 4} {e : TrEntry} {s : State} (h : s.findTr sender = some (i, e)) :
    (contacted i e s).findTr sender = some (i, contactEntry e) := by
  have hop : (contactEntry e).operator = e.operator := by unfold contactEntry heardPeriod; split <;> rfl
  have hput := findTr_putEntry (e' := contactEntry e) h hop
  unfold contacted
  cases hst : e.st with
  | standby => simpa [contactEntry, hst] using h
  | controlling => exact hput
  | lost =>
    simp only
    split
    · rw [findTr_of_bond (raise_bond _ _ _ _ _)]; exact hput
    · rw [findTr_of_bond (faultEnd_bond _ _ _), findTr_of_bond (raise_bond _ _ _ _ _)]; exact hput

/-- A new request of a bonded sender is judged after its contact, and answered and recorded in its slot. -/
theorem takeRequest_new {h : Header} {kind : Kind} {isContact : Bool} {judge : State → Judged} {i : Fin 4} {e : TrEntry}
    {s : State} (ht : s.isTraction = true) (hf : s.findTr h.sender = some (i, e))
    (hl : ∀ l, e.last = some l → l.kind ≠ kind ∨ l.seq ≠ h.seq) :
    takeRequest h kind isContact judge s
      = answerRequest h kind (some i) (judge (if isContact then contacted i e s else s)) := by
  have hlast : (contactEntry e).last = e.last := by unfold contactEntry heardPeriod; split <;> rfl
  have hd : ∀ (w : State) (e' : TrEntry), w.findTr h.sender = some (i, e') → e'.last = e.last →
      w.duplicate h.sender kind h.seq = none ∧ w.trSlot h.sender = some i := by
    intro w e' hw he'
    refine ⟨?_, trSlot_of_findTr hw⟩
    unfold State.duplicate
    simp only [hw, Option.bind_some, he']
    cases hx : e.last with
    | none => rfl
    | some l =>
      have := hl l hx
      simp only [Option.filter_some, Bool.and_eq_true, beq_iff_eq]
      rw [if_neg]
      rintro ⟨h1, h2⟩
      rcases this with h | h
      · exact h h1
      · exact h h2
  unfold takeRequest
  cases isContact with
  | false =>
    obtain ⟨h1, h2⟩ := hd s e hf rfl
    simp [ht, h1, h2]
  | true =>
    obtain ⟨h1, h2⟩ := hd _ _ (contacted_findTr hf) hlast
    simp [ht, contact_eq hf, h1, h2]

/-- Where no entry is found, none is named. -/
theorem trSlot_of_findTr_none {id : Identity} {s : State} (h : s.findTr id = none) : s.trSlot id = none := by
  cases hs : s.trSlot id with
  | none => rfl
  | some i =>
    have hp := List.find?_some hs
    cases he : s.trEntry i with
    | none => simp [he] at hp
    | some e => simp [State.findTr, hs, he] at h

/-- A request of a sender that no entry names is judged as it comes and recorded nowhere. -/
theorem takeRequest_unbound {h : Header} {kind : Kind} {isContact : Bool} {judge : State → Judged} {s : State}
    (ht : s.isTraction = true) (hf : s.findTr h.sender = none) :
    takeRequest h kind isContact judge s = answerRequest h kind none (judge s) := by
  have hc : contact h.sender s = s := by simp [contact, hf]
  unfold takeRequest
  simp [ht, hc, State.duplicate, hf, trSlot_of_findTr_none hf]

/-- With room in the queue an ANSWER is queued. -/
theorem sendAnswer_room {h : Header} {kind : Kind} {verdict : Verdict} {reason : Option Reason} {s : State} (hr : Room s) :
    Answered h kind verdict reason s (sendAnswer h.sender kind h.seq verdict reason s) := by
  unfold sendAnswer Answered
  rw [offerAnyway_room hr (by intro hc; cases hc)]
  exact enqueue_queued _ _ _ _

/-- A judged request that is not BUSY is answered and recorded in the sender's slot. -/
theorem answerRequest_recorded {h : Header} {kind : Kind} {i : Fin 4} {e : TrEntry} {j : Judged} (hr : Room j.state)
    (he : j.state.trEntry i = some e) (hb : j.verdict ≠ .busy) :
    ∃ t, Recorded i e h kind j.verdict j.reason j.state t ∧ answerRequest h kind (some i) j = runSequel j.sequel t := by
  have ha := sendAnswer_room (h := h) (kind := kind) (verdict := j.verdict) (reason := j.reason) hr
  refine ⟨_, ⟨_, ha, rfl⟩, ?_⟩
  have hq := bond_of_queued (f := _) ha
  simp only [answerRequest, recordRequest, hb, if_false, modTr, trEntry_of_bond hq, he]

/-- A judged request whose sender's entry does not stand is answered only. -/
theorem answerRequest_answered {h : Header} {kind : Kind} {slot : Option (Fin 4)} {j : Judged} (hr : Room j.state)
    (he : ∀ i, slot = some i → j.state.trEntry i = none) :
    ∃ t, Answered h kind j.verdict j.reason j.state t ∧ answerRequest h kind slot j = runSequel j.sequel t := by
  have ha := sendAnswer_room (h := h) (kind := kind) (verdict := j.verdict) (reason := j.reason) hr
  refine ⟨_, ha, ?_⟩
  have hq := bond_of_queued (f := _) ha
  cases slot with
  | none => simp [answerRequest, recordRequest]
  | some i => simp [answerRequest, recordRequest, modTr, trEntry_of_bond hq, he i rfl]

/-- A request judged BUSY is answered and not recorded. -/
theorem answerRequest_busy {h : Header} {kind : Kind} {slot : Option (Fin 4)} {j : Judged} (hr : Room j.state)
    (hb : j.verdict = .busy) :
    ∃ t, Answered h kind .busy j.reason j.state t ∧ answerRequest h kind slot j = runSequel j.sequel t := by
  have ha := sendAnswer_room (h := h) (kind := kind) (verdict := .busy) (reason := j.reason) hr
  exact ⟨_, ha, by simp [answerRequest, recordRequest, hb]⟩

/-! ## The peers that an entry names (R42, R101) -/

theorem ensurePeer_of_known {id : Identity} {s : State} (h : (s.peer id).isSome = true) : ensurePeer id s = s := if_pos h

theorem peer_known_of_role {id : Identity} {r : Role} {s : State} (h : s.peerRole id = some r) :
    (s.peer id).isSome = true := by
  unfold State.peerRole at h
  cases hp : s.peer id with
  | none => simp [hp] at h
  | some _ => rfl

/-- An entry made for an offer of a known traction. -/
theorem makeOffered_of_role {i : Fin 4} {traction controller : Identity} {expiry : Nat} {r : Role} {s : State}
    (h : s.peerRole traction = some r) :
    makeOffered i traction controller expiry s
      = putEntry i (some (.op (offeredEntry traction
            (some { controller := controller, expiry := expiry, madeForOffer := true }))))
          (ensurePeer controller (putEntry i (some (.op (offeredEntry traction none))) s)) := by
  unfold makeOffered
  rw [ensurePeer_of_known (peer_known_of_role h)]

end Sys2Proof.Machine
end

