-- ==== Sys2Proof/Laws/Due.lean ====
section
/-! SUPPORT. The station's own events: the test that each event is due says what its rule says (`Due`), one lemma an event. -/

namespace Sys2Proof.Machine

/-! ## The first event due -/

/-- The first of some commands that is due is among them. -/
theorem mem_of_firstDue {l : List (Option Instr)} {c : Instr} (h : firstDue l = some c) : some c ∈ l := by
  induction l with
  | nil => simp [firstDue] at h
  | cons a l ih =>
    cases a with
    | none => exact List.mem_cons_of_mem _ (ih h)
    | some d =>
      simp only [firstDue, Option.some.injEq] at h
      simp [h]

/-- Where none is first, none is due. -/
theorem not_mem_of_firstDue_none {l : List (Option Instr)} (h : firstDue l = none) (c : Instr) : some c ∉ l := by
  induction l with
  | nil => simp
  | cons a l ih =>
    cases a with
    | none => simpa using ih h
    | some d => simp [firstDue] at h

theorem dueIf_eq_some {b : Bool} {c d : Instr} : dueIf b c = some d ↔ b = true ∧ d = c := by
  cases b <;> simp [dueIf, eq_comm]

theorem some_eq_dueIf {b : Bool} {c d : Instr} : some d = dueIf b c ↔ b = true ∧ d = c := by
  rw [eq_comm, dueIf_eq_some]

theorem mem_allSlots (i : Fin 4) : i ∈ allSlots := by fin_cases i <;> simp [allSlots]

/-! ## When each event is due -/

/-- The end of INIT is due (R183). -/
theorem initEndDue_iff (s : State) : initEndDue s = true ↔ Due s .initEnd := by
  change _ ↔ s.life.st = .init ∧ 5 ≤ s.now
  simp [initEndDue, State.reached]
  simp [initMs]

/-- A lock is due (R4). -/
theorem lockDue_iff (s : State) : lockDue s = true ↔ Due s .rateLock := by
  change _ ↔ ∃ entry bits, s.modem = .locking entry bits ∧ 8 ≤ bits
  unfold lockDue
  cases h : s.modem <;> simp_all
  simp [lockBits]

/-- The end of the lead is due (R28). -/
theorem leadEndDue_iff (s : State) : leadEndDue s = true ↔ Due s .leadEnd := by
  change _ ↔ ∃ a, s.chan.onAir = some a ∧ a.phase = .lead ∧ a.keyedAt + 5 ≤ s.now
  unfold leadEndDue phaseOver
  cases h : s.chan.onAir <;> simp_all [State.reached]
  simp [leadMs]

/-- The end of the wake preamble is due (R30). -/
theorem wakePreambleEndDue_iff (s : State) : wakePreambleEndDue s = true ↔ Due s .wakePreambleEnd := by
  change _ ↔ ∃ a, s.chan.onAir = some a ∧ a.phase = .wake ∧ a.keyedAt + 1205 ≤ s.now
  unfold wakePreambleEndDue phaseOver
  cases h : s.chan.onAir <;> simp_all [State.reached]
  simp [leadMs, wakeMs]

/-- The end of a frame on air is due (R29). -/
theorem frameSentDue_iff (s : State) : frameSentDue s = true ↔ Due s .frameSent := by
  change _ ↔ ∃ a, s.chan.onAir = some a ∧ (a.phase = .preamble ∨ a.phase = .frame)
      ∧ a.keyedAt + airMs a.frame a.rate a.wake ≤ s.now
  unfold frameSentDue
  cases h : s.chan.onAir <;> simp_all [State.reached]

/-- A not-before time is reached (R23). -/
theorem entryEligibleDue_iff (s : State) : entryEligibleDue s = true ↔ Due s .entryEligible := by
  change _ ↔ ∃ e ∈ s.chan.queue, s.eligible e = true ∧ e.eligibleTaken = false
  simp [entryEligibleDue, newlyEligible]

/-- JAM is due (R36). -/
theorem jamDue_iff (s : State) : jamDue s = true ↔ Due s .jamDetected := by
  change _ ↔ ∃ start, s.chan.spell = some { start := start, jam := false } ∧ start + 12000 ≤ s.now
  unfold jamDue
  cases h : s.chan.spell with
  | none => simp
  | some sp =>
    obtain ⟨a, b⟩ := sp
    cases b <;> simp_all [State.reached]
    simp [jamMs]

/-- Keying is due (R27). -/
theorem keyDue_iff (s : State) : keyDue s = true ↔ Due s .keyFrame := by
  change _ ↔ ∃ c since, s.candidate = some c ∧ s.life.st = .active ∧ s.loopRunning = false ∧ s.chan.onAir = none
      ∧ s.chan.view = .free since ∧ since + requiredFreeMs c ≤ s.now
  unfold keyDue
  cases h : s.candidate with
  | none => simp
  | some c => cases hv : s.chan.view <;> simp_all [State.mayKey, State.reached, and_assoc]

/-- The strobe is due (R133). -/
theorem strobeStartDue_iff (s : State) : strobeStartDue s = true ↔ Due s .strobeStart := by
  change _ ↔ ∃ at_, s.port.st = .setup at_ ∧ at_ ≤ s.now
  unfold strobeStartDue
  cases h : s.port.st <;> simp_all [State.reached]

/-- The end of the strobe is due (R133). -/
theorem strobeEndDue_iff (s : State) : strobeEndDue s = true ↔ Due s .strobeEnd := by
  change _ ↔ ∃ end_ limit acked fell, s.port.st = .strobe end_ limit acked fell ∧ end_ ≤ s.now
  unfold strobeEndDue
  cases h : s.port.st <;> simp_all [State.reached]

/-- The acknowledge limit is over (R134). -/
theorem ackLimitDue_iff (s : State) : ackLimitDue s = true ↔ Due s .ackLimitExpiry := by
  change _ ↔ ∃ limit, s.port.st = .waitAck limit ∧ limit ≤ s.now
  unfold ackLimitDue
  cases h : s.port.st <;> simp_all [State.reached]

/-- The release limit is over (R134). -/
theorem releaseLimitDue_iff (s : State) : releaseLimitDue s = true ↔ Due s .releaseLimitExpiry := by
  change _ ↔ ∃ limit, s.port.st = .waitRelease limit ∧ limit ≤ s.now
  unfold releaseLimitDue
  cases h : s.port.st <;> simp_all [State.reached]

/-- The conflict deadline is reached (R47). -/
theorem conflictDue_iff (s : State) : conflictDue s = true ↔ Due s .conflictDeadline := by
  change _ ↔ ∃ c, s.peers.conflict = some c ∧ c.deadline ≤ s.now
  unfold conflictDue
  cases h : s.peers.conflict <;> simp_all [State.reached]

/-- The end of a probe is due (R49). -/
theorem probeDue_iff (s : State) : probeDue s = true ↔ Due s .probeTimeout := by
  change _ ↔ ∃ target pattern sentAt, s.peers.probe = .awaiting target pattern sentAt ∧ sentAt + 2000 ≤ s.now
  unfold probeDue
  cases h : s.peers.probe <;> simp_all [State.reached]
  simp [probeMs]

/-- A frame boundary is due (R150). -/
theorem boundaryDue_iff (a : CodecFrame) (s : State) : boundaryDue s = true ↔ Due s (.audioFrameBoundary a) := by
  change _ ↔ ∃ due, s.floor.boundary = some due ∧ due ≤ s.now
  unfold boundaryDue
  cases h : s.floor.boundary <;> simp_all [State.reached]

/-- The end of a held floor is due (R146). -/
theorem floorDue_iff (s : State) : floorDue s = true ↔ Due s .floorTimeout := by
  change _ ↔ ∃ h, s.floor.st = .held h ∧ h.taken + 1500 ≤ s.now
  unfold floorDue
  cases h : s.floor.st <;> simp_all [State.reached]
  simp [floorMs]

/-- The close of a sniff window is due (R164). -/
theorem windowCloseDue_iff (s : State) : windowCloseDue s = true ↔ Due s .sniffWindowClose := by
  change _ ↔ ∃ end_, s.life.window = some end_ ∧ end_ ≤ s.now
  unfold windowCloseDue
  cases h : s.life.window <;> simp_all [State.reached]

/-- A sniff window is due (R164). -/
theorem windowOpenDue_iff (s : State) : windowOpenDue s = true ↔ Due s .sniffWindowOpen := by
  change _ ↔ ∃ due, s.life.st = .dormant ∧ s.life.sniff = some due ∧ due ≤ s.now
  unfold windowOpenDue
  cases h : s.life.sniff <;> simp_all [State.reached]

/-- An answer is due (R180). -/
theorem answerDue_iff (s : State) : answerDue s = true ↔ Due s .answerReady := by
  change _ ↔ ∃ taken answer, s.host.exchange = .preparing taken answer ∧ taken + 1 ≤ s.now
  unfold answerDue
  cases h : s.host.exchange <;> simp_all [State.reached]

/-- The pending transfer has reached its expiry (R107). -/
theorem transferLapseDue_iff (s : State) : transferLapseDue s = true ↔ Due s .transferLapse := by
  change _ ↔ ∃ x, s.pendingTransfer = some x ∧ x.expiry ≤ s.now
  unfold transferLapseDue
  cases h : s.pendingTransfer <;> simp_all [State.reached]

/-- The end of LOOP is due (R176). -/
theorem loopDue_iff (a b c : LoopReading) (s : State) : loopDue s = true ↔ Due s (.loopTestEnd a b c) := by
  change _ ↔ ∃ start sent, s.test.running = some (.loop start sent) ∧ start + 400 ≤ s.now
  unfold loopDue
  cases h : s.test.running with
  | none => simp
  | some r =>
    cases r <;> simp_all [State.reached]
    simp [loopMs]

/-- A moment of STOPLINE is due (R177). -/
theorem stoplineStepDue_iff (a b : Bool) (s : State) : stoplineStepDue s = true ↔ Due s (.stoplineStep a b) := by
  change _ ↔ ∃ start pos failed moment, s.test.running = some (.stopline start pos failed)
      ∧ [0, 8, 10, 23, 25, 33, 35, 48][pos]? = some moment ∧ start + moment ≤ s.now
  unfold stoplineStepDue
  cases h : s.test.running with
  | none => simp
  | some r =>
    cases r with
    | stopline start pos failed =>
      simp only [stoplineMoment]
      cases hm : [0, 8, 10, 23, 25, 33, 35, 48][pos]? <;> simp_all [State.reached]
    | _ => simp

/-- The end of STOPLINE is due (R177). -/
theorem stoplineEndDue_iff (s : State) : stoplineEndDue s = true ↔ Due s .stoplineTestEnd := by
  change _ ↔ ∃ start pos failed, s.test.running = some (.stopline start pos failed) ∧ 8 ≤ pos ∧ start + 50 ≤ s.now
  unfold stoplineEndDue
  cases h : s.test.running with
  | none => simp
  | some r =>
    cases r <;> simp_all [State.reached]
    simp [stoplineMs]

/-- The end of TIMER is due (R178). -/
theorem timerDue_iff (s : State) : timerDue s = true ↔ Due s .timerTestEnd := by
  change _ ↔ ∃ start noted, s.test.running = some (.timer start noted) ∧ start + 1000 ≤ s.now
  unfold timerDue
  cases h : s.test.running with
  | none => simp
  | some r =>
    cases r <;> simp_all [State.reached]
    simp [timerMs]

/-- SRQ is to be judged (R187). -/
theorem reportDue_iff (s : State) : reportDue s = true ↔ Due s .reportTimeout := by
  change _ ↔ srqWanted s ≠ s.host.srq
  simp [reportDue]

/-- DISAGREE is due (R173). -/
theorem disagreeDue_iff (s : State) : disagreeDue s = true ↔ Due s .disagreeTimeout := by
  change _ ↔ ∃ since, s.port.disagree = true ∧ s.isLive .disagree = false ∧ s.fault.timer = some since
      ∧ since + 30000 ≤ s.now
  unfold disagreeDue
  cases h : s.fault.timer <;> simp_all [State.reached, and_assoc]
  simp [disagreeMs]

/-- The next OFFER is due (R100). -/
theorem offerRepeatDue_iff (s : State) : offerRepeatDue s = true ↔ Due s .offerRepeat := by
  change _ ↔ ∃ x next, s.pendingTransfer = some x ∧ x.nextOffer = some next ∧ next ≤ s.now
  unfold offerRepeatDue
  cases h : s.pendingTransfer with
  | none => simp
  | some x => cases hx : x.nextOffer <;> simp_all [State.reached]

/-- The wait for a BIND-REPLY is over (R56). -/
theorem bindWait_iff (i : Fin 4) (s : State) : waitDue .bind i s = true ↔ Due s (.bindWaitExpiry i) := by
  change _ ↔ ∃ e q end_, s.opEntry i = some e ∧ e.req = some q ∧ q.body = .bindAsk ∧ q.phase = .awaiting end_
      ∧ end_ ≤ s.now
  unfold waitDue
  cases h : s.opEntry i with
  | none => simp
  | some e =>
    cases hq : e.req with
    | none => simp [waitOver, hq]
    | some q => cases hp : q.phase <;> cases hb : q.body <;> simp_all [waitOver, reqKind]

/-- The wait for an ANSWER is over (R72). -/
theorem answerWait_iff (i : Fin 4) (s : State) : waitDue .answer i s = true ↔ Due s (.answerWaitExpiry i) := by
  change _ ↔ ∃ e q end_, s.opEntry i = some e ∧ e.req = some q ∧ q.body ≠ .bindAsk ∧ q.phase = .awaiting end_
      ∧ end_ ≤ s.now
  unfold waitDue
  cases h : s.opEntry i with
  | none => simp
  | some e =>
    cases hq : e.req with
    | none => simp [waitOver, hq]
    | some q => cases hp : q.phase <;> cases hb : q.body <;> simp_all [waitOver, reqKind]

/-- The retry wait is over (R73). -/
theorem retryWait_iff (i : Fin 4) (s : State) : waitDue .retry i s = true ↔ Due s (.retryWaitExpiry i) := by
  change _ ↔ ∃ e q end_, s.opEntry i = some e ∧ e.req = some q ∧ q.phase = .retry end_ ∧ end_ ≤ s.now
  unfold waitDue
  cases h : s.opEntry i with
  | none => simp
  | some e =>
    cases hq : e.req with
    | none => simp [waitOver, hq]
    | some q => cases hp : q.phase <;> simp_all [waitOver]

/-- A STANDBY entry has aged (R64). -/
theorem standbyAgeDue_iff (i : Fin 4) (s : State) : standbyAgeDue i s = true ↔ Due s (.standbyAgeOut i) := by
  change _ ↔ ∃ e p, s.trEntry i = some e ∧ e.st = .standby ∧ s.peer e.operator = some p
      ∧ heardBase p + 600000 ≤ s.now
  unfold standbyAgeDue
  cases h : s.trEntry i with
  | none => simp
  | some e =>
    cases hf : s.peer e.operator <;> simp_all [standbyAged, State.reached]
    simp [standbyAgeMs]

/-- A CHECK is due (R89). -/
theorem checkIsDue_iff (i : Fin 4) (s : State) : checkIsDue i s = true ↔ Due s (.checkDue i) := by
  change _ ↔ ∃ e p, s.opEntry i = some e ∧ (e.st = .controlling ∨ e.st = .silent) ∧ e.sup = some p ∧ p.due ≤ s.now
  unfold checkIsDue
  cases h : s.opEntry i with
  | none => simp
  | some e => cases hf : e.sup <;> simp_all [checkOver, commands]

/-- The close of a period is due (R94). -/
theorem periodDue_iff (i : Fin 4) (s : State) : periodDue i s = true ↔ Due s (.periodClose i) := by
  change _ ↔ ∃ e p, s.trEntry i = some e ∧ (e.st = .controlling ∨ e.st = .lost) ∧ e.sup = some p
      ∧ p.closeAt ≤ s.now
  unfold periodDue
  cases h : s.trEntry i with
  | none => simp
  | some e => cases hf : e.sup <;> simp_all [periodOver, inControl]

/-- An abandon is due (R95). -/
theorem abandonDue_iff (i : Fin 4) (s : State) : abandonDue i s = true ↔ Due s (.abandon i) := by
  change _ ↔ ∃ e since, s.trEntry i = some e ∧ e.st = .lost ∧ e.lostSince = some since ∧ since + 60000 ≤ s.now
  unfold abandonDue
  cases h : s.trEntry i with
  | none => simp
  | some e =>
    cases hf : e.lostSince <;> simp_all [abandonOver]
    simp [abandonMs]

/-- The expiry of an offer is due (R102). -/
theorem offerExpiryDue_iff (i : Fin 4) (s : State) : offerExpiryDue i s = true ↔ Due s (.offerExpiry i) := by
  change _ ↔ ∃ e o, s.opEntry i = some e ∧ e.st = .offered ∧ e.offer = some o ∧ o.expiry ≤ s.now
  unfold offerExpiryDue
  cases h : s.opEntry i with
  | none => simp
  | some e => cases hf : e.offer <;> simp_all [offerOver]

/-- A peer entry has aged (R43). -/
theorem agedOut_iff (id : Identity) (s : State) : (∃ p ∈ s.peers.entries, s.agedOut p = true ∧ id = p.id) ↔ Due s (.peerAgeOut id) := by
  change _ ↔ ∃ p ∈ s.peers.entries, p.id = id ∧ s.pinned id = false ∧ heardBase p + 300000 ≤ s.now
  simp only [State.agedOut, State.reached, Bool.and_eq_true, Bool.not_eq_true', decide_eq_true_eq]
  constructor
  · rintro ⟨p, hp, ⟨h1, h2⟩, rfl⟩
    exact ⟨p, hp, rfl, h1, h2⟩
  · rintro ⟨p, hp, rfl, h1, h2⟩
    exact ⟨p, hp, ⟨h1, h2⟩, rfl⟩

/-- A halt pair is to be forgotten (R122). -/
theorem pairOver_iff (originator : Identity) (number : Byte) (s : State) : (∃ e ∈ s.halt.memory, pairOver s.now e = true ∧ originator = e.originator ∧ number = e.number) ↔ Due s (.haltMemoryExpiry originator number) := by
  change _ ↔ ∃ e ∈ s.halt.memory, e.originator = originator ∧ e.number = number
      ∧ e.firstHeard + 5000 ≤ s.now
  simp only [pairOver, decide_eq_true_eq]
  constructor
  · rintro ⟨p, hp, h1, rfl, rfl⟩
    exact ⟨p, hp, rfl, rfl, h1⟩
  · rintro ⟨p, hp, rfl, rfl, h1⟩
    exact ⟨p, hp, h1, rfl, rfl⟩

/-- The DORMANT notice is due (R161). -/
theorem dormancyDue_iff (s : State) : s.dormancyDue = true ↔ Due s .dormancyDelayExpiry := by
  change _ ↔ ∃ c last, s.life.config = some c ∧ c.role ≠ .traction ∧ c.dormancy ≠ 0 ∧ s.life.st = .active
      ∧ s.life.notice = .idle ∧ s.life.activity = some last ∧ last + c.dormancy ≤ s.now ∧ s.bondsRest = true
      ∧ s.chan.queue = [] ∧ s.floor.st = .free ∧ s.peers.probe = .none ∧ s.halt.own = .idle ∧ s.test.running = none
  simp only [State.dormancyDue, State.dormancyDelayPassed, State.dormancyQuiet, State.role, State.cfg, State.floorFree,
    State.noProbe, State.ownHaltIdle, State.queueRests]
  cases hc : s.life.config with
  | none => simp
  | some c =>
    cases ha : s.life.activity with
    | none => simp
    | some t =>
      cases hf : s.floor.st <;> cases hp : s.peers.probe <;> cases hh : s.halt.own <;> cases hr : c.role
        <;> cases hq : s.chan.queue <;> simp_all [State.reached, and_assoc]

end Sys2Proof.Machine
end

