-- ==== Sys2Proof/Laws/Lines.lean ====
section
/-! SUPPORT. The bits of a frame by their index, the bits of an answer on HDO, and the tone on TXB in the lead and in
each bit. -/

namespace Sys2Proof.Machine

/-! ## Bits by their index -/

/-- The bits of a byte, most significant first. -/
theorem byteBits_get (b : Byte) (k : Nat) (h : k < 8) : (byteBits b)[k]? = some (b.getMsbD k) := by
  have : k = 0 ∨ k = 1 ∨ k = 2 ∨ k = 3 ∨ k = 4 ∨ k = 5 ∨ k = 6 ∨ k = 7 := by omega
  rcases this with rfl | rfl | rfl | rfl | rfl | rfl | rfl | rfl <;> simp [byteBits, BitVec.getMsbD]

theorem bytesBits_length (bs : List Byte) : (bytesBits bs).length = 8 * bs.length := by
  induction bs with
  | nil => rfl
  | cons b bs ih =>
    simp only [bytesBits, List.flatMap_cons, List.length_append] at *
    rw [ih]
    simp [byteBits]
    omega

/-- Bit k of byte n. -/
theorem bytesBits_get (bs : List Byte) (n k : Nat) (byte : Byte) (hk : k < 8) (hn : bs[n]? = some byte) :
    (bytesBits bs)[8 * n + k]? = some (byte.getMsbD k) := by
  induction bs generalizing n with
  | nil => simp at hn
  | cons b bs ih =>
    have hl : (byteBits b).length = 8 := rfl
    cases n with
    | zero =>
      simp only [List.getElem?_cons_zero, Option.some.injEq] at hn
      subst hn
      simp only [bytesBits, List.flatMap_cons]
      rw [List.getElem?_append_left (by rw [hl]; omega)]
      simpa using byteBits_get b k hk
    | succ n =>
      simp only [List.getElem?_cons_succ] at hn
      simp only [bytesBits, List.flatMap_cons]
      rw [List.getElem?_append_right (by rw [hl]; omega), hl]
      have := ih n hn
      simp only [bytesBits] at this
      rw [← this]
      congr 1
      omega

/-- The bits of the sync word. -/
theorem syncBits_get (k : Nat) (h : k < 16) :
    (bytesBits [syncWord.extractLsb' 8 8, syncWord.extractLsb' 0 8])[k]? = some ((0x1B4E : BitVec 16).getMsbD k) := by
  have : ∀ k : Fin 16, (bytesBits [syncWord.extractLsb' 8 8, syncWord.extractLsb' 0 8])[k.val]?
      = some ((0x1B4E : BitVec 16).getMsbD k.val) := by decide
  exact this ⟨k, h⟩

/-- The bits of a preamble. -/
theorem preambleBits_get (length k : Nat) (h : k < length) : (preambleBits length)[k]? = some (k % 2 == 0) := by
  simp only [preambleBits]
  rw [List.getElem?_map, List.getElem?_range h]
  rfl

theorem preambleBits_length (length : Nat) : (preambleBits length).length = length := by simp [preambleBits]

/-! ## The bits of a frame (R1, R2, R30) -/

theorem frameBits_preamble (f : Frame) (r : Rate) (wake : Bool) (k : Nat) (h : k < preambleLength r wake) :
    (frameBits f r wake)[k]? = some (k % 2 == 0) := by
  unfold frameBits
  rw [List.append_assoc, List.getElem?_append_left (by rw [preambleBits_length]; exact h), preambleBits_get _ _ h]

theorem frameBits_sync (f : Frame) (r : Rate) (wake : Bool) (k : Nat) (h : k < 16) :
    (frameBits f r wake)[preambleLength r wake + k]? = some ((0x1B4E : BitVec 16).getMsbD k) := by
  have hs : (bytesBits [syncWord.extractLsb' 8 8, syncWord.extractLsb' 0 8]).length = 16 := rfl
  unfold frameBits
  rw [List.append_assoc, List.getElem?_append_right (by rw [preambleBits_length]; omega), preambleBits_length,
    Nat.add_sub_cancel_left, List.getElem?_append_left (by rw [hs]; exact h), syncBits_get k h]

theorem frameBits_byte (f : Frame) (r : Rate) (wake : Bool) (n k : Nat) (byte : Byte) (hk : k < 8)
    (hn : (wireBytes f)[n]? = some byte) :
    (frameBits f r wake)[preambleLength r wake + 16 + 8 * n + k]? = some (byte.getMsbD k) := by
  have hs : (bytesBits [syncWord.extractLsb' 8 8, syncWord.extractLsb' 0 8]).length = 16 := rfl
  unfold frameBits
  rw [List.append_assoc, List.getElem?_append_right (by rw [preambleBits_length]; omega), preambleBits_length,
    List.getElem?_append_right (by rw [hs]; omega), hs,
    show preambleLength r wake + 16 + 8 * n + k - preambleLength r wake - 16 = 8 * n + k by omega]
  exact bytesBits_get _ _ _ _ hk hn

theorem frameBits_length (f : Frame) (r : Rate) (wake : Bool) :
    (frameBits f r wake).length = preambleLength r wake + 16 + 8 * (wireBytes f).length := by
  unfold frameBits
  rw [List.length_append, List.length_append, preambleBits_length, bytesBits_length, bytesBits_length]
  rfl

/-! ## HDO (R180) -/

/-- FFh before the answer is ready. -/
theorem hdoBit_ones {s : State} (h : ∀ a shown, s.host.exchange ≠ .answering a shown) (clock : Nat) : s.hdoBit clock = true := by
  have hk : clock % 8 < 8 := Nat.mod_lt _ (by decide)
  have hb : s.hdo (clock / 8) = 0xFF := by
    unfold State.hdo
    cases he : s.host.exchange <;> first | rfl | exact absurd he (h _ _)
  have all : ∀ k : Fin 8, (0xFF : Byte).getMsbD k.val = true := by decide
  unfold State.hdoBit
  rw [hb]
  exact all ⟨clock % 8, hk⟩

/-- Bit k of byte n of the answer. -/
theorem hdoBit_answer {s : State} {a : Answer} {shown : Option Bool} (h : s.host.exchange = .answering a shown) {n k : Nat}
    {byte : Byte} (hk : k < 8) (hn : (answerBytes a)[n]? = some byte) : s.hdoBit (8 * n + k) = byte.getMsbD k := by
  unfold State.hdoBit State.hdo
  rw [show (8 * n + k) / 8 = n by omega, show (8 * n + k) % 8 = k by omega, h]
  simp only [List.getD_eq_getElem?_getD, hn, Option.getD_some]

/-- FFh after the last byte of the answer. -/
theorem hdoBit_after {s : State} {a : Answer} {shown : Option Bool} (h : s.host.exchange = .answering a shown) {clock : Nat}
    (hc : 8 * (answerBytes a).length ≤ clock) : s.hdoBit clock = true := by
  have hk : clock % 8 < 8 := Nat.mod_lt _ (by decide)
  have hn : (answerBytes a)[clock / 8]? = none := List.getElem?_eq_none (by omega)
  have all : ∀ k : Fin 8, (0xFF : Byte).getMsbD k.val = true := by decide
  unfold State.hdoBit State.hdo
  rw [h]
  simp only [List.getD_eq_getElem?_getD, hn, Option.getD_none]
  exact all ⟨clock % 8, hk⟩

/-! ## TXB -/

theorem txb_none {s : State} (h : s.chan.onAir = none) (u : Nat) : s.txb u = none := by simp [State.txb, h]

/-- The one tone in the lead. -/
theorem txb_lead {s : State} {a : OnAir} (ha : s.chan.onAir = some a) {u : Nat} (h : (s.now - a.keyedAt) * 24 + u < 5 * 24) :
    s.txb u = some .one := by
  simp only [State.txb, ha, Option.bind_some, OnAir.toneAt]
  exact if_pos h

/-- The tone of a bit, in each unit of its period. -/
theorem txb_bit {s : State} {a : OnAir} (ha : s.chan.onAir = some a) {u bit into : Nat}
    (h : (s.now - a.keyedAt) * 24 + u = 5 * 24 + bit * bitUnits a.rate + into) (hi : into < bitUnits a.rate) :
    s.txb u = (frameBits a.frame a.rate a.wake)[bit]?.map toneOf := by
  have hpos : 0 < bitUnits a.rate := by cases a.rate <;> decide
  have hge : ¬ (s.now - a.keyedAt) * unitsPerMs + u < leadMs * unitsPerMs := by
    change ¬ (s.now - a.keyedAt) * 24 + u < 5 * 24
    omega
  have hat : (s.now - a.keyedAt) * unitsPerMs + u - leadMs * unitsPerMs = bitUnits a.rate * bit + into := by
    change (s.now - a.keyedAt) * 24 + u - 5 * 24 = _
    rw [h, Nat.mul_comm bit]
    omega
  simp only [State.txb, ha, Option.bind_some, OnAir.toneAt]
  rw [if_neg hge, hat, Nat.mul_add_div hpos, Nat.div_eq_of_lt hi, Nat.add_zero]

end Sys2Proof.Machine
end

