-- ==== Sys2Proof/Tests/Slice0.lean ====
section
/-! SUPPORT. Tests: the checks of WellFormed refuse an ill-formed term each; frames written out byte by byte from the layouts
of 01 are read as the frames they stand for; and for the statements of Certificates/Slice0, states and operands that meet
the hypotheses of each clause together. -/

namespace Sys2Proof.Tests

set_option Elab.async false

open Sys2Proof.Machine

/-! ## WellFormed -/

theorem test_wellFormed_refusesNoteWithoutText : Instr.wellFormed (.note 0 0x58C4E0 []) = false := by decide +kernel
theorem test_wellFormed_takesNoteOfOneByte : Instr.wellFormed (.note 0 0x58C4E0 [0x41]) = true := by decide +kernel
theorem test_wellFormed_refusesLongProbe : Instr.wellFormed (.probe 0x58C4E0 (List.replicate 17 0)) = false := by decide +kernel
theorem test_wellFormed_refusesUnknownCommandInTheTable : Instr.wellFormed (.unknownCommand 0x03 []) = false := by decide +kernel
theorem test_wellFormed_takesWrongCount : Instr.wellFormed (.unknownCommand 0x03 [0]) = true := by decide +kernel
theorem test_wellFormed_refusesOtherSyncWord : Instr.wellFormed (.syncWordFound 0x1B4F) = false := by decide +kernel
theorem test_wellFormed_refusesBitOf1040 : Instr.wellFormed (.huntFailed (.longBit 1040)) = false := by decide +kernel
theorem test_wellFormed_refusesWindowOf23 : Instr.wellFormed (.huntFailed (.windowPassed 23)) = false := by decide +kernel

/-- A header of a unit frame. -/
def unitHeader (sender : Identity) (role : Role) (dest : Identity) (seq : BitVec 4) : Header :=
  { sender := sender, role := role, authority := false, seq := seq, crew := 12, mode := .unit, dest := dest }

/-- A header of a frame to crew 12, with authority as given. -/
def crewHeader (sender : Identity) (role : Role) : Header :=
  { sender := sender, role := role, authority := false, seq := 0, crew := 12, mode := .crew, dest := 12 }

/-- A header of a frame to the yard. -/
def yardHeader (sender : Identity) (role : Role) (authority : Bool) : Header :=
  { sender := sender, role := role, authority := authority, seq := 0, crew := 12, mode := .yard, dest := 0 }

theorem test_wellFormed_refusesCheckOfThreeUnits :
    Instr.wellFormed (.checkFrame 0 (unitHeader 0x3A07C2 .operator 0x58C4E0 0) 1 3) = false := by decide +kernel
theorem test_wellFormed_takesCheckOfFourUnits :
    Instr.wellFormed (.checkFrame 0 (unitHeader 0x3A07C2 .operator 0x58C4E0 0) 1 4) = true := by decide +kernel
theorem test_wellFormed_refusesFrameOfNoUnit :
    Instr.wellFormed (.presentFrame 0 (crewHeader 0xFFFFFF .operator)) = false := by decide +kernel
theorem test_wellFormed_refusesMalformedBytesThatHoldAFrame :
    Instr.wellFormed (.malformedFrame [0x43, 0x04, 0x3A, 0x07, 0xC2, 0x0C, 0x00, 0x00, 0x0C, 0x00]) = false := by decide +kernel

/-! ## Frames read from bytes written out by the layouts of 01 -/

/-- HALT 7, copy 1, by 3A07C2h with authority, to the yard: header bytes 0 to 9, then originator, number, copy, relay. -/
theorem test_bytes_halt :
    frameOfBytes [0x01, 0x08, 0x3A, 0x07, 0xC2, 0x0C, 0x00, 0x00, 0x00, 0x86, 0x3A, 0x07, 0xC2, 0x07, 0x01, 0x00]
      = some ⟨yardHeader 0x3A07C2 .operator true, .halt 0x3A07C2 7 1 false⟩ := by decide +kernel

/-- MOVE under sequence 5 from 3A07C2h to 58C4E0h: FORWARD, speed step 3, brake RELEASED, horn on: 01 011 00 1 0 0. -/
theorem test_bytes_move :
    frameOfBytes [0x10, 0x50, 0x3A, 0x07, 0xC2, 0x0C, 0x58, 0xC4, 0xE0, 0x02, 0x01, 0x64]
      = some ⟨unitHeader 0x3A07C2 .operator 0x58C4E0 5,
          .move { direction := .forward, step := 3, brake := .released, horn := true, uncouple := false, sand := false }⟩ := by
  decide +kernel

/-- STATUS from a traction: check 9, standstill, stop asserted, UNATTENDED and JAM-STOP, sequence 4 present, speed band 2. -/
theorem test_bytes_status :
    frameOfBytes [0x12, 0x02, 0x58, 0xC4, 0xE0, 0x0C, 0x3A, 0x07, 0xC2, 0x08, 0x09, 0x01, 0x01, 0x00, 0x00, 0x01, 0x02, 0x4A]
      = some ⟨unitHeader 0x58C4E0 .traction 0x3A07C2 0,
          .status { check := 9, standstill := true, stopAsserted := true, portFailed := false, transferPending := false
                    causes := 0x102, speed := 2, lastSeq := some 4 }⟩ := by decide +kernel

/-- ANSWER to MOVE 5: REFUSED STOPPED. -/
theorem test_bytes_answer :
    frameOfBytes [0x13, 0x02, 0x58, 0xC4, 0xE0, 0x0C, 0x3A, 0x07, 0xC2, 0x04, 0x10, 0x05, 0x02, 0x09]
      = some ⟨unitHeader 0x58C4E0 .traction 0x3A07C2 0, .answer .move 5 .refused (some .stopped)⟩ := by decide +kernel

/-- OFFER of 58C4E0h's control by 3A07C2h with 15 s left, to 3A07C3h. -/
theorem test_bytes_offer :
    frameOfBytes [0x25, 0x02, 0x58, 0xC4, 0xE0, 0x0C, 0x3A, 0x07, 0xC3, 0x04, 0x3A, 0x07, 0xC2, 0x0F]
      = some ⟨unitHeader 0x58C4E0 .traction 0x3A07C3 0, .offer 0x3A07C2 15⟩ := by decide +kernel

/-- CLEAR of 5 blocks to crew 12, and NOTE of the text "A" to the yard. -/
theorem test_bytes_clearAndNote :
    frameOfBytes [0x31, 0x04, 0x3A, 0x07, 0xC2, 0x0C, 0x00, 0x00, 0x0C, 0x01, 0x05]
        = some ⟨crewHeader 0x3A07C2 .operator, .clear 5⟩
      ∧ frameOfBytes [0x40, 0x08, 0x3A, 0x07, 0xC2, 0x0C, 0x00, 0x00, 0x00, 0x01, 0x41]
        = some ⟨yardHeader 0x3A07C2 .operator false, .note [0x41]⟩ := by decide +kernel

/-- A frame with a bit that carries no field, or with a byte too many, is malformed. -/
theorem test_bytes_refused :
    frameOfBytes [0x43, 0x14, 0x3A, 0x07, 0xC2, 0x0C, 0x00, 0x01, 0x0C, 0x00] = none
      ∧ frameOfBytes [0x10, 0x50, 0x3A, 0x07, 0xC2, 0x0C, 0x58, 0xC4, 0xE0, 0x02, 0x05, 0x64] = none
      ∧ frameOfBytes [0x43, 0x04, 0x3A, 0x07, 0xC2, 0x0C, 0x00, 0x00, 0x0C, 0x01, 0x00] = none := by decide +kernel

/-- The check over the nine characters 1 to 9, which a 1021h check begun at FFFFh is known by (R3). -/
theorem test_check : frameCheck [0x31, 0x32, 0x33, 0x34, 0x35, 0x36, 0x37, 0x38, 0x39] = 0x29B1 := by decide +kernel

/-- No row of the table gives bits, so no word spells a command. -/
theorem test_decodeTableWord : decodeTableWord 16 0x1234 = none := rfl

/-! ## Stations to witness hypotheses with -/

/-- A configuration at FULL with halt authority and jam stops. -/
def cfgOf (role : Role) : ConfigRec :=
  { role := role, crew := 12, rate := .full, authority := true, period := 600, dormancy := 30000, talkLimit := 40
    jamStops := true, selects := 127, threshold := 4, timeout := 50 }

/-- A station in ACTIVE at 1000 ms, with a free channel, its inputs sampled, its gate passed, receiving a packet. -/
def station (id : Identity) (role : Role) (stop : StopUnit) : State :=
  { State.reset with
    unitId := id, now := 1000
    pins := { cdet := false, tack := false, hsel := true }
    chan := { view := .free 0, queue := [], onAir := none, spell := none }
    stop := stop
    port := { Port.reset with still := some true, ready := some true, speed := some 0 }
    floor := { Floor.reset with boundary := some 1020 }
    life := { st := .active, config := some (cfgOf role), activity := some 1000, notice := .idle, sniff := none, window := none }
    test := { TestUnit.reset with gate := true }
    host := { HostLink.reset with exchange := .receiving } }

/-- An operator. -/
def op : State := station 0x3A07C2 .operator StopUnit.reset
/-- A traction with no stop cause. -/
def tr : State := station 0x58C4E0 .traction { causes := 0, stopA := .released, stopB := .released }

/-- A state with other stop causes, its lines asserted. -/
def stopped (c : CauseSet) (s : State) : State := { s with stop := { causes := c, stopA := .asserted, stopB := .asserted } }

/-- A peer of crew 12 heard at 900 ms. -/
def peerOf (id : Identity) (role : Role) : PeerEntry :=
  { id := id, role := some role, crew := some 12, rate := .full, quality := some 7, lastHeard := some 900, created := 900
    dormant := false }

/-- A state that knows some peers. -/
def knowing (ps : List PeerEntry) (s : State) : State := { s with peers := { s.peers with entries := ps } }

/-- A state with one bond, in slot 0. -/
def bonded (e : BondEntry) (s : State) : State := { s with bond := { slots := ⟨some e, none, none, none⟩, detached := none } }

/-- An operator's entry for the traction 58C4E0h. -/
def opBond (st : OpState) (req : Option Request) : OpEntry :=
  { traction := 0x58C4E0, st := st, nextSeq := 5, req := req, link := some { check := 3, period := 600 }
    sup := some { history := List.replicate 8 .heard, heard := false, due := 1000 }, offer := none, handing := none }

/-- A traction's entry for the operator 3A07C2h. -/
def trBond (st : TrState) : TrEntry :=
  { operator := 0x3A07C2, st := st, offered := false, last := none
    sup := some { period := 600, history := List.replicate 8 .heard, heard := false, closeAt := 1000 }
    lostSince := none, transfer := none }

/-- A waiting queue entry. -/
def waiting (cls : AccessClass) (tag : OwnerTag) : QEntry :=
  { frame := ⟨unitHeader 0x3A07C2 .operator 0x58C4E0 0, .resume⟩, cls := cls, entryTime := 900, notBefore := none
    needsWake := false, rate := .full, k := some 0, tag := tag, onAir := false, withdrawn := false, eligibleTaken := true }

/-- A state with a transmit queue. -/
def queued (q : List QEntry) (s : State) : State := { s with chan := { s.chan with queue := q } }

/-- The operator's header to the traction, under a sequence. -/
def fromOp (seq : BitVec 4) : Header := unitHeader 0x3A07C2 .operator 0x58C4E0 seq
/-- The traction's header to the operator. -/
def fromTr : Header := unitHeader 0x58C4E0 .traction 0x3A07C2 0

/-- A traction bound to the operator, which it knows. -/
def bound (e : TrEntry) : State := bonded (.tr e) (knowing [peerOf 0x3A07C2 .operator] tr)

/-- A pending transfer to 3A07C3h. -/
def transferTo (expiry : Nat) (next : Option Nat) : Transfer :=
  { target := 0x3A07C3, handing := 0x3A07C2, expiry := expiry, nextOffer := next }

/-- A report of no block's making, to fill the queue with. -/
def filler : Report :=
  { kind := .note, urgent := false, lostBefore := false, time := 1000, subject := 0, detail := [], text := []
    entryTime := 1000 }

/-- A state with a report queue of some length. -/
def reported (n : Nat) (s : State) : State := { s with host := { s.host with reports := List.replicate n filler } }

/-- A state in which a frame at FULL with time stamp 900 is being read. -/
def hearing (s : State) : State := { s with modem := .inFrame .full 32 900 }

/-- The state in which the owner of a frame finds the station after `hearing`. -/
def heardBy (f : Frame) (s : State) : State := handed 0 f .full 900 (hearing s)

/-- The frame comes to its owner in `hearing s`. -/
def comes (f : Frame) (s : State) : Bool :=
  s.life.st == .active && frameWellFormed f && f.header.sender != s.unitId
    && ((hearing s).forMe f.header || floorKind (frameKind f))

theorem heardAt_of_comes {f : Frame} {s : State} (h : comes f s = true) : HeardAt f 0 900 (hearing s) (heardBy f s) := by
  simp only [comes, Bool.and_eq_true, Bool.or_eq_true, beq_iff_eq, bne_iff_ne] at h
  exact ⟨.full, ⟨⟨32, rfl⟩, h.1.1.1, h.1.1.2, h.1.2⟩, h.2, rfl⟩

/-! ## The machine, resets, invariants -/

theorem test_StepRunsFrontCommand : ∃ s : State, s.pending = .localStop :: [.readId] :=
  ⟨{ op with pending := [.localStop, .readId] }, rfl⟩

theorem test_IdleStepRunsDueEventOrTicks :
    op.pending = [] ∧ (nextEvent { op with now := 1020 }).isSome = true
      ∧ nextEvent { op with host := { op.host with exchange := .between } } = none := by
  decide +kernel

theorem test_IdleStepBeginsTheFrameOnAir :
    let s : State := { op with
      now := 1003, host := { op.host with exchange := .between }
      chan := { view := .own, queue := [], spell := none
                onAir := some { frame := ⟨crewHeader 1 .operator, .present⟩, rate := .full, wake := false, voice := none
                                keyedAt := 995, phase := .preamble } } }
    nextEvent s = none ∧ 995 + 5 + bitsMs .full 16 ≤ s.now + 1 := by
  decide +kernel

theorem test_ExecKeepsQueueIdentityAndClock :
    (∃ t, exec .localStop op = .next t ∧ t.now = op.now) ∧ ∃ t, exec .resetn op = .next t ∧ t.now = 0 :=
  ⟨⟨_, rfl, by decide +kernel⟩, _, rfl, rfl⟩

theorem test_ResetHoldsAndSetsStatedValues :
    (op.receiving = true ∧ op.life.st ≠ .init)
      ∧ (let s : State := { State.reset with now := 5, host := { HostLink.reset with exchange := .receiving } }
         s.receiving = true ∧ s.life.st = .init ∧ 5 ≤ s.now) := by
  decide +kernel

theorem test_StepKeepsStopLinesWithCauses :
    (StopPathSafe (stopped 1 op) ∧ ∃ t, step (stopped 1 op) = .next t) ∧ (StopPathSafe tr ∧ ∃ t, step tr = .next t) :=
  ⟨⟨⟨⟨by decide +kernel, by decide +kernel⟩, fun _ => by decide +kernel⟩, _, rfl⟩,
   ⟨⟨⟨by decide +kernel, by decide +kernel⟩, fun ⟨_, _, _, h⟩ => (by cases h)⟩, _, rfl⟩⟩

theorem test_StepKeepsCapacities : WithinCapacities (reported 24 op) ∧ ∃ t, step (reported 24 op) = .next t :=
  ⟨by unfold WithinCapacities; decide +kernel, _, rfl⟩

theorem test_StepKeepsAlarmWithHeldFlags :
    let s : State := { op with fault := { live := 0, held := 4, selects := 4, timer := none, alarm := true } }
    AlarmFollows s ∧ ∃ t, step s = .next t :=
  ⟨by unfold AlarmFollows; decide +kernel, _, rfl⟩

/-! ## Frames -/

/-- One frame of each kind, with fields at the ends of their ranges. -/
def sampleFrames : List Frame :=
  let u := unitHeader 0xFFFFFE .assist 1 15
  [⟨yardHeader 1 .traction true, .halt 0xFFFFFF 255 2 true⟩, ⟨u, .move safeRecord⟩, ⟨u, .check 255 20⟩,
   ⟨u, .status { check := 255, standstill := false, stopAsserted := true, portFailed := true, transferPending := true
                 causes := 0x1FF, speed := 7, lastSeq := some 0 }⟩,
   ⟨u, .answer .handover 15 .refused (some .declined)⟩, ⟨u, .resume⟩, ⟨u, .bindAsk⟩,
   ⟨u, .bindReply .refused (some .held) .quarter true true⟩, ⟨u, .take 4 true⟩, ⟨u, .release true⟩, ⟨u, .handover 0⟩,
   ⟨u, .offer 0 15⟩, ⟨u, .settled .declined⟩, ⟨crewHeader 1 .operator, .claim .crew⟩, ⟨crewHeader 1 .operator, .clear 75⟩,
   ⟨crewHeader 1 .operator, .voice 255 (List.replicate 10 0xFFFFFFFFFFFF)⟩, ⟨u, .note (List.replicate 48 0x7E)⟩,
   ⟨u, .probe []⟩, ⟨u, .echo 7 .half (List.replicate 16 0xAA)⟩, ⟨crewHeader 1 .operator, .present⟩,
   ⟨crewHeader 1 .operator, .dormant⟩]

theorem test_FrameBytesReadBack : sampleFrames.all frameWellFormed = true := by decide +kernel

theorem test_FrameOfBytesIsExact :
    sampleFrames.all (fun f => frameOfBytes (frameBytes f) == some f) = true := by decide +kernel

theorem test_AirTimesAreThoseOfTheTable :
    (List.replicate 10 (0 : CodecFrame)).length = 10 ∧ ∃ b, b = Body.check 0 6 ∨ b = Body.move safeRecord :=
  ⟨rfl, _, .inl rfl⟩

theorem test_TonesOfAFrame :
    let sends (wake : Bool) (phase : AirPhase) : State := { op with chan := { op.chan with
      onAir := some { frame := ⟨crewHeader 0x3A07C2 .operator, .present⟩, rate := .full, wake := wake, voice := none
                      keyedAt := 995, phase := phase } } }
    let s := sends false .frame
    op.txb 0 = none ∧ ({ s with now := 999 }).txb 23 = some .one ∧ s.txb 0 = some .one ∧ s.txb (15 * 5 + 4) = some .zero
      ∧ s.txb (19 * 5) = some .one ∧ s.txb (31 * 5) = some .zero ∧ s.txb (33 * 5) = some .one ∧ s.txb (38 * 5) = some .one
      ∧ s.txb (39 * 5) = some .one ∧ s.txb (128 * 5) = none ∧ (sends true .wake).txb (33 * 5) = some .zero := by
  decide +kernel

/-! ## The shared operations -/

/-- A queue of one class 1 entry and eleven of class 2, the last but one of them on air. -/
def mixedQueue : List QEntry :=
  waiting .c1 .status :: (List.replicate 9 (waiting .c2 .note)
    ++ [{ waiting .c2 .echo with onAir := true }, waiting .c2 .probe])

theorem test_OfferedFrameIsQueuedDisplacesOrIsRefused :
    (Room op ∧ kindClass .move ≠ .c0) ∧ (Room op ∧ kindClass .halt = .c0 ∧ op.cuttable = false)
      ∧ (¬ Room (queued (List.replicate 12 (waiting .c1 .status)) op)
          ∧ ∀ e ∈ List.replicate 12 (waiting .c1 .status), e.onAir = true ∨ classNum e.cls ≤ classNum (kindClass .move))
      ∧ (¬ Room (queued mixedQueue op) ∧ mixedQueue = mixedQueue.take 11 ++ waiting .c2 .probe :: []
          ∧ classNum (kindClass .halt) < classNum (waiting .c2 .probe).cls
          ∧ (∀ x ∈ mixedQueue.take 11, x.onAir = false → classNum x.cls ≤ classNum (waiting .c2 .probe).cls)) := by
  unfold Room
  decide +kernel

theorem test_ReportIsQueuedOrLost :
    (reported 23 op).host.reports.length < 24 ∧ 24 ≤ (reported 24 op).host.reports.length := by decide +kernel

theorem test_FaultMessagesRiseAndFall :
    op.isLive .jam = false ∧ ({ op with fault := { op.fault with live := conditionBit .jam } }).isLive .jam = true := by
  decide +kernel

theorem test_DisplacedOwnerIsToldAndRemovals :
    (let q := mixedQueue.take 11 ++ [waiting .c2 (.request 0 .bindAsk 4)]
     ¬ (queued q op).chan.queue.length < 12 ∧ classNum (kindClass .check) < classNum (waiting .c2 .echo).cls
       ∧ classNum (kindClass .check) < 2 ∧ kindClass .check ≠ .c0
       ∧ ∀ x ∈ mixedQueue.take 11, x.onAir = false → classNum x.cls ≤ 2)
      ∧ (∃ e ∈ mixedQueue, e.tag = .note ∧ e.onAir = false) ∧ (∀ e ∈ mixedQueue, e.tag = .echo → e.onAir = true)
      ∧ ∀ e ∈ mixedQueue, e.tag = .claim → e.onAir = true := by
  decide +kernel

theorem test_ReportLostWhileARecordIsClockedOut :
    let s : State := { reported 24 op with host := { (reported 24 op).host with exchange := .answering ⟨.ok, []⟩ (some true) } }
    24 ≤ s.host.reports.length ∧ s.host.exchange = .answering ⟨.ok, []⟩ (some true) := by
  decide +kernel

theorem test_StopCauseChangeIsReportedAndDriven :
    (let turned (s : State) (add remove : CauseSet) := (s.stop.causes &&& ~~~remove) ||| add
     turned tr 0 1 = tr.stop.causes ∧ (tr.stop.causes = 0 ∧ turned tr 1 0 ≠ 0)
       ∧ ((stopped 1 tr).stop.causes ≠ 0 ∧ turned (stopped 1 tr) 0 1 = 0)
       ∧ ((stopped 1 tr).stop.causes ≠ 0 ∧ turned (stopped 1 tr) 0x100 0 ≠ 1 ∧ turned (stopped 1 tr) 0x100 0 ≠ 0))
      ∧ tr.host.reports.length < 24 := by
  decide +kernel

/-- A state whose port has failed with the safe record in its slot. -/
def failing (s : State) : State := { s with port := { s.port with st := .failed, slot := some safeRecord } }

/-- A state in which a self-test runs. -/
def testing (r : RunningTest) (s : State) : State := { s with test := { s.test with running := some r } }

theorem test_StopCauseChangeMovesThePort :
    let turned (s : State) (add remove : CauseSet) := (s.stop.causes &&& ~~~remove) ||| add
    let s := failing (stopped 0x20 tr)
    let unstill (s : State) : State := { s with port := { s.port with still := some false } }
    (s.port.st = .failed ∧ s.stop.causes &&& causePortFault ≠ 0 ∧ turned s 0 0x20 &&& causePortFault = 0
        ∧ s.pins.tack = false ∧ s.port.slot = some safeRecord)
      ∧ ({ s with pins := { s.pins with tack := true } }).pins.tack = true
      ∧ ((unstill tr).isTraction = true ∧ (unstill tr).started = true ∧ turned tr 1 0 ≠ 0 ∧ (unstill tr).still = false
          ∧ tr.port.disagree = false ∧ (changeCauses 1 0 noSubject (unstill tr)).port.disagree = true)
      ∧ (let on := changeCauses 1 0 noSubject (unstill tr)
         on.port.disagree = true ∧ (changeCauses 0 1 noSubject on).port.disagree = false)
      ∧ (let s := testing (.stopline 950 3 (some 2)) (stopped 1 (reported 20 tr))
         s.test.running = some (.stopline 950 3 (some 2)) ∧ turned s 0 1 = 0 ∧ s.host.reports.length ≤ 20) := by
  decide +kernel

theorem test_RequiredFreeTimes :
    ((waiting .c0 .clear).needsWake = false ∧ (waiting .c0 .clear).cls = .c0)
      ∧ ({ waiting .c1 .status with k := some 3 }).k = some 3 ∧ ({ waiting .c2 .note with k := some 7 }).cls = .c2
      ∧ ({ waiting .c2 .note with needsWake := true }).needsWake = true := by
  decide +kernel

/-- A spurt in its TALKING phase. -/
def spurt : Spurt :=
  { scope := .crew, phase := .talking, sent := 3, discarded := 0, nextNo := 4, assembly := [], started := true }

/-- A completed voice block. -/
def block : VoiceBlock := { number := 3, frames := List.replicate 10 0 }

/-- A state whose floor is OWN with one block in the outlet. -/
def speaking (s : State) : State := { s with floor := { s.floor with st := .own spurt, outlet := [block] } }

/-- Something on air since 995 ms. -/
def airing (phase : AirPhase) (wake : Bool) (f : Frame) : OnAir :=
  { frame := f, rate := .full, wake := wake, voice := none, keyedAt := 995, phase := phase }

theorem test_CandidateIsChosen :
    let q := [{ waiting .c0 .clear with notBefore := some 1001 }, waiting .c2 .note, waiting .c1 .status]
    (let s := queued q op
     q = [{ waiting .c0 .clear with notBefore := some 1001 }, waiting .c2 .note] ++ waiting .c1 .status :: []
       ∧ s.eligible (waiting .c1 .status) = true
       ∧ (∀ x ∈ q.take 2, s.eligible x = true → 1 < classNum x.cls) ∧ s.chan.view = .free 0 ∧ s.life.st = .active
       ∧ s.loopRunning = false ∧ s.chan.onAir = none ∧ s.candidate = some (.entry (waiting .c1 .status))
       ∧ 0 + requiredFreeMs (.entry (waiting .c1 .status)) ≤ s.now
       ∧ (∀ x ∈ q.take 2, x.cls = .c1 → s.eligible x = false))
      ∧ (let s := speaking (queued [waiting .c2 .note] op)
         s.eligible (waiting .c2 .note) = true ∧ s.voiceHead = some (.voice block .crew)
           ∧ s.candidate = some (.voice block .crew) ∧ 0 + 30 ≤ s.now) := by
  decide +kernel

theorem test_CandidateOfAnEmptyQueue :
    ((speaking op).chan.queue = [] ∧ (speaking op).voiceHead ≠ none ∧ (speaking op).candidate = some (.voice block .crew))
      ∧ (op.floor.outlet = [] ∧ op.voiceHead = none ∧ op.candidate = none)
      ∧ (∀ x ∈ (speaking (queued [waiting .c2 .note] op)).chan.queue, op.eligible x = true → x.cls = .c2)
      ∧ (∀ x ∈ (queued [{ waiting .c0 .clear with notBefore := some 1001 }] op).chan.queue, op.eligible x = false) := by
  decide +kernel

theorem test_PhasesPass :
    (airing .lead true ⟨crewHeader 1 .operator, .present⟩).phase = .lead ∧ 995 + 5 ≤ op.now
      ∧ (airing .wake true ⟨crewHeader 1 .operator, .present⟩).phase = .wake ∧ 995 + 1205 ≤ ({ op with now := 2200 }).now := by
  decide +kernel

/-! ## Host commands -/

theorem test_ExchangePhasesAndUnknownPackets :
    ({ op with pins := { op.pins with hsel := false } }).pins.hsel = false
      ∧ packetKnown 0x05 0 = false ∧ packetKnown 0x03 1 = false ∧ packetKnown 0x03 0 = true
      ∧ op.receiving = true ∧ ([] : List Byte).length = 0 ∧ 48 < (List.replicate 49 (0 : Byte)).length
      ∧ 16 < (List.replicate 17 (0 : Byte)).length
      ∧ (∃ e, e = Exchange.preparing 999 (.plain ⟨.ok, []⟩)) ∧ (∃ e, e = Exchange.preparing 999 (.record filler))
      ∧ ∃ e, e = Exchange.answering ⟨.ok, []⟩ (some true) :=
  ⟨rfl, rfl, rfl, rfl, rfl, rfl, by decide, by decide, ⟨_, rfl⟩, ⟨_, rfl⟩, _, rfl⟩

theorem test_BitsOfAnAnswer :
    let s : State := { op with host := { op.host with exchange := .answering ⟨.bad, [0x81]⟩ none } }
    op.hdoBit 7 = true ∧ (List.range 26).map s.hdoBit
      = [false, false, false, false, false, true, false, false,  false, false, false, false, false, false, false, true,
         true, false, false, false, false, false, false, true,  true, true] := by
  decide +kernel

/-- A station in another life state. -/
def living (st : LifeState) (s : State) : State := { s with life := { s.life with st := st } }

/-- A station with a DORMANT notice in its queue. -/
def noticed (s : State) : State :=
  { queued [waiting .c2 .dormantNotice] s with life := { s.life with notice := .queued } }

theorem test_taken : taken false op = some op ∧ taken true op = some op ∧ taken false tr = some tr ∧ taken true tr = some tr :=
  ⟨rfl, rfl, rfl, rfl⟩

theorem test_LifeStateDecidesWhetherACommandIsTaken :
    ((living .init op).receiving = true ∧ (living .init op).life.st = .init)
      ∧ ((living .setup op).receiving = true ∧ (living .setup op).life.st = .setup)
      ∧ (op.life.st = .active ∧ op.life.notice = .idle)
      ∧ ((noticed op).life.notice = .queued ∧ ∃ e ∈ (noticed op).chan.queue, e.tag = .dormantNotice ∧ e.onAir = false)
      ∧ ((living .dormant op).life.st = .dormant ∧ (living .dormant op).chan.queue = []) := by
  decide +kernel

theorem test_CommandsOfEachLifeState :
    ((takenInSetup .readId).isSome = true ∧ (takenInSetup (.bind 1)).isSome = true)
      ∧ (∀ c ∈ [Instr.bind 1, .unbind 1, .take 1, .release 1, .move 1 0, .resume 1, .handover 1 2, .accept 1, .decline 1,
          .halt 1, .localStop, .localClear, .talk 1, .talkEnd, .note 0 1 [0x41], .probe 1 []],
          takenInSetup c = some false ∧ c.wellFormed = true)
      ∧ (let s : State := { queued [{ waiting .c2 .dormantNotice with onAir := true }] op with
                            life := { op.life with notice := .queued } }
         s.life.notice = .queued ∧ (∃ e ∈ s.chan.queue, e.tag = .dormantNotice ∧ e.onAir = true)
           ∧ ∀ e ∈ s.chan.queue, e.tag = .dormantNotice → e.onAir = true) := by
  decide +kernel

/-- Parameters of CONFIGURE at the greatest values, and with every default. -/
def greatest : ConfigParams := ⟨2, 250, 2, 1, 20, 60, 75, 1, 127, 16, 250⟩
def defaulted : ConfigParams := ⟨0, 1, 0, 0, 0, 0, 0, 0, 0, 0, 0⟩

theorem test_ConfigureJudgesAndReplacesTheRecord :
    (configOfParams greatest).isSome = true ∧ (configOfParams defaulted).isSome = true
      ∧ configOfParams { defaulted with crew := 251 } = none ∧ configOfParams { defaulted with period := 3 } = none
      ∧ (living .setup op).receiving = true ∧ op.life.st ≠ .setup ∧ (taken true op).isSome = true := by
  decide +kernel

theorem test_StartEntersActive :
    (let s := living .setup (stopped 1 tr)
     s.receiving = true ∧ s.life.st = .setup ∧ s.life.config = some (cfgOf .traction)
       ∧ s.stop.causes &&& causeUnstarted ≠ 0 ∧ s.port.st = .idle)
      ∧ (let s : State := { living .setup op with life := { (living .setup op).life with config := none } }
         s.life.st = .setup ∧ s.life.config = none)
      ∧ tr.life.st ≠ .setup := by
  decide +kernel

theorem test_ReadingCommandsAnswerAndChangeNothing :
    let s := bonded (.op (opBond .controlling none)) (knowing (List.replicate 32 (peerOf 0x58C4E0 .traction)) (reported 1 op))
    taken true s = some s ∧ s.host.reports = filler :: [] ∧ op.host.reports = []
      ∧ s.peers.entries[31]? = some (peerOf 0x58C4E0 .traction) ∧ op.peers.entries[0]? = none
      ∧ s.entry 0 = some (.op (opBond .controlling none)) ∧ s.entry 3 = none
      ∧ (bonded (.tr (trBond .standby)) tr).entry 0 = some (.tr (trBond .standby)) := by
  decide +kernel

theorem test_BindMakesAnAskingEntry :
    let full : State := { op with bond := { slots := ⟨some (.op (opBond .standby none)), some (.op (opBond .standby none)),
      some (.op (opBond .standby none)), some (.op (opBond .standby none))⟩, detached := none } }
    op.badIdentity 0xFFFFFF = true ∧ (tr.badIdentity 1 = false ∧ tr.isOperator = false)
      ∧ (op.badIdentity 0x58C4E0 = false ∧ op.isOperator = true ∧ op.opSlot 0x58C4E0 = none ∧ op.freeSlot = some 0
          ∧ op.chan.queue.length < 12)
      ∧ ((full.opSlot 0x58C4E0).isSome = true ∧ taken false full = some full)
      ∧ (full.opSlot 1 = none ∧ full.freeSlot = none)
      ∧ ¬ (queued mixedQueue op).chan.queue.length < 12 := by
  decide +kernel

/-- An operator with a bond to 58C4E0h. -/
def onBond (st : OpState) (req : Option Request) : State := bonded (.op (opBond st req)) op

theorem test_onBond (st : OpState) (req : Option Request) :
    taken false (onBond st req) = some (onBond st req) ∧ OnBond 0x58C4E0 0 (opBond st req) (onBond st req) ∧ Room (onBond st req) :=
  ⟨rfl, ⟨rfl, rfl, rfl⟩, (by decide : 0 < 12)⟩

theorem test_RequestCommandsQueueOneRequest :
    (opBond .standby none).st = .standby ∧ (opBond .silent none).st = .silent ∧ (opBond .silent none).req = none
      ∧ recordOfWord 0x0244 = some
          { direction := .reverse, step := 2, brake := .released, horn := true, uncouple := false, sand := false } := by
  decide +kernel

/-- An outstanding MOVE. -/
def moving (phase : ReqPhase) : Request := { body := .move safeRecord, seq := 4, resends := 0, phase := phase }

/-- Two bonds in control beside one in a state of choice. -/
def crowded (st : OpState) : State :=
  { op with bond := { slots := ⟨some (.op (opBond st none)), some (.op { opBond .controlling none with traction := 2 }),
      some (.op { opBond .silent none with traction := 3 }), none⟩, detached := none } }

theorem test_BondCommandsAreTurnedAwayInOrder :
    op.badIdentity 0x3A07C2 = true ∧ (tr.badIdentity 1 = false ∧ tr.isOperator = false)
      ∧ (op.badIdentity 0x58C4E0 = false ∧ op.isOperator = true ∧ op.findOp 0x58C4E0 = none)
      ∧ recordOfWord 0x0300 = none ∧ (recordOfWord 0x0010).isSome = true ∧ op.badIdentity 0 = true
      ∧ (opBond .standby (some (moving .queued))).req.isSome = true
      ∧ (2 ≤ (crowded .standby).takenCount ∧ (crowded .standby).findOp 0x58C4E0 = some (0, opBond .standby none))
      ∧ (2 ≤ (crowded .offered).takenCount ∧ (crowded .offered).findOp 0x58C4E0 = some (0, opBond .offered none)) := by
  decide +kernel

theorem test_BondCommandsMeetARequestOrAFullQueue :
    (∀ st ∈ [OpState.asking, .standby, .taking, .controlling, .silent], ∀ b ∈ [ReqBody.resume, .move safeRecord],
        let s := onBond st (some { moving .queued with body := b })
        taken false s = some s ∧ s.findOp 0x58C4E0 = some (0, opBond st (some { moving .queued with body := b })))
      ∧ reqKind ReqBody.resume ≠ .move ∧ (op.badIdentity 0x3A07C3 = false ∧ (0x58C4E0 : Identity) ≠ 0x3A07C3)
      ∧ ({ opBond .controlling none with handing := some 0x3A07C3 }).handing.isSome = true
      ∧ (∀ st ∈ [OpState.standby, .controlling, .silent],
          let s := queued mixedQueue (onBond st none)
          ¬ s.chan.queue.length < 12 ∧ taken false s = some s ∧ s.takenCount < 2) := by
  decide +kernel

theorem test_TakeAndAcceptSendATake :
    (onBond .standby none).takenCount < 2 ∧ (onBond .offered none).takenCount < 2 := by decide +kernel

/-- An OFFERED entry made for its offer. -/
def offered (made : Bool) : OpEntry :=
  { opBond .offered none with offer := some { controller := 0x3A07C3, expiry := 1000, madeForOffer := made } }

theorem test_HandoverAndDeclineEffects :
    (op.badIdentity 0x3A07C3 = false ∧ (opBond .controlling none).handing = none ∧ (opBond .controlling none).req = none)
      ∧ (offered true).offer = some { controller := 0x3A07C3, expiry := 1000, madeForOffer := true }
      ∧ (bonded (.op (offered true)) op).findOp 0x58C4E0 = some (0, offered true)
      ∧ taken false (bonded (.op (offered false)) op) = some (bonded (.op (offered false)) op) := by
  decide +kernel

theorem test_MoveSupersedesAnOutstandingMove :
    (let s := queued [waiting .c1 (.request 0 .move 4)] (onBond .controlling (some (moving .queued)))
     taken false s = some s ∧ s.findOp 0x58C4E0 = some (0, opBond .controlling (some (moving .queued)))
       ∧ ∃ x ∈ s.chan.queue, (x.tag == .request 0 .move 4 && !x.onAir) = true)
      ∧ (moving (.awaiting 1300)).phase ≠ .queued ∧ (onBond .silent (some (moving (.awaiting 1300)))).chan.queue.length < 12 := by
  decide +kernel

theorem test_StopCommandsSendAndChangeCauses :
    (scopeOfCode 0 = none ∧ scopeOfCode 3 = none) ∧ scopeOfCode 2 = some .yard
      ∧ ({ op with life := { op.life with config := some { cfgOf .operator with authority := false } } }).cfg.authority = false
      ∧ (op.cfg.authority = true ∧ (withdrawCopy op).cuttable = false ∧ (withdrawCopy op).chan.queue.length < 12)
      ∧ tr.isTraction = true ∧ op.isTraction = false := by
  decide +kernel

theorem test_TalkClaimsAndTalkEndEnds :
    scopeOfCode 1 = some .crew ∧ (op.cfg.rate = .full ∧ op.floor.st = .free ∧ op.chan.queue.length < 12)
      ∧ ({ op with life := { op.life with config := some { cfgOf .operator with rate := .half } } }).cfg.rate ≠ .full
      ∧ ((speaking op).floor.st = .own spurt ∧ spurt.phase = .talking ∧ (speaking op).voiceOnAir = false)
      ∧ (let s : State := { queued [waiting .c2 .claim] op with floor := { op.floor with st := .claiming .crew none } }
         s.floor.st = .claiming .crew none ∧ ∃ x ∈ s.chan.queue, x.tag = .claim ∧ x.onAir = false)
      ∧ (let s : State := { queued [{ waiting .c2 .claim with onAir := true }] op with
                            floor := { op.floor with st := .claiming .crew none } }
         (∃ x ∈ s.chan.queue, x.tag = .claim ∧ x.onAir = true) ∧ ∀ x ∈ s.chan.queue, x.tag = .claim → x.onAir = true) := by
  decide +kernel

theorem test_NoteAndProbeQueueTheirFrames :
    (1 ≤ (List.replicate 48 (0x41 : Byte)).length ∧ (List.replicate 48 (0x41 : Byte)).length ≤ 48)
      ∧ (List.replicate 16 (0 : Byte)).length ≤ 16
      ∧ ((0 : Byte) = (modeCode .unit).setWidth 8 ∧ destValid .unit 0x58C4E0 = true ∧ (0x58C4E0 : Identity) ≠ op.unitId)
      ∧ ((1 : Byte) = (modeCode .crew).setWidth 8 ∧ destValid .crew 250 = true ∧ destValid .crew 251 = false)
      ∧ ((2 : Byte) = (modeCode .yard).setWidth 8 ∧ destValid .yard 0 = true) ∧ 2 < (3 : Byte).toNat
      ∧ (op.badIdentity 0 = true ∧ op.badIdentity 0x58C4E0 = false ∧ op.peers.probe = .none)
      ∧ (({ op with peers := { op.peers with probe := .queued 1 [] } }).peers.probe ≠ .none)
      ∧ ¬ (queued mixedQueue op).chan.queue.length < 12 := by
  decide +kernel

theorem test_TestStartsTheNamedTest :
    op.test.running = none ∧ (op.life.config.isSome = true ∧ op.mayLoop = true)
      ∧ (speaking op).mayLoop = false ∧ (tr.isTraction = true ∧ (stopped 1 tr).stop.causes ≠ 0 ∧ tr.still = true)
      ∧ tr.stop.causes = 0 ∧ op.isTraction = false ∧ 3 < (4 : Byte).toNat
      ∧ (let s : State := { living .setup op with life := { (living .setup op).life with config := none } }
         (taken true s).isSome = true ∧ s.life.config = none) := by
  decide +kernel

theorem test_ClearHeldClearsEndedHeldFlags :
    let s : State := { op with fault := { live := 1, held := 3, selects := 2, timer := none, alarm := true } }
    taken true s = some s ∧ (living .dormant s).life.st = .dormant ∧ (taken true (living .dormant s)).isSome = true
      ∧ s.receiving = true ∧ s.life.st ≠ .init := by
  decide +kernel

/-! ## Modem and channel -/

/-- A state with CDET active. -/
def carried (s : State) : State := { s with pins := { s.pins with cdet := true } }

/-- A state with another receive state. -/
def receiving (r : RxState) (s : State) : State := { s with modem := r }

theorem test_ChannelViewFollowsKeyCarrierAndFrames :
    (living .init op).life.st = .init
      ∧ ({ op with chan := { op.chan with onAir := some (airing .lead false ⟨crewHeader 1 .operator, .present⟩) } }).chan.onAir.isSome = true
      ∧ (op.chan.onAir = none ∧ (carried op).pins.cdet = true ∧ (hearing op).inFrame = true)
      ∧ (op.chan.view = .free 0 ∧ op.pins.cdet = false ∧ op.inFrame = false)
      ∧ (let s : State := { op with chan := { op.chan with view := .busy } }
         s.chan.view = .busy ∧ (judgeView s).chan.view = .free 1000)
      ∧ ({ carried op with chan := { op.chan with spell := some { start := 0, jam := true } } }).chan.spell.map Spell.jam = some true := by
  decide +kernel

theorem test_ChannelViewIsRedrawnOrKept :
    (∀ since, ({ op with chan := { op.chan with view := .busy } }).chan.view ≠ .free since) := by
  intro since h
  cases h

theorem test_RateHunterMovesThroughItsStates :
    ((carried op).hunts = true ∧ (carried op).modem = .hunting) ∧ (receiving (.locking .full 7) (carried op)).hunts = true ∧ 7 < 8 ∧ 1040 ≤ 1040 ∧ 1040 < 1041
      ∧ (receiving (.locking .half 8) (living .dormant op)).life.st = .dormant
      ∧ (receiving (.locking .half 8) (living .dormant op)).chan.queue.length < 12 ∧ op.life.st ≠ .dormant
      ∧ (receiving (.locked .half 8) op).modem = .locked .half 8 ∧ 24 ≤ 24 ∧ (0x1B4F : BitVec 16) ≠ 0x1B4E
      ∧ (hearing op).inFrame = true ∧ frameOfBytes [] = none := by
  decide +kernel

/-- A frame on air whose end has come, its entry in the queue under a tag. -/
def sending (tag : OwnerTag) (s : State) : State :=
  { s with chan := { s.chan with
      view := .own, queue := [{ waiting .c2 tag with onAir := true }]
      onAir := some { frame := ⟨crewHeader 1 .operator, .present⟩, rate := .full, wake := false, voice := none, keyedAt := 0
                      phase := .frame } } }

theorem test_FrameSentLeavesTheAirAndTellsItsOwner :
    (∀ a, (sending .note op).chan.onAir = some a → a.phase = .frame ∧ a.keyedAt + airMs a.frame a.rate a.wake ≤ op.now ∧ a.voice = none)
      ∧ (sending .note op).airTag = some .note ∧ (queued [] (sending .note op)).airTag = none
      ∧ (let s := sending (.request 0 .move 4) (onBond .controlling (some (moving .queued)))
         s.airTag = some (.request 0 .move 4) ∧ s.opEntry 0 = some (opBond .controlling (some (moving .queued)))
           ∧ reqKind (moving .queued).body = .move ∧ (moving .queued).seq = 4 ∧ (moving .queued).phase = .queued)
      ∧ (let s : State := { sending .probe op with peers := { op.peers with probe := .queued 0x58C4E0 [] } }
         s.airTag = some .probe ∧ s.peers.probe = .queued 0x58C4E0 [])
      ∧ (let s : State := { sending .claim op with floor := { op.floor with st := .claiming .crew none } }
         s.airTag = some .claim ∧ s.floor.st = .claiming .crew none)
      ∧ (let s : State := { sending (.haltCopy 7 2) op with halt := { op.halt with own := .sending 7 .crew 2 } }
         s.airTag = some (.haltCopy 7 2) ∧ s.halt.own = .sending 7 .crew 2)
      ∧ (let s : State := { sending .dormantNotice op with life := { op.life with notice := .queued } }
         s.airTag = some .dormantNotice ∧ s.life.notice = .queued) := by
  refine ⟨?_, by decide +kernel⟩
  rintro a ⟨⟩
  decide +kernel

theorem test_FrameSentVoiceIsCounted :
    let a : OnAir := { airing .frame false ⟨crewHeader 1 .operator, .voice 3 (List.replicate 10 0)⟩ with voice := some 3, keyedAt := 0 }
    a.keyedAt + airMs a.frame a.rate a.wake ≤ op.now ∧ (speaking op).floor.st = .own spurt ∧ spurt.phase = .talking
      ∧ spurt.sent + 1 ≠ op.cfg.talkLimit := by
  decide +kernel

/-- A spurt in CLEARING. -/
def clearing (cause : SpurtEnd) (offered : Bool) : Spurt := { spurt with phase := .clearing cause offered 1 }

/-- A voice block on air whose end has come. -/
def voicing (s : State) : State :=
  { s with chan := { view := .own, queue := [], spell := none
                     onAir := some { frame := ⟨crewHeader 0x3A07C2 .operator, .voice 3 (List.replicate 10 0)⟩, rate := .full
                                     wake := false, voice := some 3, keyedAt := 0, phase := .frame } } }

theorem test_FrameSentOffersClaimsAndCopies :
    (let s := sending .offer (bound { trBond .controlling with transfer := some (transferTo 16000 none) })
     s.airTag = some .offer ∧ s.pendingTransfer.isSome = true)
      ∧ (let s := { sending .claim op with floor := { op.floor with st := .claiming .crew (some .overridden) } }
         s.airTag = some .claim ∧ s.floor.st = .claiming .crew (some .overridden))
      ∧ (let s := { sending .clear op with floor := { op.floor with st := .own (clearing .talkEnd true) } }
         s.airTag = some .clear ∧ s.floor.st = .own (clearing .talkEnd true))
      ∧ (∀ copy ∈ [0, 1], let s := { sending (.haltCopy 7 copy) op with halt := { op.halt with own := .sending 7 .crew copy } }
         s.airTag = some (.haltCopy 7 copy) ∧ s.halt.own = .sending 7 .crew copy ∧ copy < 2)
      ∧ (sending (.relay 0x3A07C2 7) tr).airTag = some (.relay 0x3A07C2 7)
      ∧ (let s := { sending .dormantNotice op with life := { op.life with notice := .withdrawing } }
         s.airTag = some .dormantNotice ∧ s.life.notice = .withdrawing)
      ∧ (∀ sp ∈ [{ spurt with sent := 39 }, clearing .limit false, clearing .limit true],
          let s := { voicing op with floor := { op.floor with st := .own sp } }
          s.floor.st = .own sp ∧ (s.chan.onAir.map OnAir.voice) = some (some 3) ∧ s.cfg.talkLimit = 40) := by
  decide +kernel

theorem test_EntriesBecomeEligibleAndSpellsBecomeJam :
    (let e := { waiting .c1 .status with notBefore := some 1000, eligibleTaken := false }
     let s := queued [e] op
     s.eligible e = true ∧ e.eligibleTaken = false ∧ e.cls ≠ .c0 ∧ s.cuttable = false)
      ∧ (let e := { waiting .c0 (.haltCopy 7 1) with notBefore := some 1000, eligibleTaken := false }
         let s : State := { op with chan := { op.chan with
           queue := [{ waiting .c2 .note with onAir := true, needsWake := true }, e]
           onAir := some (airing .wake true ⟨crewHeader 1 .operator, .present⟩) } }
         s.eligible e = true ∧ e.cls = .c0 ∧ s.cuttable = true ∧ ∀ x ∈ s.chan.queue, x.withdrawn = false)
      ∧ 0 + 12000 ≤ ({ op with now := 12000 }).now := by
  decide +kernel

/-! ## Received frames -/

theorem test_OwnIdentityFrameShowsAConflict :
    (Instr.presentFrame 0 (crewHeader 0x3A07C2 .operator)).frame? = some ⟨crewHeader 0x3A07C2 .operator, .present⟩
      ∧ (hearing op).modem = .inFrame .full 32 900 ∧ op.life.st = .active
      ∧ frameWellFormed ⟨crewHeader 0x3A07C2 .operator, .present⟩ = true ∧ op.unitId = 0x3A07C2 ∧ op.peers.conflict = none
      ∧ (let s : State := { op with peers := { op.peers with conflict := some { deadline := 1000, id := 0x3A07C2 } } }
         s.peers.conflict.isSome = true ∧ 1000 ≤ s.now)
      ∧ op.now < 1001 := by
  decide +kernel

theorem test_FramesEndOrTeachThePeerTable :
    op.inFrame = false ∧ ((hearing op).inFrame = true ∧ (living .setup op).life.st ≠ .active)
      ∧ frameWellFormed ⟨crewHeader 0 .operator, .present⟩ = false
      ∧ (op.life.st = .active ∧ frameWellFormed ⟨unitHeader 7 .assist 8 0, .bindAsk⟩ = true
          ∧ op.forMe (unitHeader 7 .assist 8 0) = false ∧ floorKind .bindAsk = false)
      ∧ ((knowing [peerOf 7 .assist] op).peer 7 = some (peerOf 7 .assist) ∧ Role.assist ≠ .operator)
      ∧ (op.peer 7 = none ∧ op.peers.entries.length < 32)
      ∧ (let q := peerOf 9 .assist
         let s := knowing (List.replicate 31 { q with lastHeard := some 901 } ++ q :: []) op
         s.peer 7 = none ∧ 32 ≤ s.peers.entries.length ∧ s.pinned 9 = false
           ∧ ∀ r ∈ List.replicate 31 { q with lastHeard := some 901 }, heardBase q < heardBase r) := by
  decide +kernel

theorem test_DormantMarksChange :
    (let s := queued [waiting .c2 .note] (knowing [peerOf 7 .assist] op)
     (match s.peer 7 with | some p => p.dormant != true | none => true) = true)
      ∧ (let s := queued [waiting .c2 .note] (knowing [{ peerOf 7 .assist with dormant := true }] op)
         (match s.peer 7 with | some p => p.dormant != false | none => false) = true)
      ∧ (op.peer 7 = none ∧ floorKind .dormant = false) := by
  decide +kernel

theorem test_RequestFramesAtOtherRolesAndDuplicates :
    (HeardAt ⟨fromTr, .resume⟩ 0 900 (hearing op) (heardBy ⟨fromTr, .resume⟩ op)
        ∧ (heardBy ⟨fromTr, .resume⟩ op).isTraction = false ∧ (heardBy ⟨fromTr, .resume⟩ op).chan.queue.length < 12)
      ∧ ∀ st, st = TrState.standby ∨ st = .controlling →
        let e := { trBond st with last := some { kind := .release, seq := 4, verdict := .accepted, reason := none } }
        HeardAt ⟨fromOp 4, .release true⟩ 0 900 (hearing (bound e)) (heardBy ⟨fromOp 4, .release true⟩ (bound e))
          ∧ (heardBy ⟨fromOp 4, .release true⟩ (bound e)).isTraction = true
          ∧ (heardBy ⟨fromOp 4, .release true⟩ (bound e)).findTr 0x3A07C2 = some (0, e) := by
  refine ⟨⟨heardAt_of_comes (by decide +kernel), by decide +kernel⟩, ?_⟩
  rintro st (rfl | rfl) <;> exact ⟨heardAt_of_comes (by decide +kernel), by decide +kernel⟩

theorem test_MoveFrameIsJudgedAndAnswered :
    let f : Frame := ⟨fromOp 5, .move safeRecord⟩
    let s := bound (trBond .controlling)
    let full : State := { s with port := { s.port with st := .failed, slot := some safeRecord } }
    (HeardAt f 0 900 (hearing s) (heardBy f s) ∧ (heardBy f s).findTr 0x3A07C2 = some (0, trBond .controlling)
        ∧ (heardBy f s).stop.causes = 0 ∧ (heardBy f s).port.slot = none ∧ (heardBy f s).chan.queue.length < 12)
      ∧ (HeardAt f 0 900 (hearing full) (heardBy f full) ∧ (heardBy f full).port.slot.isSome = true)
      ∧ (HeardAt f 0 900 (hearing (stopped 1 s)) (heardBy f (stopped 1 s)) ∧ (heardBy f (stopped 1 s)).stop.causes ≠ 0) := by
  exact ⟨⟨heardAt_of_comes (by decide +kernel), by decide +kernel⟩, ⟨heardAt_of_comes (by decide +kernel), by decide +kernel⟩,
    heardAt_of_comes (by decide +kernel), by decide +kernel⟩

theorem test_ResumeFrameIsJudgedAndAnswered :
    let f : Frame := ⟨fromOp 5, .resume⟩
    let s := bound (trBond .controlling)
    let with_ (still ready : Bool) (c : CauseSet) : State :=
      stopped c { s with port := { s.port with still := some still, ready := some ready } }
    (HeardAt f 0 900 (hearing (with_ false true 1)) (heardBy f (with_ false true 1)) ∧ (heardBy f (with_ false true 1)).still = false)
      ∧ ((heardBy f (with_ true false 1)).still = true ∧ (heardBy f (with_ true false 1)).ready = false)
      ∧ ((heardBy f (with_ true true 0x100)).ready = true ∧ (heardBy f (with_ true true 0x100)).stop.causes &&& 0x1C1 ≠ 0)
      ∧ ((heardBy f (with_ true true 0x03E)).stop.causes &&& 0x1C1 = 0
          ∧ (heardBy f (with_ true true 0x03E)).findTr 0x3A07C2 = some (0, trBond .controlling))
      ∧ (HeardAt f 0 900 (hearing tr) (heardBy f tr) ∧ (heardBy f tr).findTr 0x3A07C2 = none)
      ∧ (heardBy f (bound (trBond .standby))).findTr 0x3A07C2 = some (0, trBond .standby) := by
  exact ⟨⟨heardAt_of_comes (by decide +kernel), by decide +kernel⟩, by decide +kernel, by decide +kernel, by decide +kernel,
    ⟨heardAt_of_comes (by decide +kernel), by decide +kernel⟩, by decide +kernel⟩

theorem test_LostOperatorComesBack :
    let lost := { trBond .lost with lostSince := some 500 }
    let f : Frame := ⟨fromOp 5, .move safeRecord⟩
    let g : Frame := ⟨fromOp 5, .resume⟩
    let c : Frame := ⟨fromOp 0, .check 3 20⟩
    (comes f (bound lost) = true ∧ (heardBy f (bound lost)).findTr 0x3A07C2 = some (0, lost) ∧ lost.last = none)
      ∧ (comes g (bound lost) = true ∧ (heardBy g (bound lost)).findTr 0x3A07C2 = some (0, lost))
      ∧ (comes c (bound lost) = true ∧ (heardBy c (bound lost)).findTr 0x3A07C2 = some (0, lost))
      ∧ (let e := { lost with last := some { kind := .move, seq := 5, verdict := .accepted, reason := none } }
         comes f (bound e) = true ∧ (heardBy f (bound e)).findTr 0x3A07C2 = some (0, e))
      ∧ (comes f (bound (trBond .standby)) = true
          ∧ (heardBy f (bound (trBond .standby))).findTr 0x3A07C2 = some (0, trBond .standby))
      ∧ (comes f tr = true ∧ (heardBy f tr).findTr 0x3A07C2 = none) := by
  decide +kernel

/-- The body of a STATUS that echoes check 3. -/
def statusOf3 : StatusBody :=
  { check := 3, standstill := true, stopAsserted := false, portFailed := false, transferPending := false, causes := 0
    speed := 0, lastSeq := none }

theorem test_CheckAndStatusFrames :
    let f : Frame := ⟨fromOp 0, .check 3 20⟩
    let s := bound (trBond .controlling)
    let g : Frame := ⟨fromTr, .status statusOf3⟩
    (HeardAt f 0 900 (hearing s) (heardBy f s) ∧ (heardBy f s).isTraction = true
        ∧ (heardBy f s).findTr 0x3A07C2 = some (0, trBond .controlling) ∧ (heardBy f s).chan.queue.length < 12)
      ∧ (HeardAt f 0 900 (hearing tr) (heardBy f tr) ∧ (heardBy f tr).findTr 0x3A07C2 = none)
      ∧ ∀ st, st = OpState.controlling ∨ st = .silent →
        HeardAt g 0 900 (hearing (onBond st none)) (heardBy g (onBond st none)) ∧ (heardBy g (onBond st none)).isOperator = true
          ∧ (heardBy g (onBond st none)).findOp 0x58C4E0 = some (0, opBond st none) := by
  refine ⟨⟨heardAt_of_comes (by decide +kernel), by decide +kernel⟩, ⟨heardAt_of_comes (by decide +kernel), by decide +kernel⟩, ?_⟩
  rintro st (rfl | rfl) <;> exact ⟨heardAt_of_comes (by decide +kernel), by decide +kernel⟩

theorem test_StatusResendsOrLeavesTheRequest :
    let g : Frame := ⟨fromTr, .status { statusOf3 with lastSeq := some 4 }⟩
    let q (resends : Nat) : Request := { body := .resume, seq := 4, resends := resends, phase := .awaiting 1300 }
    (∀ st ∈ [OpState.taking, .controlling, .silent], ∀ n ∈ [1, 2],
        comes g (onBond st (some (q n))) = true
          ∧ (heardBy g (onBond st (some (q n)))).findOp 0x58C4E0 = some (0, opBond st (some (q n))))
      ∧ (comes g (onBond .standby none) = true ∧ (heardBy g (onBond .standby none)).findOp 0x58C4E0 = some (0, opBond .standby none))
      ∧ (comes ⟨fromOp 0, .check 3 20⟩ (bound (trBond .standby)) = true) := by
  decide +kernel

theorem test_AnswerFrameEndsOrRetriesItsRequest :
    let f (k : Kind) (v : Verdict) (r : Option Reason) : Frame := ⟨fromTr, .answer k 4 v r⟩
    let q (b : ReqBody) : Request := { body := b, seq := 4, resends := 1, phase := .awaiting 1300 }
    let s (b : ReqBody) := onBond .controlling (some (q b))
    ∀ x ∈ [(f .move .busy none, ReqBody.move safeRecord), (f .resume .accepted none, .resume),
           (f .handover .accepted none, .handover 1), (f .move .refused (some .stopped), .move safeRecord),
           (f .take .accepted none, .take false 600)],
      HeardAt x.1 0 900 (hearing (s x.2)) (heardBy x.1 (s x.2))
        ∧ (heardBy x.1 (s x.2)).findOp 0x58C4E0 = some (0, opBond .controlling (some (q x.2)))
        ∧ (heardBy x.1 (s x.2)).chan.queue = [] := by
  intro f q s x hx
  simp only [List.mem_cons, List.not_mem_nil, or_false] at hx
  rcases hx with rfl | rfl | rfl | rfl | rfl <;> exact ⟨heardAt_of_comes (by decide +kernel), by decide +kernel⟩

theorem test_AnswerEndsEveryKindOfRequest :
    let f (k : Kind) (v : Verdict) (r : Option Reason) : Frame := ⟨fromTr, .answer k 4 v r⟩
    let q (b : ReqBody) (resends : Nat) (phase : ReqPhase) : Request := { body := b, seq := 4, resends := resends, phase := phase }
    (∀ x ∈ [(f .release .accepted none, OpState.controlling, q (.release false) 0 .queued),
            (f .release .accepted none, .silent, q (.release true) 0 (.awaiting 1300)),
            (f .release .refused (some .state), .standby, q (.release false) 0 (.awaiting 1300)),
            (f .release .refused (some .notBound), .controlling, q (.release false) 0 (.retry 1300)),
            (f .take .refused (some .held), .taking, q (.take false 600) 1 (.awaiting 1300)),
            (f .take .accepted none, .taking, q (.take true 600) 1 (.awaiting 1300)),
            (f .handover .refused (some .crew), .controlling, q (.handover 1) 0 (.awaiting 1300)),
            (f .move .busy none, .controlling, q (.move safeRecord) 2 (.awaiting 1300)),
            (f .move .busy none, .controlling, q (.move safeRecord) 2 .queued),
            (f .move .busy none, .silent, q (.move safeRecord) 2 (.retry 1300)),
            (f .move .accepted none, .controlling, q .resume 0 (.awaiting 1300))],
        comes x.1 (onBond x.2.1 (some x.2.2)) = true
          ∧ (heardBy x.1 (onBond x.2.1 (some x.2.2))).findOp 0x58C4E0 = some (0, opBond x.2.1 (some x.2.2))
          ∧ (heardBy x.1 (onBond x.2.1 (some x.2.2))).isTraction = false
          ∧ ∀ e ∈ (heardBy x.1 (onBond x.2.1 (some x.2.2))).chan.queue, e.tag = .check 0 → e.onAir = true)
      ∧ (let g : Frame := ⟨unitHeader 0x3A07C3 .operator 0x58C4E0 0, .answer .offer 0 .refused (some .declined)⟩
         let s := bound { trBond .controlling with transfer := some (transferTo 16000 none) }
         comes g s = true ∧ (heardBy g s).isTraction = true ∧ (heardBy g s).chan.queue.length < 12
           ∧ (heardBy g s).pendingTransfer = some (transferTo 16000 none)
           ∧ comes g tr = true ∧ (heardBy g tr).pendingTransfer = none) := by
  decide +kernel

/-- A superseded MOVE that waits again after a cut goes with its entry, at an UNBIND and at a refusal NOT-BOUND; a frame on
air is marked, and the frames of other slots stay. -/
theorem test_RemovedEntryTakesItsFrames :
    let onAir : QEntry := { waiting .c2 (.request 0 .release 4) with onAir := true }
    let s (q : Request) : State :=
      queued [waiting .c1 (.request 0 .move 3), waiting .c1 (.check 0), onAir, waiting .c2 .note, waiting .c1 (.check 1)]
        (onBond .controlling (some q))
    ∀ x ∈ [({ moving .queued with body := .release true }, ReqEnd.noAnswer), (moving .queued, .refused .notBound)],
      let t := endRequest offer 0 x.2 (s x.1)
      t.entry 0 = none ∧ t.chan.queue = [{ onAir with withdrawn := true }, waiting .c2 .note, waiting .c1 (.check 1)] := by
  decide +kernel

theorem test_BindFramesMakeAndEndBonds :
    let f : Frame := ⟨fromOp 0, .bindAsk⟩
    let g : Frame := ⟨fromTr, .bindReply .accepted none .full true false⟩
    let full : State := { knowing [peerOf 0x3A07C2 .operator] tr with bond :=
      { slots := ⟨some (.tr { trBond .standby with operator := 2 }), some (.tr { trBond .standby with operator := 3 }),
          some (.tr { trBond .standby with operator := 4 }), some (.tr { trBond .standby with operator := 5 })⟩, detached := none } }
    (HeardAt ⟨unitHeader 0x58C4E0 .traction 0x3A07C2 0, .bindAsk⟩ 0 900 (hearing op) (heardBy ⟨fromTr, .bindAsk⟩ op)
        ∧ op.isTraction = false)
      ∧ (HeardAt f 0 900 (hearing tr) (heardBy f tr) ∧ (heardBy f tr).peerRole 0x3A07C2 = some .operator
          ∧ (heardBy f tr).peerCrew 0x3A07C2 = some tr.cfg.crew ∧ (heardBy f tr).trSlot 0x3A07C2 = none
          ∧ (heardBy f tr).freeSlot = some 0 ∧ (heardBy f tr).chan.queue.length < 12)
      ∧ (heardBy f (bound (trBond .standby))).findTr 0x3A07C2 = some (0, trBond .standby)
      ∧ ((heardBy f full).trSlot 0x3A07C2 = none ∧ (heardBy f full).freeSlot = none)
      ∧ (heardBy ⟨{ fromOp 0 with role := .assist }, .bindAsk⟩ tr).peerRole 0x3A07C2 ≠ some .operator
      ∧ (heardBy ⟨{ fromOp 0 with crew := 13 }, .bindAsk⟩ tr).peerCrew 0x3A07C2 ≠ some tr.cfg.crew
      ∧ (HeardAt g 0 900 (hearing (onBond .asking none)) (heardBy g (onBond .asking none))
          ∧ (heardBy g (onBond .asking none)).findOp 0x58C4E0 = some (0, opBond .asking none)
          ∧ (heardBy g (onBond .asking none)).chan.queue = [])
      ∧ (heardBy g op).findOp 0x58C4E0 = none := by
  exact ⟨⟨heardAt_of_comes (by decide +kernel), by decide +kernel⟩, ⟨heardAt_of_comes (by decide +kernel), by decide +kernel⟩,
    by decide +kernel, by decide +kernel, by decide +kernel, by decide +kernel,
    ⟨heardAt_of_comes (by decide +kernel), by decide +kernel⟩, by decide +kernel⟩

theorem test_BindReplyRefusesOrIsDiscarded :
    let g : Frame := ⟨fromTr, .bindReply .refused (some .full) .full true false⟩
    let q : Request := { body := .bindAsk, seq := 0, resends := 0, phase := .awaiting 1300 }
    (comes g (onBond .asking (some q)) = true
        ∧ (heardBy g (onBond .asking (some q))).findOp 0x58C4E0 = some (0, opBond .asking (some q)))
      ∧ (comes g (onBond .standby none) = true
          ∧ (heardBy g (onBond .standby none)).findOp 0x58C4E0 = some (0, opBond .standby none))
      ∧ comes ⟨fromOp 0, .bindReply .accepted none .full true false⟩ tr = true := by
  decide +kernel

/-- Two bonds at a traction: one of the operator 3A07C2h, and one of 3A07C3h that is in control. -/
def contested : State :=
  { bound (trBond .standby) with bond := { slots := ⟨some (.tr (trBond .standby)),
      some (.tr { trBond .controlling with operator := 0x3A07C3 }), none, none⟩, detached := none } }

theorem test_TakeAndReleaseFramesGiveAndEndControl :
    let f (by_ : Bool) : Frame := ⟨fromOp 5, .take 20 by_⟩
    let s := bound (trBond .standby)
    let g : Frame := ⟨fromOp 5, .release false⟩
    (HeardAt (f false) 0 900 (hearing s) (heardBy (f false) s) ∧ (heardBy (f false) s).findTr 0x3A07C2 = some (0, trBond .standby)
        ∧ (heardBy (f false) s).test.gate = true ∧ (heardBy (f false) s).still = true
        ∧ (heardBy (f false) s).heldByOther 0x3A07C2 = false ∧ (heardBy (f false) s).pendingTransfer = none
        ∧ (heardBy (f false) s).chan.queue.length < 12)
      ∧ (heardBy (f false) { s with test := TestUnit.reset }).test.gate = false
      ∧ (heardBy (f false) { s with port := { s.port with still := some false } }).still = false
      ∧ ((heardBy (f false) contested).heldByOther 0x3A07C2 = true
          ∧ (heardBy (f false) contested).findTr 0x3A07C2 = some (0, trBond .standby))
      ∧ (HeardAt (f true) 0 900 (hearing s) (heardBy (f true) s) ∧ (heardBy (f true) s).pendingTransfer = none)
      ∧ (HeardAt g 0 900 (hearing (bound (trBond .controlling))) (heardBy g (bound (trBond .controlling)))
          ∧ (trBond .controlling).transfer = none) := by
  exact ⟨⟨heardAt_of_comes (by decide +kernel), by decide +kernel⟩, by decide +kernel, by decide +kernel, by decide +kernel,
    ⟨heardAt_of_comes (by decide +kernel), by decide +kernel⟩, heardAt_of_comes (by decide +kernel), by decide +kernel⟩

/-- A traction with two bonds, of the operators 3A07C2h and 3A07C3h, both known. -/
def twoBonds (first second : TrEntry) : State :=
  { knowing [peerOf 0x3A07C2 .operator, peerOf 0x3A07C3 .operator] tr with bond :=
      { slots := ⟨some (.tr first), some (.tr second), none, none⟩, detached := none } }

/-- A state with a detached transfer. -/
def detached (x : Transfer) (s : State) : State := { s with bond := { s.bond with detached := some x } }

theorem test_TakeRepeatsAndCompletesTransfers :
    let f (by_ : Bool) : Frame := ⟨fromOp 5, .take 20 by_⟩
    let g : Frame := ⟨unitHeader 0x3A07C3 .operator 0x58C4E0 5, .take 20 true⟩
    let target := { trBond .standby with operator := 0x3A07C3, offered := true }
    let holding (st : TrState) := { trBond st with transfer := some (transferTo 16000 none) }
    (∀ by_ ∈ [true, false], ∀ st ∈ [TrState.controlling, .lost],
        comes (f by_) (bound (trBond st)) = true ∧ (heardBy (f by_) (bound (trBond st))).findTr 0x3A07C2 = some (0, trBond st))
      ∧ (comes (f false) tr = true ∧ comes (f true) tr = true ∧ (heardBy (f true) tr).findTr 0x3A07C2 = none)
      ∧ (let toSender : Transfer := { transferTo 16000 none with target := 0x3A07C2, handing := 0x3A07C3 }
         let s := detached toSender (bound (trBond .standby))
         ∀ by_ ∈ [true, false], comes (f by_) s = true ∧ (heardBy (f by_) s).attached = none
           ∧ (heardBy (f by_) s).bond.detached = some toSender ∧ toSender.target = (fromOp 5).sender
           ∧ (heardBy (f by_) s).pendingTransfer = some toSender ∧ (heardBy (f by_) s).chan.queue.length < 11)
      ∧ (let s := detached (transferTo 16000 none) (twoBonds (trBond .standby) target)
         comes (f false) s = true ∧ (heardBy (f false) s).attached = none
           ∧ (heardBy (f false) s).bond.detached = some (transferTo 16000 none)
           ∧ (heardBy (f false) s).heldByOther 0x3A07C2 = false)
      ∧ (∀ st ∈ [TrState.controlling, .lost], let s := twoBonds (holding st) target
         comes g s = true ∧ (heardBy g s).findTr 0x3A07C3 = some (1, target) ∧ target.last = none
           ∧ (heardBy g s).pendingTransfer = some (transferTo 16000 none)
           ∧ (heardBy g s).attached = some (0, transferTo 16000 none) ∧ (heardBy g s).trEntry 0 = some (holding st)
           ∧ (heardBy g s).still = true) := by
  decide +kernel

theorem test_ReleaseUnbindsAndDetaches :
    let g (unbind : Bool) : Frame := ⟨fromOp 5, .release unbind⟩
    let toSender : Transfer := { transferTo 16000 none with target := 0x3A07C2, handing := 0x3A07C3 }
    let leaving := detached toSender (bound { trBond .standby with offered := true })
    (comes (g true) tr = true ∧ (heardBy (g true) tr).findTr 0x3A07C2 = none)
      ∧ (∀ unbind ∈ [true, false],
          (comes (g unbind) (bound (trBond .standby)) = true
              ∧ (heardBy (g unbind) (bound (trBond .standby))).findTr 0x3A07C2 = some (0, trBond .standby)
              ∧ (heardBy (g unbind) (bound (trBond .standby))).pendingTransfer = none)
            ∧ ∀ st ∈ [TrState.controlling, .lost],
              let e := { trBond st with transfer := some (transferTo 16000 none) }
              comes (g unbind) (bound e) = true ∧ (heardBy (g unbind) (bound e)).findTr 0x3A07C2 = some (0, e))
      ∧ (comes (g true) leaving = true ∧ toSender.target = (fromOp 5).sender
          ∧ (agePeers (putEntry 0 none (heardBy (g true) leaving))).pendingTransfer = some toSender
          ∧ (heardBy (g true) leaving).chan.queue.length < 11) := by
  decide +kernel

theorem test_HandoverFrameWritesATransfer :
    let f : Frame := ⟨fromOp 5, .handover 0x3A07C3⟩
    let s := knowing [peerOf 0x3A07C2 .operator, peerOf 0x3A07C3 .operator] (bound (trBond .controlling))
    let pending := bound { trBond .controlling with transfer := some (transferTo 16000 none) }
    (HeardAt f 0 900 (hearing pending) (heardBy f pending) ∧ (heardBy f pending).pendingTransfer.isSome = true)
      ∧ (HeardAt f 0 900 (hearing (bound (trBond .controlling))) (heardBy f (bound (trBond .controlling)))
          ∧ (heardBy f (bound (trBond .controlling))).peerRole 0x3A07C3 ≠ some .operator
          ∧ (heardBy f (bound (trBond .controlling))).pendingTransfer = none)
      ∧ (HeardAt f 0 900 (hearing s) (heardBy f s) ∧ (heardBy f s).findTr 0x3A07C2 = some (0, trBond .controlling)
          ∧ (heardBy f s).peerRole 0x3A07C3 = some .operator ∧ (heardBy f s).peerCrew 0x3A07C3 = some (heardBy f s).cfg.crew
          ∧ (heardBy f s).trSlot 0x3A07C3 = none ∧ (heardBy f s).freeSlot = some 1 ∧ (heardBy f s).chan.queue.length < 11) := by
  exact ⟨⟨heardAt_of_comes (by decide +kernel), by decide +kernel⟩, ⟨heardAt_of_comes (by decide +kernel), by decide +kernel⟩,
    heardAt_of_comes (by decide +kernel), by decide +kernel⟩

theorem test_HandoverIsRefusedOrWritten :
    let f : Frame := ⟨fromOp 5, .handover 0x3A07C3⟩
    (comes f tr = true ∧ (heardBy f tr).findTr 0x3A07C2 = none)
      ∧ (∀ st ∈ [TrState.standby, .lost],
          comes f (bound (trBond st)) = true ∧ (heardBy f (bound (trBond st))).findTr 0x3A07C2 = some (0, trBond st))
      ∧ (let s := twoBonds (trBond .controlling) { trBond .standby with operator := 0x3A07C3 }
         comes f s = true ∧ (heardBy f s).findTr 0x3A07C3 = some (1, { trBond .standby with operator := 0x3A07C3 })
           ∧ (heardBy f s).pendingTransfer = none ∧ (heardBy f s).peerRole 0x3A07C3 = some .operator)
      ∧ (let other (id : Identity) := some (BondEntry.tr { trBond .standby with operator := id })
         let s : State := { twoBonds (trBond .controlling) (trBond .standby) with bond :=
           { slots := ⟨some (.tr (trBond .controlling)), other 1, other 2, other 3⟩, detached := none } }
         comes f s = true ∧ (heardBy f s).trSlot 0x3A07C3 = none ∧ (heardBy f s).freeSlot = none) := by
  decide +kernel

theorem test_OfferAndSettledFrames :
    let f : Frame := ⟨fromTr, .offer 0x3A07C3 15⟩
    let g : Frame := ⟨fromTr, .settled .completed⟩
    let b := onBond .controlling none
    let full : State := { op with bond := { slots := ⟨some (.op { opBond .standby none with traction := 1 }),
      some (.op { opBond .standby none with traction := 2 }), some (.op { opBond .standby none with traction := 3 }),
      some (.op { opBond .standby none with traction := 4 })⟩, detached := none } }
    (HeardAt ⟨fromOp 0, .offer 1 15⟩ 0 900 (hearing tr) (heardBy ⟨fromOp 0, .offer 1 15⟩ tr) ∧ tr.isOperator = false)
      ∧ (HeardAt f 0 900 (hearing op) (heardBy f op) ∧ (heardBy f op).peerRole 0x58C4E0 = some .traction
          ∧ (heardBy f op).peerCrew 0x58C4E0 = some op.cfg.crew ∧ (heardBy f op).findOp 0x58C4E0 = none
          ∧ (heardBy f op).freeSlot = some 0)
      ∧ (heardBy ⟨{ fromTr with crew := 13 }, .offer 1 15⟩ op).peerCrew 0x58C4E0 ≠ some op.cfg.crew
      ∧ ((heardBy f full).findOp 0x58C4E0 = none ∧ (heardBy f full).freeSlot = none ∧ (heardBy f full).chan.queue.length < 12)
      ∧ (heardBy f (onBond .standby none)).findOp 0x58C4E0 = some (0, opBond .standby none)
      ∧ (HeardAt ⟨fromOp 0, .settled .lapsed⟩ 0 900 (hearing tr) (heardBy ⟨fromOp 0, .settled .lapsed⟩ tr))
      ∧ (HeardAt g 0 900 (hearing b) (heardBy g b) ∧ (heardBy g b).findOp 0x58C4E0 = some (0, opBond .controlling none)
          ∧ ∀ x ∈ (heardBy g b).chan.queue, x.tag ≠ .check 0)
      ∧ (heardBy g op).findOp 0x58C4E0 = none := by
  exact ⟨⟨heardAt_of_comes (by decide +kernel), by decide +kernel⟩, ⟨heardAt_of_comes (by decide +kernel), by decide +kernel⟩,
    by decide +kernel, by decide +kernel, by decide +kernel, heardAt_of_comes (by decide +kernel),
    ⟨heardAt_of_comes (by decide +kernel), by decide +kernel⟩, by decide +kernel⟩

/-- In a full table whose other entries are newer than the frame, the OFFER that makes an entry keeps both peers it names. -/
theorem test_OfferKeepsThePeersItsEntryNames :
    let others := (List.range 31).map (fun n => { peerOf (BitVec.ofNat 24 (n + 1)) .assist with lastHeard := some 950 })
    let s := knowing (others ++ [peerOf 0x58C4E0 .traction]) op
    let f : Frame := ⟨fromTr, .offer 0x3A07C3 15⟩
    let t := takeOffer 0x58C4E0 0x3A07C3 15 900 (heardBy f s)
    comes f s = true ∧ (heardBy f s).peers.entries.length = 32 ∧ t.pinned 0x58C4E0 = true ∧ t.pinned 0x3A07C3 = true
      ∧ t.peerRole 0x58C4E0 = some .traction ∧ (t.peer 0x3A07C3).isSome = true ∧ t.peer 1 = none := by
  decide +kernel

theorem test_OfferIsRenewedDiscardedOrRefused :
    let f (controller : Identity) : Frame := ⟨fromTr, .offer controller 15⟩
    let g : Frame := ⟨fromTr, .settled .completed⟩
    let take : Request := { body := .take true 600, seq := 4, resends := 0, phase := .queued }
    ((comes (f 0x3A07C3) (bonded (.op (offered true)) op) = true ∧ comes (f 0x3A07C4) (bonded (.op (offered false)) op) = true)
        ∧ (heardBy (f 0x3A07C3) (bonded (.op (offered true)) op)).findOp 0x58C4E0 = some (0, offered true)
        ∧ (heardBy (f 0x3A07C4) (bonded (.op (offered false)) op)).findOp 0x58C4E0 = some (0, offered false))
      ∧ (comes (f 1) (onBond .taking (some take)) = true
          ∧ (heardBy (f 1) (onBond .taking (some take))).findOp 0x58C4E0 = some (0, opBond .taking (some take)))
      ∧ (∀ x ∈ [(OpState.controlling, none), (.standby, some take), (.taking, some { take with body := .take false 600 })],
          comes (f 1) (onBond x.1 x.2) = true ∧ (heardBy (f 1) (onBond x.1 x.2)).chan.queue.length < 12
            ∧ (heardBy (f 1) (onBond x.1 x.2)).findOp 0x58C4E0 = some (0, opBond x.1 x.2))
      ∧ (∀ st ∈ [OpState.silent, .standby], comes g (onBond st none) = true
          ∧ (heardBy g (onBond st none)).findOp 0x58C4E0 = some (0, opBond st none)) := by
  decide +kernel

/-- A pair of the halt memory. -/
def pair (n : Byte) (first : Nat) (queued : Bool) : HaltEntry :=
  { originator := 0x3A07C2, number := n, firstHeard := first, relayQueued := queued }

theorem test_HaltFrameIsScreenedAndActedOn :
    let f (h : Header) (relay : Bool) : Frame := ⟨h, .halt 0x3A07C2 7 0 relay⟩
    let yard := yardHeader 0x3A07C2 .operator true
    let known := { tr with halt := { tr.halt with memory := [pair 7 900 true] } }
    (HeardAt (f (yardHeader 5 .operator true) false) 0 900 (hearing tr) (heardBy (f (yardHeader 5 .operator true) false) tr))
      ∧ (HeardAt (f yard false) 0 900 (hearing tr) (heardBy (f yard false) tr)
          ∧ (heardBy (f yard false) tr).haltEntry 0x3A07C2 7 = none ∧ (heardBy (f yard false) tr).halt.memory.length < 8
          ∧ (heardBy (f yard false) tr).floor.st = .free ∧ (heardBy (f yard false) tr).chan.queue.length < 12)
      ∧ ((yardHeader 0x3A07C2 .operator false).authority = false ∧ (yardHeader 0x3A07C2 .operator false).mode = .yard)
      ∧ ((crewHeader 0x3A07C2 .operator).mode ≠ .yard ∧ comes (f (crewHeader 0x3A07C2 .operator) false) tr = true)
      ∧ (heardBy (f yard false) known).haltEntry 0x3A07C2 7 = some (pair 7 900 true)
      ∧ (comes (f (yardHeader 9 .traction false) true) op = true
          ∧ (heardBy (f (yardHeader 9 .traction false) true) op).peerRole 9 = some .traction ∧ op.isTraction = false) := by
  exact ⟨heardAt_of_comes (by decide +kernel), ⟨heardAt_of_comes (by decide +kernel), by decide +kernel⟩, by decide +kernel,
    by decide +kernel, by decide +kernel, by decide +kernel⟩

theorem test_HaltMeetsRelaysAndAFullMemory :
    let f (relay : Bool) : Frame := ⟨yardHeader 9 .traction true, .halt (if relay then 0x3A07C2 else 9) 7 0 relay⟩
    let remembering (m : List HaltEntry) (q : List QEntry) : State := queued q { tr with halt := { tr.halt with memory := m } }
    (∀ q ∈ [[waiting .c0 (.relay 0x3A07C2 7)], []], let s := remembering [pair 7 900 true] q
        comes (f true) s = true ∧ (heardBy (f true) s).haltEntry 0x3A07C2 7 = some (pair 7 900 true)
          ∧ (heardBy (f true) s).peerRole 9 = some .traction ∧ (heardBy (f true) s).chan.queue = q)
      ∧ (let s := remembering [pair 7 900 false] []
         comes (f true) s = true ∧ (heardBy (f true) s).haltEntry 0x3A07C2 7 = some (pair 7 900 false))
      ∧ (let rest := [pair 2 400 false, pair 3 401 false, pair 4 402 true, pair 5 400 false, pair 6 500 false, pair 8 600 false]
         let s := remembering (pair 1 401 false :: pair 9 400 true :: rest) [waiting .c0 (.relay 0x3A07C2 9)]
         comes (f false) s = true ∧ (heardBy (f false) s).haltEntry 9 7 = none
           ∧ (heardBy (f false) s).halt.memory = [pair 1 401 false] ++ pair 9 400 true :: rest
           ∧ 400 < (pair 1 401 false).firstHeard ∧ ∀ x ∈ rest, 400 ≤ x.firstHeard) := by
  decide +kernel

/-- A floor held by a talker whose last block was 254. -/
def heldBy (talker : Identity) : Held := { talker := talker, taken := 500, last := some 254, missed := 254 }

/-- A state with another floor state. -/
def flooring (st : FloorState) (s : State) : State := { s with floor := { s.floor with st := st } }

theorem test_FloorFramesFollowTheLowestTalker :
    let claim : Frame := ⟨crewHeader 7 .operator, .claim .crew⟩
    let voice : Frame := ⟨crewHeader 7 .operator, .voice 1 (List.replicate 10 0)⟩
    let clear : Frame := ⟨crewHeader 7 .operator, .clear 5⟩
    (∀ st ∈ [FloorState.free, .held (heldBy 8), .held (heldBy 6), .held (heldBy 7), .own spurt],
        (HeardAt claim 0 900 (hearing (flooring st op)) (heardBy claim (flooring st op))
          ∧ (heardBy claim (flooring st op)).floor.st = st)
        ∧ (HeardAt voice 0 900 (hearing (flooring st op)) (heardBy voice (flooring st op))
          ∧ (heardBy voice (flooring st op)).floor.st = st)
        ∧ (HeardAt clear 0 900 (hearing (flooring st op)) (heardBy clear (flooring st op))
          ∧ (heardBy clear (flooring st op)).floor.st = st))
      ∧ (heldBy 7).last = some 254 ∧ (7 : Identity).toNat < op.unitId.toNat
      ∧ (comes ⟨crewHeader 0x3A07C3 .operator, .claim .crew⟩ (flooring (.own spurt) op) = true
          ∧ op.unitId.toNat < (0x3A07C3 : Identity).toNat) := by
  refine ⟨?_, by decide +kernel⟩
  intro st hst
  simp only [List.mem_cons, List.not_mem_nil, or_false] at hst
  rcases hst with rfl | rfl | rfl | rfl | rfl <;>
    exact ⟨⟨heardAt_of_comes (by decide +kernel), rfl⟩, ⟨heardAt_of_comes (by decide +kernel), rfl⟩,
      heardAt_of_comes (by decide +kernel), rfl⟩

theorem test_HaltAndFloorFramesMeetClaimsAndSpurts :
    let claim : Frame := ⟨crewHeader 7 .operator, .claim .crew⟩
    let voice : Frame := ⟨crewHeader 7 .operator, .voice 1 (List.replicate 10 0)⟩
    let claiming (onAir : Bool) : State :=
      queued [{ waiting .c2 .claim with onAir := onAir }] (flooring (.claiming .crew none) op)
    (∀ st ∈ [FloorState.claiming .crew none, .claiming .crew (some .talkEnd), .own (clearing .limit true),
          .own (clearing .limit false), .held { heldBy 7 with last := none }],
        ∀ f ∈ [claim, voice], comes f (flooring st op) = true ∧ (heardBy f (flooring st op)).floor.st = st)
      ∧ (∃ x ∈ (claiming false).chan.queue, x.tag = .claim ∧ x.onAir = false)
      ∧ ((∃ x ∈ (claiming true).chan.queue, x.tag = .claim ∧ x.onAir = true)
          ∧ ∀ x ∈ (claiming true).chan.queue, x.tag = .claim → x.onAir = true)
      ∧ ((speaking op).voiceOnAir = false ∧ (voicing (speaking op)).voiceOnAir = true) := by
  decide +kernel

theorem test_NoteProbeEchoAndPresenceFrames :
    let h := unitHeader 7 .assist 0x3A07C2 0
    let asking : State := { op with peers := { op.peers with probe := .awaiting 7 [1] 800 } }
    (HeardAt ⟨h, .note [0x41]⟩ 0 900 (hearing op) (heardBy ⟨h, .note [0x41]⟩ op)
        ∧ (heardBy ⟨h, .note [0x41]⟩ op).host.reports.length < 24)
      ∧ (HeardAt ⟨h, .probe [1]⟩ 0 900 (hearing op) (heardBy ⟨h, .probe [1]⟩ op)
          ∧ (heardBy ⟨h, .probe [1]⟩ op).chan.queue.length < 12)
      ∧ (HeardAt ⟨h, .echo 7 .full [1]⟩ 0 900 (hearing asking) (heardBy ⟨h, .echo 7 .full [1]⟩ asking)
          ∧ (heardBy ⟨h, .echo 7 .full [1]⟩ asking).peers.probe = .awaiting 7 [1] 800)
      ∧ (HeardAt ⟨h, .echo 7 .full [1]⟩ 0 900 (hearing op) (heardBy ⟨h, .echo 7 .full [1]⟩ op)
          ∧ (heardBy ⟨h, .echo 7 .full [1]⟩ op).peers.probe = .none)
      ∧ HeardAt ⟨crewHeader 7 .assist, .present⟩ 0 900 (hearing op) (heardBy ⟨crewHeader 7 .assist, .present⟩ op)
      ∧ HeardAt ⟨crewHeader 7 .assist, .dormant⟩ 0 900 (hearing op) (heardBy ⟨crewHeader 7 .assist, .dormant⟩ op) := by
  exact ⟨⟨heardAt_of_comes (by decide +kernel), by decide +kernel⟩, ⟨heardAt_of_comes (by decide +kernel), by decide +kernel⟩,
    ⟨heardAt_of_comes (by decide +kernel), by decide +kernel⟩, ⟨heardAt_of_comes (by decide +kernel), by decide +kernel⟩,
    heardAt_of_comes (by decide +kernel), heardAt_of_comes (by decide +kernel)⟩

/-! ## The station's own events -/

/-- An outstanding request in a phase, after some resends. -/
def asked (b : ReqBody) (resends : Nat) (phase : ReqPhase) : Request := { body := b, seq := 4, resends := resends, phase := phase }

theorem test_RequestWaitsResendOrEnd :
    ∀ q ∈ [asked .bindAsk 1 (.awaiting 1000), asked .bindAsk 2 (.awaiting 1000), asked (.move safeRecord) 1 (.awaiting 1001),
        asked .resume 2 (.awaiting 1000), asked .resume 2 (.retry 1000), asked (.take false 600) 1 (.retry 1000)],
      let s := onBond .asking (some q)
      s.opEntry 0 = some (opBond .asking (some q)) ∧ s.chan.queue.length < 12 ∧ (∀ x ∈ s.chan.queue, x.tag ≠ .check 0)
        ∧ s.now = 1000 := by
  decide +kernel

theorem test_RequestIsDroppedOrTheQueueRefusesIt :
    (∀ q ∈ [asked .bindAsk 1 .queued, asked (.release true) 2 .queued, asked (.handover 1) 0 .queued, asked .resume 2 (.retry 1000)],
        (onBond .controlling (some q)).opEntry 0 = some (opBond .controlling (some q)))
      ∧ (let q := asked .bindAsk 0 .queued
         let again := putEntry 0 (some (.op (opBond .asking (some { q with resends := 1 })))) (onBond .asking (some q))
         (offer (again.requestFrame 0x58C4E0 4 .bindAsk) none (.request 0 .bindAsk 4) again).isSome = true
           ∧ offer (again.requestFrame 0x58C4E0 4 .bindAsk) none (.request 0 .bindAsk 4)
               (queued (List.replicate 12 (waiting .c1 .status)) again) = none)
      ∧ (let s := queued (List.replicate 12 (waiting .c1 .status)) (onBond .asking (some (asked .bindAsk 0 (.awaiting 1000))))
         ¬ s.chan.queue.length < 12 ∧ kindClass (reqKind ReqBody.bindAsk) = .c2) := by
  decide +kernel

theorem test_SupervisionClosesPeriodsAndAbandons :
    (let e : OpEntry := { opBond .controlling none with sup := some { history := List.replicate 6 .heard ++ [.missed, .missed],
                                                                       heard := false, due := 1000 } }
     let s := bonded (.op e) op
     s.opEntry 0 = some e ∧ 1000 ≤ s.now ∧ s.chan.queue = []
       ∧ ((List.replicate 6 Mark.heard ++ [Mark.missed, Mark.missed]).drop 1 ++ [Mark.missed]).drop 5
           = [Mark.missed, Mark.missed, Mark.missed])
      ∧ (onBond .silent none).opEntry 0 = some (opBond .silent none)
      ∧ (let e : TrEntry := { trBond .controlling with sup := some { period := 600, heard := false, closeAt := 1000,
                                                                     history := Mark.heard :: List.replicate 4 .missed ++ List.replicate 3 .heard } }
         (bound e).trEntry 0 = some e
           ∧ 5 ≤ ((Mark.heard :: List.replicate 4 Mark.missed ++ List.replicate 3 Mark.heard).drop 1 ++ [Mark.missed]).count Mark.missed)
      ∧ (bound (trBond .lost)).trEntry 0 = some (trBond .lost)
      ∧ (let e : TrEntry := { trBond .lost with lostSince := some 0 }
         let s : State := { bound e with now := 60000 }
         s.trEntry 0 = some e ∧ 0 + 60000 ≤ s.now ∧ e.transfer = none)
      ∧ (let s : State := { bound (trBond .standby) with now := 600900 }
         s.trEntry 0 = some (trBond .standby) ∧ s.peer 0x3A07C2 = some (peerOf 0x3A07C2 .operator)
           ∧ heardBase (peerOf 0x3A07C2 .operator) + 600000 ≤ s.now ∧ s.pendingTransfer = none) := by
  decide +kernel

theorem test_CheckTakesThePlaceOfThePreviousOne :
    let check (n : Byte) : QEntry := { waiting .c1 (.check 0) with frame := ⟨fromOp 0, .check n 6⟩ }
    (∃ x ∈ [check 2, check 3], (x.tag == .check 0 && !x.onAir
        && (match x.frame.body with | .check n _ => n == 3 | _ => false)) = true)
      ∧ (∀ x ∈ [check 2, { check 3 with onAir := true }], (x.tag == .check 0 && !x.onAir
        && (match x.frame.body with | .check n _ => n == 3 | _ => false)) = false)
      ∧ (opBond .controlling none).link.map OpLink.check = some 3 := by
  decide +kernel

theorem test_LeavingBondsTakeOrLeaveTheirTransfer :
    (let e : TrEntry := { trBond .lost with lostSince := some 0, transfer := some (transferTo 61000 none) }
     let s : State := { bound e with now := 60000 }
     s.trEntry 0 = some e ∧ 0 + 60000 ≤ s.now)
      ∧ (let toIt : Transfer := { transferTo 616000 none with target := 0x3A07C2, handing := 0x3A07C3 }
         let s : State := { detached toIt (bound (trBond .standby)) with now := 600900 }
         (agePeers (putEntry 0 none s)).pendingTransfer = some toIt ∧ s.peer 0x3A07C2 = some (peerOf 0x3A07C2 .operator)
           ∧ s.chan.queue.length < 12) := by
  decide +kernel

theorem test_TransfersAndOffersRunOut :
    (let with_ (x : Transfer) : State := { tr with bond := { tr.bond with detached := some x } }
     ((with_ (transferTo 3000 (some 1000))).attached = none ∧ (with_ (transferTo 3000 (some 1000))).now + 2000 ≤ 3000)
       ∧ (with_ (transferTo 2999 (some 1000))).now + 2000 > 2999
       ∧ ((with_ (transferTo 1000 none)).findTr 0x3A07C3 = none ∧ (with_ (transferTo 1000 none)).chan.queue = []))
      ∧ (let e : TrEntry := { trBond .standby with operator := 0x3A07C3, offered := true }
         let s : State := { tr with bond := { slots := ⟨some (.tr e), none, none, none⟩, detached := some (transferTo 1000 none) } }
         s.attached = none ∧ s.findTr 0x3A07C3 = some (0, e))
      ∧ (bonded (.op (offered true)) op).opEntry 0 = some (offered true) ∧ (offered true).st = .offered
      ∧ (bonded (.op (offered false)) op).opEntry 0 = some (offered false) := by
  decide +kernel

theorem test_AttachedTransferRunsOut :
    let holding (x : Transfer) := { trBond .controlling with transfer := some x }
    let bound_ : TrEntry := { trBond .standby with operator := 0x3A07C3 }
    ((bound (holding (transferTo 3000 (some 1000)))).pendingTransfer = some (transferTo 3000 (some 1000)))
      ∧ (∀ made ∈ [true, false], let s := twoBonds (holding (transferTo 1000 none)) { bound_ with offered := made }
         s.pendingTransfer = some (transferTo 1000 none) ∧ s.findTr 0x3A07C3 = some (1, { bound_ with offered := made })
           ∧ 1000 ≤ s.now ∧ s.chan.queue.length < 12) := by
  decide +kernel

theorem test_StationTimesRunOut :
    (let s : State := { tr with
                                now := 30000, port := { tr.port with disagree := true },
                                fault := { tr.fault with timer := some 0 } }
     s.port.disagree = true ∧ s.isLive .disagree = false ∧ s.fault.timer = some 0 ∧ 0 + 30000 ≤ s.now)
      ∧ (let s : State := { knowing [peerOf 7 .assist] op with now := 300900 }
         peerOf 7 .assist ∈ s.peers.entries ∧ s.pinned 7 = false ∧ heardBase (peerOf 7 .assist) + 300000 ≤ s.now
           ∧ ∀ q ∈ s.peers.entries, q.id = 7 → q = peerOf 7 .assist)
      ∧ (let s : State := { op with now := 2800, peers := { op.peers with probe := .awaiting 7 [1] 800 } }
         s.peers.probe = .awaiting 7 [1] 800 ∧ 800 + 2000 ≤ s.now)
      ∧ (let s : State := { tr with now := 5900, halt := { tr.halt with memory := [pair 7 900 true] } }
         s.haltEntry 0x3A07C2 7 = some (pair 7 900 true) ∧ 900 + 5000 ≤ s.now)
      ∧ (let s : State := { flooring (.held (heldBy 7)) op with now := 2000 }
         s.floor.st = .held (heldBy 7) ∧ 500 + 1500 ≤ s.now ∧ op.now < 500 + 1500) := by
  decide +kernel

theorem test_AudioBoundariesAssembleAndPlay :
    let at_ (f : Floor) : State := { op with now := 1020, floor := { f with boundary := some 1020 } }
    let b := List.replicate 10 (1 : CodecFrame)
    (let s := at_ op.floor
     s.floor.boundary = some 1020 ∧ 1020 ≤ s.now ∧ s.floor.st = .free ∧ s.floor.playout = [] ∧ s.floor.playPos < 10)
      ∧ (at_ { op.floor with playout := [b], playPos := 9 }).floor.playPos < 10
      ∧ 10 ≤ (at_ { op.floor with playout := [b, b], playPos := 10 }).floor.playPos
      ∧ (at_ { op.floor with playout := [b], playPos := 10 }).floor.playout = [b]
      ∧ (at_ { op.floor with st := .own { spurt with assembly := List.replicate 9 0 } }).floor.outlet.length < 2
      ∧ 2 ≤ (at_ { op.floor with st := .own { spurt with assembly := List.replicate 9 0 }, outlet := [block, block] }).floor.outlet.length
      ∧ (List.replicate 9 (0 : CodecFrame)).length = 9 ∧ spurt.started = true ∧ spurt.assembly.length < 9
      ∧ ({ spurt with started := false }).started = false := by
  decide +kernel

theorem test_DormancyNoticeAndSniffWindows :
    (let s : State := { bonded (.op (opBond .standby none)) op with now := 31000 }
     s.life.config = some (cfgOf .operator) ∧ s.life.activity = some 1000 ∧ 1000 + (cfgOf .operator).dormancy ≤ s.now
       ∧ s.life.notice = .idle ∧ s.entry 0 = some (.op (opBond .standby none)) ∧ s.entry 1 = none ∧ s.entry 2 = none
       ∧ s.entry 3 = none ∧ s.chan.queue = [] ∧ s.floor.st = .free ∧ s.peers.probe = .none ∧ s.halt.own = .idle
       ∧ s.test.running = none)
      ∧ (let s : State := { op with life := { op.life with st := .dormant, sniff := some 1000 } }
         s.life.st = .dormant ∧ s.life.sniff = some 1000 ∧ 1000 ≤ s.now)
      ∧ op.now < 1001
      ∧ (let s : State := { receiving (.locking .full 3) op with life := { op.life with st := .dormant, window := some 1000 } }
         s.life.window = some 1000 ∧ 1000 ≤ s.now ∧ s.modem = .locking .full 3) := by
  decide +kernel

theorem test_SelfTestsStepAndEnd :
    let running (r : RunningTest) : State := { stopped 1 tr with test := { tr.test with running := some r } }
    ((running (.loop 600 tr.loopFrame)).test.running = some (.loop 600 tr.loopFrame) ∧ 600 + 400 ≤ tr.now)
      ∧ (∀ pos ∈ [0, 1, 2, 3, 4, 5, 6, 7], ∃ moment ∈ [0, 8, 10, 23, 25, 33, 35, 48],
          ([0, 8, 10, 23, 25, 33, 35, 48] : List Nat)[pos]? = some moment
            ∧ (running (.stopline 950 pos none)).test.running = some (.stopline 950 pos none) ∧ 950 + moment ≤ tr.now)
      ∧ ((running (.stopline 950 8 (some 3))).test.running = some (.stopline 950 8 (some 3)) ∧ 950 + 50 ≤ tr.now)
      ∧ ((running (.timer 0 0)).test.running = some (.timer 0 0) ∧ 0 + 1000 ≤ tr.now) := by
  decide +kernel

/-- What the looped hunter measures and samples of a test frame that comes through whole: bits of one length, and the bits
that follow the first eight of the preamble. -/
def whole (us : Nat) (r : Rate) (s : State) : LoopReading :=
  { bitTimes := List.replicate 8 us, samples := (frameBits s.loopFrame r false).drop 8 }

theorem test_LoopReadsWholeFramesAndNoOthers :
    intact .full tr.loopFrame (whole 208 .full tr) = true ∧ intact .half tr.loopFrame (whole 417 .half tr) = true
      ∧ intact .quarter tr.loopFrame (whole 833 .quarter tr) = true
      ∧ intact .full tr.loopFrame (whole 417 .full tr) = false
      ∧ intact .full tr.loopFrame { whole 208 .full tr with samples := ((whole 208 .full tr).samples.dropLast) } = false := by
  decide +kernel

/-- A station in SETUP that starts LOOP and is then configured anew has still its first frame to come back. -/
theorem test_LoopKeepsTheFrameItSends :
    let s := (startLoop (living .setup tr)).setLife { (living .setup tr).life with config := some (cfgOf .operator) }
    s.test.running = some (.loop 1000 tr.loopFrame) ∧ s.loopFrame ≠ tr.loopFrame := by
  decide +kernel

theorem test_PortEventsMoveThePresentation :
    let at_ (st : PortState) (tack : Bool) : State :=
      { tr with port := { tr.port with st := st }, pins := { tr.pins with tack := tack } }
    ((at_ (.setup 1000) false).port.st = .setup 1000 ∧ 1000 ≤ tr.now)
      ∧ ((at_ (.strobe 1000 1390 false false) false).pins.tack = false ∧ (at_ (.strobe 1000 1390 true false) true).pins.tack = true)
      ∧ ((at_ (.waitAck 1000) false).port.st = .waitAck 1000 ∧ (at_ (.waitAck 1000) false).pins.tack = false)
      ∧ ((at_ (.waitRelease 1000) true).port.st = .waitRelease 1000 ∧ (at_ (.waitRelease 1000) true).pins.tack = true)
      ∧ (let s := at_ .failed true
         s.port.st = .failed ∧ s.stop.causes &&& causePortFault = 0
           ∧ ({ s with port := { s.port with slot := some safeRecord } }).port.slot = some safeRecord
           ∧ (stopped 0x20 s).stop.causes &&& causePortFault ≠ 0)
      ∧ 20 ≤ tr.now := by
  decide +kernel

end Sys2Proof.Tests
end

section
/-! SUPPORT. R170 as an invariant: the part of the fault monitor that ALARM is judged by, and the shared operations that leave
the whole fault monitor as it was. -/

namespace Sys2Proof.Machine

/-! ## What ALARM is judged by (R170) -/

/-- What R170 speaks of: the held flags, the alarm selects and the ALARM line. The live flags and the disagreement timer
are left out, so a condition that ends changes nothing here. -/
def FaultUnit.alarmPart (f : FaultUnit) : BitVec 7 × BitVec 7 × Bool := (f.held, f.selects, f.alarm)

/-- ALARM goes on following where held flags, selects and the line stand as they were. -/
theorem AlarmFollows.of_alarmPart {s t : State} (hs : AlarmFollows s) (h : t.fault.alarmPart = s.fault.alarmPart) :
    AlarmFollows t := by
  obtain ⟨hheld, hselects, halarm⟩ : t.fault.held = s.fault.held ∧ t.fault.selects = s.fault.selects
      ∧ t.fault.alarm = s.fault.alarm := by simpa [FaultUnit.alarmPart] using h
  unfold AlarmFollows alarmWanted at *
  rw [halarm, hheld, hselects, hs]

/-- Judging ALARM makes it follow (R170). -/
theorem alarmFollows_judgeAlarm (s : State) : AlarmFollows (judgeAlarm s) := rfl

/-- A rise judges ALARM (R169). -/
theorem alarmFollows_faultLive {s : State} (c : Condition) (subject : Identity) (hs : AlarmFollows s) :
    AlarmFollows (faultLive c subject s) := by
  unfold faultLive
  split
  · exact hs
  · exact (alarmFollows_judgeAlarm _).of_alarmPart (congrArg _ (raise_fault _ _ _ _ _))

/-- A fall leaves the held flag, so ALARM stays as it was (R169, R170). -/
@[simp] theorem faultEnd_alarmPart (c : Condition) (subject : Identity) (s : State) :
    (faultEnd c subject s).fault.alarmPart = s.fault.alarmPart := by
  unfold faultEnd
  split
  · simp [FaultUnit.alarmPart]
  · rfl

/-! ## Operations that act under a condition -/

@[simp] theorem fault_ite (p : Prop) [Decidable p] (s t : State) :
    (if p then s else t).fault = if p then s.fault else t.fault := apply_ite State.fault p s t

@[simp] theorem alarmPart_ite (p : Prop) [Decidable p] (f g : FaultUnit) :
    (if p then f else g).alarmPart = if p then f.alarmPart else g.alarmPart := apply_ite FaultUnit.alarmPart p f g

/-! ## Operations that leave the fault monitor as it was -/

@[simp] theorem judgeSrq_fault (s : State) : (judgeSrq s).fault = s.fault := rfl

@[simp] theorem postReport_fault (r : Report) (s : State) : (postReport r s).fault = s.fault := by rw [postReport_frame]

@[simp] theorem countDraw_fault (s : State) : (countDraw s).fault = s.fault := rfl

@[simp] theorem beginPresentation_fault (s : State) : (beginPresentation s).fault = s.fault := by
  rw [beginPresentation_frame]

@[simp] theorem completePresentation_fault (s : State) : (completePresentation s).fault = s.fault := by
  simp [completePresentation]

@[simp] theorem addPeer_fault (p : PeerEntry) (s : State) : (addPeer p s).fault = s.fault := by rw [addPeer_frame]

@[simp] theorem refreshWake_fault (s : State) : (refreshWake s).fault = s.fault := rfl

@[simp] theorem withdrawChecks_fault (i : Fin 4) (s : State) : (withdrawChecks i s).fault = s.fault := rfl

@[simp] theorem withdrawSlot_fault (i : Fin 4) (s : State) : (withdrawSlot i s).fault = s.fault := rfl

@[simp] theorem releaseKey_fault (s : State) : (releaseKey s).fault = s.fault := by rw [releaseKey_frame]

@[simp] theorem cutBurst_fault (s : State) : (cutBurst s).1.fault = s.fault := by simp [cutBurst]

@[simp] theorem keyCandidate_fault (c : Candidate) (s : State) : (keyCandidate c s).fault = s.fault := by
  cases c <;> simp [keyCandidate, assertKey]

@[simp] theorem arrive_fault (f : Frame) (notBefore : Option Nat) (tag : OwnerTag) (s : State) :
    (arrive f notBefore tag s).fault = s.fault := by simp [arrive]

/-- Making a place in the queue changes the queue alone (R34). -/
theorem makeRoom_fault {c : AccessClass} {s : State} {r : State × Option OwnerTag} (h : makeRoom c s = some r) :
    r.1.fault = s.fault := by
  unfold makeRoom at h
  split at h
  · obtain rfl := Option.some.inj h; rfl
  · obtain ⟨_, _, rfl⟩ := Option.map_eq_some_iff.mp h; simp

/-- Replacing a waiting frame changes the queue alone (R33). -/
theorem replaceWhere_fault {p : QEntry → Bool} {f : Frame} {s t : State} (h : replaceWhere p f s = some t) :
    t.fault = s.fault := by
  unfold replaceWhere at h
  split at h
  · obtain rfl := Option.some.inj h; simp
  · cases h

@[simp] theorem modReq_fault (i : Fin 4) (f : Request → Request) (s : State) : (modReq i f s).fault = s.fault := by
  simp [modReq]

@[simp] theorem requestSent_fault (i : Fin 4) (k : Kind) (n : BitVec 4) (s : State) :
    (requestSent i k n s).fault = s.fault := by unfold requestSent; split <;> simp

@[simp] theorem raiseOutcome_fault (p : Identity) (c : Byte) (n : BitVec 4) (r q : Byte) (s : State) :
    (raiseOutcome p c n r q s).fault = s.fault := by simp [raiseOutcome]

@[simp] theorem raiseFloor_fault (r : FloorResult) (sc : Scope) (i : Identity) (s : State) :
    (raiseFloor r sc i s).fault = s.fault := by simp [raiseFloor]

@[simp] theorem raiseSpurtEnd_fault (c : SpurtEnd) (sp : Spurt) (n : Nat) (i : Identity) (s : State) :
    (raiseSpurtEnd c sp n i s).fault = s.fault := by simp [raiseSpurtEnd]

@[simp] theorem claimDropped_fault (s : State) : (claimDropped s).fault = s.fault := by
  unfold claimDropped; split <;> simp

@[simp] theorem clearGone_fault (s : State) : (clearGone s).fault = s.fault := by
  unfold clearGone; split
  · split <;> simp
  · rfl

@[simp] theorem holdFloor_fault (i : Identity) (n : Option Byte) (s : State) : (holdFloor i n s).fault = s.fault := rfl

@[simp] theorem playSpeech_fault (h : Header) (v : Speech) (s : State) : (playSpeech h v s).fault = s.fault := by
  unfold playSpeech enterPlayout
  split
  · split
    · split <;> simp
    · rfl
  · rfl

/-- A CLAIM or a VOICE heard acts on the floor, the queue and the reports (R144 to R148, R155). -/
@[simp] theorem hearSpeech_fault (h : Header) (v : Speech) (s : State) : (hearSpeech h v s).fault = s.fault := by
  unfold hearSpeech
  cases s.floor.st with
  | free => simp
  | held r => dsimp only; split <;> [skip; split] <;> simp
  | claiming scope fate => simp
  | own sp =>
    dsimp only
    cases sp.phase with
    | talking => dsimp only; split <;> simp
    | clearing cause offered left => dsimp only; split <;> simp

@[simp] theorem hearClear_fault (i : Identity) (s : State) : (hearClear i s).fault = s.fault := by
  unfold hearClear
  split <;> simp

@[simp] theorem forgetPair_fault (e : HaltEntry) (s : State) : (forgetPair e s).fault = s.fault := by
  unfold forgetPair; dsimp only; split <;> simp

@[simp] theorem enterPair_fault (o : Identity) (n : Byte) (s : State) : (enterPair o n s).fault = s.fault := by
  have room : (roomForPair s).fault = s.fault := by
    unfold roomForPair
    split
    · rfl
    · split <;> simp
  unfold enterPair
  split
  · rfl
  · simpa using room

@[simp] theorem setRelay_fault (o : Identity) (n : Byte) (q : Bool) (s : State) : (setRelay o n q s).fault = s.fault := rfl

@[simp] theorem suppressRelay_fault (o : Identity) (n : Byte) (s : State) : (suppressRelay o n s).fault = s.fault := by
  unfold suppressRelay; split <;> simp

@[simp] theorem raiseDormancy_fault (e : DormancyEvent) (w : Byte) (i : Identity) (s : State) :
    (raiseDormancy e w i s).fault = s.fault := by simp [raiseDormancy]

@[simp] theorem enterDormant_fault (s : State) : (enterDormant s).fault = s.fault := by simp [enterDormant]

@[simp] theorem noticeDropped_fault (s : State) : (noticeDropped s).fault = s.fault := rfl

@[simp] theorem modTransfer_fault (f : Transfer → Transfer) (s : State) : (modTransfer f s).fault = s.fault := by
  unfold modTransfer; split <;> simp

@[simp] theorem clearTransfer_fault (s : State) : (clearTransfer s).fault = s.fault := by
  unfold clearTransfer; rw [withdraw_fault]; split <;> simp

@[simp] theorem offerGone_fault (s : State) : (offerGone s).fault = s.fault := by simp [offerGone]

@[simp] theorem removeOffered_fault (i : Identity) (c : BondCause) (s : State) :
    (removeOffered i c s).fault = s.fault := by
  unfold removeOffered
  split <;> simp

@[simp] theorem endProbe_fault (r : EchoResult) (i : Identity) (s : State) : (endProbe r i s).fault = s.fault := by
  simp [endProbe]

@[simp] theorem probeDropped_fault (s : State) : (probeDropped s).fault = s.fault := by
  unfold probeDropped; split <;> simp

@[simp] theorem probeSent_fault (s : State) : (probeSent s).fault = s.fault := by
  unfold probeSent; split <;> simp

@[simp] theorem modSup_fault (i : Fin 4) (f : TrSup → TrSup) (s : State) : (modSup i f s).fault = s.fault := by
  simp [modSup]

@[simp] theorem takePeriod_fault (i : Fin 4) (n : Byte) (s : State) : (takePeriod i n s).fault = s.fault := by
  simp [takePeriod]

@[simp] theorem recordRequest_fault (i : Option (Fin 4)) (k : Kind) (n : BitVec 4) (v : Verdict) (r : Option Reason)
    (s : State) : (recordRequest i k n v r s).fault = s.fault := by
  unfold recordRequest
  split
  · rfl
  · split <;> simp

@[simp] theorem giveControl_fault (i : Fin 4) (p : Nat) (s : State) : (giveControl i p s).fault = s.fault := by
  simp [giveControl]

@[simp] theorem toStandby_fault (i : Fin 4) (s : State) : (toStandby i s).fault = s.fault := by simp [toStandby]

@[simp] theorem detachTransfer_fault (i : Fin 4) (s : State) : (detachTransfer i s).fault = s.fault := by
  unfold detachTransfer
  split
  · split <;> simp
  · rfl

@[simp] theorem clearIfTarget_fault (i : Identity) (s : State) : (clearIfTarget i s).1.fault = s.fault := by
  unfold clearIfTarget
  split
  · split <;> simp
  · rfl

end Sys2Proof.Machine
end

section
/-! SUPPORT. The operations that can end a condition, or offer a frame whose owners can: they leave held flags, selects and
ALARM as they were. -/

namespace Sys2Proof.Machine

/-! ## The stop unit and the traction port -/

/-- The port that recovers ends PORT, and no held flag changes (R136). -/
@[simp] theorem recoverPort_alarmPart (s : State) : (recoverPort s).fault.alarmPart = s.fault.alarmPart := by
  unfold recoverPort; split <;> simp

/-- The disagreement input sets the timer, or clears it and ends DISAGREE (R173). -/
@[simp] theorem judgeDisagree_alarmPart (s : State) : (judgeDisagree s).fault.alarmPart = s.fault.alarmPart := by
  unfold judgeDisagree
  dsimp only
  split
  · rfl
  · split
    · rfl
    · exact faultEnd_alarmPart _ _ _

/-- A change of the stop cause set raises no condition (R113, R114, R136, R138, R177). -/
@[simp] theorem changeCauses_alarmPart (add remove : CauseSet) (i : Identity) (s : State) :
    (changeCauses add remove i s).fault.alarmPart = s.fault.alarmPart := by
  unfold changeCauses
  dsimp only
  split
  · rfl
  · have written (u : State) (p : Prop) [Decidable p] : (if p then writeSafeRecord u else u).fault = u.fault := by
      split <;> simp
    split <;> split <;> simp [written]

@[simp] theorem addCause_alarmPart (c : CauseSet) (i : Identity) (s : State) :
    (addCause c i s).fault.alarmPart = s.fault.alarmPart := changeCauses_alarmPart _ _ _ _

@[simp] theorem removeCause_alarmPart (c : CauseSet) (i : Identity) (s : State) :
    (removeCause c i s).fault.alarmPart = s.fault.alarmPart := changeCauses_alarmPart _ _ _ _

@[simp] theorem jamEnded_alarmPart (s : State) : (jamEnded s).fault.alarmPart = s.fault.alarmPart := by
  unfold jamEnded; dsimp only; split <;> simp

@[simp] theorem addHaltCause_alarmPart (sc : Scope) (i : Identity) (s : State) :
    (addHaltCause sc i s).fault.alarmPart = s.fault.alarmPart := by
  unfold addHaltCause; split <;> simp

@[simp] theorem addUnattended_alarmPart (i : Identity) (s : State) :
    (addUnattended i s).fault.alarmPart = s.fault.alarmPart := by
  unfold addUnattended; split <;> simp

@[simp] theorem judgeResume_alarmPart (i : Identity) (s : State) :
    (judgeResume i s).1.fault.alarmPart = s.fault.alarmPart := by
  unfold judgeResume
  split
  · rfl
  · split
    · rfl
    · split <;> simp

/-! ## LINK at the end of a bond in SILENT or LOST (R90, R92, R96) -/

@[simp] theorem endLinkIfSilent_alarmPart (i : Fin 4) (e : OpEntry) (s : State) :
    (endLinkIfSilent i e s).fault.alarmPart = s.fault.alarmPart := by
  unfold endLinkIfSilent; split <;> simp

@[simp] theorem endLinkIfLost_alarmPart (i : Fin 4) (e : TrEntry) (s : State) :
    (endLinkIfLost i e s).fault.alarmPart = s.fault.alarmPart := by
  unfold endLinkIfLost; split <;> simp

@[simp] theorem leaveControl_alarmPart (i : Fin 4) (c : Option BondCause) (s : State) :
    (leaveControl i c s).fault.alarmPart = s.fault.alarmPart := by
  unfold leaveControl
  split
  · split
    · cases c <;> simp
    · rfl
  · rfl

@[simp] theorem removeOp_alarmPart (i : Fin 4) (c : Option BondCause) (s : State) :
    (removeOp i c s).fault.alarmPart = s.fault.alarmPart := by
  unfold removeOp
  split
  · cases c <;> simp
  · rfl

@[simp] theorem contact_alarmPart (i : Identity) (s : State) : (contact i s).fault.alarmPart = s.fault.alarmPart := by
  unfold contact
  split
  · split
    · dsimp only
      split <;> simp
    · rfl
  · rfl

@[simp] theorem handOver_alarmPart (i : Fin 4) (s : State) : (handOver i s).fault.alarmPart = s.fault.alarmPart := by
  unfold handOver
  split
  · split <;> simp
  · rfl

@[simp] theorem completeTransfer_alarmPart (i : Fin 4) (target : Identity) (p : Nat) (c : BondCause) (s : State) :
    (completeTransfer i target p c s).fault.alarmPart = s.fault.alarmPart := by
  unfold completeTransfer; dsimp only; split <;> simp

/-! ## Operations that offer a frame -/

/-- A way to offer that leaves what ALARM is judged by as it was, in every state it leaves. -/
def OffersKeepAlarm (off : Offering) : Prop :=
  ∀ {f : Frame} {notBefore : Option Nat} {tag : OwnerTag} {s t : State},
    off f notBefore tag s = some t → t.fault.alarmPart = s.fault.alarmPart

section
variable {off : Offering}

@[simp] theorem offerOr_alarmPart (h : OffersKeepAlarm off) (f : Frame) (tag : OwnerTag) (s : State) :
    (offerOr off f tag s).fault.alarmPart = s.fault.alarmPart := by
  unfold offerOr
  cases ht : off f none tag s with
  | none => rfl
  | some t => exact h ht

@[simp] theorem makeCheck_alarmPart (h : OffersKeepAlarm off) (i : Fin 4) (s : State) :
    (makeCheck off i s).fault.alarmPart = s.fault.alarmPart := by
  unfold makeCheck
  split
  · split
    · dsimp only
      split
      · next ht => simp [replaceWhere_fault ht]
      · simp [h]
    · rfl
  · rfl

@[simp] theorem enterControl_alarmPart (h : OffersKeepAlarm off) (i : Fin 4) (s : State) :
    (enterControl off i s).fault.alarmPart = s.fault.alarmPart := by
  simp [enterControl, h]

/-- Whatever the end of a request does to its entry, it can end LINK and raises no condition (R96). -/
@[simp] theorem afterRequest_alarmPart (h : OffersKeepAlarm off) (i : Fin 4) (b : ReqBody) (r : ReqEnd) (s : State) :
    (afterRequest off i b r s).fault.alarmPart = s.fault.alarmPart := by
  unfold afterRequest; split <;> simp [h]

@[simp] theorem endRequest_alarmPart (h : OffersKeepAlarm off) (i : Fin 4) (r : ReqEnd) (s : State) :
    (endRequest off i r s).fault.alarmPart = s.fault.alarmPart := by
  unfold endRequest
  split
  · split
    · simp [h]
    · rfl
  · rfl

theorem resendOrEnd_alarmPart (h : OffersKeepAlarm off) (n : Nat) (i : Fin 4) (s : State) :
    (resendOrEnd off n i s).fault.alarmPart = s.fault.alarmPart := by
  induction n generalizing s with
  | zero => exact endRequest_alarmPart h i .noAnswer s
  | succ n ih =>
    unfold resendOrEnd
    split
    · split
      · split
        · dsimp only
          split
          · next ht => simp [h ht]
          · simp [ih]
        · exact endRequest_alarmPart h i .noAnswer s
      · rfl
    · rfl

@[simp] theorem noAnswerYet_alarmPart (h : OffersKeepAlarm off) (i : Fin 4) (s : State) :
    (noAnswerYet off i s).fault.alarmPart = s.fault.alarmPart := resendOrEnd_alarmPart h 3 i s

@[simp] theorem requestDropped_alarmPart (h : OffersKeepAlarm off) (i : Fin 4) (k : Kind) (n : BitVec 4) (s : State) :
    (requestDropped off i k n s).fault.alarmPart = s.fault.alarmPart := by
  unfold requestDropped; split <;> simp [h]

@[simp] theorem sendClear_alarmPart (h : OffersKeepAlarm off) (s : State) :
    (sendClear off s).fault.alarmPart = s.fault.alarmPart := by
  unfold sendClear
  split
  · split
    · dsimp only
      split
      · next ht => simp [h ht]
      · simp
    · rfl
  · rfl

@[simp] theorem endSpurt_alarmPart (h : OffersKeepAlarm off) (c : SpurtEnd) (s : State) :
    (endSpurt off c s).fault.alarmPart = s.fault.alarmPart := by
  unfold endSpurt
  split
  · dsimp only
    split <;> simp [h]
  · rfl

@[simp] theorem claimSent_alarmPart (h : OffersKeepAlarm off) (s : State) :
    (claimSent off s).fault.alarmPart = s.fault.alarmPart := by
  unfold claimSent; split <;> simp [h]

@[simp] theorem voiceSent_alarmPart (h : OffersKeepAlarm off) (s : State) :
    (voiceSent off s).fault.alarmPart = s.fault.alarmPart := by
  unfold voiceSent
  split
  · dsimp only
    split
    · split <;> simp [h]
    · simp [h]
  · rfl

@[simp] theorem haltNotice_alarmPart (h : OffersKeepAlarm off) (s : State) :
    (haltNotice off s).fault.alarmPart = s.fault.alarmPart := by
  unfold haltNotice
  split
  · split <;> simp [h]
  · split <;> simp
  · rfl

@[simp] theorem haltCopyGone_alarmPart (h : OffersKeepAlarm off) (n : Nat) (number : Byte) (copy : Nat) (s : State) :
    (haltCopyGone off n number copy s).fault.alarmPart = s.fault.alarmPart := by
  induction n generalizing copy s with
  | zero => rfl
  | succ n ih =>
    unfold haltCopyGone
    split
    · rfl
    · split
      · split
        · dsimp only
          split
          · next ht => simp [h ht]
          · simp [ih]
        · simp
      · rfl

@[simp] theorem relayHalt_alarmPart (h : OffersKeepAlarm off) (o : Identity) (n : Byte) (s : State) :
    (relayHalt off o n s).fault.alarmPart = s.fault.alarmPart := by
  unfold relayHalt
  dsimp only
  split
  · next ht => simp [h ht]
  · simp

@[simp] theorem sendPresent_alarmPart (h : OffersKeepAlarm off) (s : State) :
    (sendPresent off s).fault.alarmPart = s.fault.alarmPart := offerOr_alarmPart h _ _ _

@[simp] theorem noticeSent_alarmPart (h : OffersKeepAlarm off) (s : State) :
    (noticeSent off s).fault.alarmPart = s.fault.alarmPart := by
  unfold noticeSent; split <;> simp [h]

@[simp] theorem wake_alarmPart (h : OffersKeepAlarm off) (c : Byte) (s : State) :
    (wake off c s).fault.alarmPart = s.fault.alarmPart := by
  unfold wake; split <;> simp [h]

@[simp] theorem sendOffer_alarmPart (h : OffersKeepAlarm off) (s : State) :
    (sendOffer off s).fault.alarmPart = s.fault.alarmPart := by
  unfold sendOffer
  split
  · dsimp only
    split
    · next ht => simp [h ht]
    · simp
  · rfl

@[simp] theorem sendSettled_alarmPart (h : OffersKeepAlarm off) (o : SettledOutcome) (i : Identity) (s : State) :
    (sendSettled off o i s).fault.alarmPart = s.fault.alarmPart := offerOr_alarmPart h _ _ _

/-- An owner told of a drop may end a request, and with it LINK; it raises no condition (R34, R35). -/
@[simp] theorem ownerDropped_alarmPart (h : OffersKeepAlarm off) (tag : OwnerTag) (s : State) :
    (ownerDropped off tag s).fault.alarmPart = s.fault.alarmPart := by
  cases tag <;> simp [ownerDropped, h]

@[simp] theorem ownerSent_alarmPart (h : OffersKeepAlarm off) (tag : OwnerTag) (s : State) :
    (ownerSent off tag s).fault.alarmPart = s.fault.alarmPart := by
  cases tag <;> simp [ownerSent, h]

@[simp] theorem tellDropped_alarmPart (h : OffersKeepAlarm off) (tag : Option OwnerTag) (s : State) :
    (tellDropped off tag s).fault.alarmPart = s.fault.alarmPart := by
  cases tag <;> simp [tellDropped, h]

/-- A new request offers its frame and is written into its entry (R66). -/
theorem sendRequest_alarmPart (h : OffersKeepAlarm off) {i : Fin 4} {e : OpEntry} {b : ReqBody} {s t : State}
    (ht : sendRequest off i e b s = some t) : t.fault.alarmPart = s.fault.alarmPart := by
  obtain ⟨u, hu, rfl⟩ := Option.map_eq_some_iff.mp ht
  simp [h hu]

end

theorem offerQuiet_keepsAlarm : OffersKeepAlarm offerQuiet := by
  intro f notBefore tag s t ht
  obtain ⟨r, hr, rfl⟩ := Option.map_eq_some_iff.mp ht
  simp [makeRoom_fault hr]

theorem offerBeside_keepsAlarm : OffersKeepAlarm offerBeside := by
  intro f notBefore tag s t ht
  unfold offerBeside at ht
  split at ht
  · obtain rfl := Option.some.inj ht; simp
  · cases ht

@[simp] theorem classZeroArrival_alarmPart (s : State) : (classZeroArrival s).fault.alarmPart = s.fault.alarmPart := by
  unfold classZeroArrival; split <;> simp [offerQuiet_keepsAlarm]

/-- An offer tells the owner of a displaced entry, takes the frame, and may cut a wake burst; none of these raises a
condition (R21, R31, R34, R35). -/
@[simp] theorem offer_keepsAlarm : OffersKeepAlarm offer := by
  intro f notBefore tag s t ht
  obtain ⟨r, hr, rfl⟩ := Option.map_eq_some_iff.mp ht
  unfold afterArrival
  split <;> simp [offerBeside_keepsAlarm, makeRoom_fault hr]

@[simp] theorem offerAnyway_alarmPart (f : Frame) (tag : OwnerTag) (s : State) :
    (offerAnyway f tag s).fault.alarmPart = s.fault.alarmPart := offerOr_alarmPart offer_keepsAlarm _ _ _

end Sys2Proof.Machine
end

section
/-! SUPPORT. Received frames: what their owners do leaves held flags, selects and ALARM as they were; reading and learning can
raise IDCONFLICT, which judges ALARM. -/

namespace Sys2Proof.Machine

/-! ## Received frames -/

@[simp] theorem sendAnswer_alarmPart (d : Identity) (k : Kind) (n : BitVec 4) (v : Verdict) (r : Option Reason) (s : State) :
    (sendAnswer d k n v r s).fault.alarmPart = s.fault.alarmPart := offerAnyway_alarmPart _ _ _

@[simp] theorem runSequel_alarmPart (q : Sequel) (s : State) : (runSequel q s).fault.alarmPart = s.fault.alarmPart := by
  cases q <;> simp [runSequel]

/-- A judgement of a request that leaves what ALARM is judged by as it was. -/
def JudgesKeepAlarm (judge : State → Judged) : Prop := ∀ s, (judge s).state.fault.alarmPart = s.fault.alarmPart

/-- Contact, the judgement, the ANSWER, its record and its sequel raise no condition (R76). -/
theorem takeRequest_alarmPart {judge : State → Judged} (h : JudgesKeepAlarm judge) (hd : Header) (k : Kind) (c : Bool)
    (s : State) : (takeRequest hd k c judge s).fault.alarmPart = s.fault.alarmPart := by
  unfold takeRequest
  split
  · dsimp only
    split
    · simp
    · simp [answerRequest, h _]
  · simp

/-- A refusal changes nothing. -/
theorem refuse_alarmPart {p : Prop} [Decidable p] {r : Reason} {s : State} {j : Judged}
    (h : j.state.fault.alarmPart = s.fault.alarmPart) :
    (if p then refuse r s else j).state.fault.alarmPart = s.fault.alarmPart := by
  split
  · rfl
  · exact h

theorem judgeMove_keepsAlarm (i : Identity) (r : MoveRecord) : JudgesKeepAlarm (judgeMove i r) := by
  intro s
  refine refuse_alarmPart (refuse_alarmPart ?_)
  unfold offerRecord
  split
  · next ht =>
    split at ht
    · cases ht
    · obtain rfl := Option.some.inj ht; simp [accept]
  · rfl

theorem judgeResumeOf_keepsAlarm (i : Identity) : JudgesKeepAlarm (judgeResumeOf i) := fun s =>
  refuse_alarmPart (judgeResume_alarmPart i s)

theorem takeOverDetached_fault (i : Identity) (s : State) : (takeOverDetached i s).1.fault = s.fault := by
  unfold takeOverDetached
  split
  · split <;> simp
  · rfl

theorem judgeTake_keepsAlarm (i : Identity) (n : Byte) : JudgesKeepAlarm (judgeTake i n) := by
  intro s
  unfold judgeTake
  split
  · rfl
  · refine refuse_alarmPart (refuse_alarmPart ?_)
    split
    · simp [accept]
    · exact refuse_alarmPart (by simp [takeOverDetached_fault])

theorem judgeTransferTake_keepsAlarm (i : Identity) (n : Byte) : JudgesKeepAlarm (judgeTransferTake i n) := by
  intro s
  unfold judgeTransferTake
  split
  · split
    · simp [accept]
    · split
      · exact refuse_alarmPart (refuse_alarmPart (completeTransfer_alarmPart _ _ _ _ _))
      · rfl
  · rfl

theorem judgeRelease_keepsAlarm (i : Identity) (unbind : Bool) : JudgesKeepAlarm (judgeRelease i unbind) := by
  intro s
  unfold judgeRelease
  split
  · rfl
  · split
    · split
      · simp
      · rfl
    · dsimp only
      split <;> simp [accept]

theorem judgeHandover_keepsAlarm (i target : Identity) : JudgesKeepAlarm (judgeHandover i target) := by
  intro s
  unfold judgeHandover
  split
  · rfl
  · refine refuse_alarmPart ?_
    split
    · rfl
    · refine refuse_alarmPart ?_
      split
      · simp [writeTransfer]
      · split
        · rfl
        · simp [writeTransfer]

@[simp] theorem takeCheck_alarmPart (i : Identity) (n u : Byte) (s : State) :
    (takeCheck i n u s).fault.alarmPart = s.fault.alarmPart := by
  unfold takeCheck
  split
  · split
    · split
      · dsimp only
        split <;> simp
      · rfl
    · rfl
  · rfl

@[simp] theorem statusResend_alarmPart (i : Fin 4) (n : Option (BitVec 4)) (s : State) :
    (statusResend i n s).fault.alarmPart = s.fault.alarmPart := by
  unfold statusResend
  split
  · split
    · split
      · split <;> simp
      · rfl
    · rfl
  · rfl

@[simp] theorem statusHeard_fault (i : Fin 4) (e : OpEntry) (n : Byte) (s : State) :
    (statusHeard i e n s).fault = s.fault := by
  unfold statusHeard; split <;> simp

@[simp] theorem regainOp_alarmPart (i : Fin 4) (e : OpEntry) (s : State) :
    (regainOp i e s).fault.alarmPart = s.fault.alarmPart := by
  unfold regainOp; split <;> simp

@[simp] theorem takeStatus_alarmPart (i : Identity) (b : StatusBody) (s : State) :
    (takeStatus i b s).fault.alarmPart = s.fault.alarmPart := by
  unfold takeStatus
  split
  · split
    · split
      · simp
      · split <;> simp
    · rfl
  · rfl

@[simp] theorem answered_alarmPart (i : Fin 4) (q : Request) (v : Verdict) (r : Option Reason) (s : State) :
    (answered i q v r s).fault.alarmPart = s.fault.alarmPart := by
  have busy : (answeredBusy i q s).fault.alarmPart = s.fault.alarmPart := by
    unfold answeredBusy
    split <;> simp
  unfold answered
  split <;> simp [busy]

@[simp] theorem answerToRequest_alarmPart (i : Identity) (k : Kind) (n : BitVec 4) (v : Verdict) (r : Option Reason)
    (s : State) : (answerToRequest i k n v r s).fault.alarmPart = s.fault.alarmPart := by
  unfold answerToRequest
  split
  · split
    · split <;> simp
    · rfl
  · rfl

@[simp] theorem answerToOffer_alarmPart (i : Identity) (k : Kind) (v : Verdict) (s : State) :
    (answerToOffer i k v s).fault.alarmPart = s.fault.alarmPart := by
  unfold answerToOffer
  split <;> simp

theorem judgeBind_fault (i : Identity) (s : State) : (judgeBind i s).1.fault = s.fault := by
  unfold judgeBind
  split
  · rfl
  · split
    · rfl
    · split
      · simp
      · split <;> simp

@[simp] theorem takeBindAsk_alarmPart (i : Identity) (s : State) :
    (takeBindAsk i s).fault.alarmPart = s.fault.alarmPart := by
  unfold takeBindAsk sendBindReply; split <;> simp [judgeBind_fault]

@[simp] theorem takeBindReply_alarmPart (i : Identity) (v : Verdict) (r : Option Reason) (rate : Rate) (a b : Bool)
    (s : State) : (takeBindReply i v r rate a b s).fault.alarmPart = s.fault.alarmPart := by
  unfold takeBindReply
  split
  · split
    · dsimp only
      split <;> simp [raiseBound]
    · rfl
  · rfl

@[simp] theorem raiseOffered_fault (i : Fin 4) (t c : Identity) (n : Byte) (s : State) :
    (raiseOffered i t c n s).fault = s.fault := by simp [raiseOffered, raiseOffer]

@[simp] theorem makeOffered_fault (i : Fin 4) (t c : Identity) (n : Nat) (s : State) :
    (makeOffered i t c n s).fault = s.fault := by simp [makeOffered]

@[simp] theorem renewOffer_fault (i : Fin 4) (e : OpEntry) (c : Identity) (n : Byte) (stamp : Nat) (s : State) :
    (renewOffer i e c n stamp s).fault = s.fault := by
  unfold renewOffer; dsimp only; split <;> simp [raiseOffer]

@[simp] theorem offerToEntry_alarmPart (i : Fin 4) (e : OpEntry) (c : Identity) (n : Byte) (stamp : Nat) (s : State) :
    (offerToEntry i e c n stamp s).fault.alarmPart = s.fault.alarmPart := by
  unfold offerToEntry refuseOffer
  split
  · simp
  · split
    · rfl
    · split <;> simp

@[simp] theorem takeOffer_alarmPart (i c : Identity) (n : Byte) (stamp : Nat) (s : State) :
    (takeOffer i c n stamp s).fault.alarmPart = s.fault.alarmPart := by
  unfold takeOffer refuseOffer
  split
  · simp
  · split
    · simp
    · split
      · simp
      · split
        · simp
        · split <;> simp

@[simp] theorem takeSettled_alarmPart (i : Identity) (o : SettledOutcome) (s : State) :
    (takeSettled i o s).fault.alarmPart = s.fault.alarmPart := by
  unfold takeSettled raiseSettled
  split
  · split
    · dsimp only
      split <;> simp
    · simp
  · rfl

@[simp] theorem newHalt_alarmPart (h : Header) (o : Identity) (n c : Byte) (relay : Bool) (s : State) :
    (newHalt h o n c relay s).fault.alarmPart = s.fault.alarmPart := by
  unfold newHalt
  dsimp only
  split
  · split <;> simp [raiseHaltHeard]
  · simp [raiseAuthority]

@[simp] theorem takeHalt_alarmPart (h : Header) (o : Identity) (n c : Byte) (relay : Bool) (s : State) :
    (takeHalt h o n c relay s).fault.alarmPart = s.fault.alarmPart := by
  have known (e : HaltEntry) : (knownHalt h e relay s).fault.alarmPart = s.fault.alarmPart := by
    unfold knownHalt
    split <;> simp
  unfold takeHalt
  split
  · rfl
  · split <;> simp [known]

@[simp] theorem takeEcho_fault (i : Identity) (q : Byte) (r : Rate) (p : List Byte) (stamp received : Nat) (s : State) :
    (takeEcho i q r p stamp received s).fault = s.fault := by
  unfold takeEcho; split <;> simp

/-- A frame of this identity, or one that differs from what a peer's entry keeps, may make IDCONFLICT live (R10, R47). -/
theorem alarmFollows_showConflict {s : State} (id : Identity) (stamp : Nat) (hs : AlarmFollows s) :
    AlarmFollows (showConflict id stamp s) := by
  unfold showConflict
  split
  · exact hs
  · exact alarmFollows_faultLive _ _ hs

theorem alarmFollows_learn {s : State} (f : Frame) (r : Rate) (stamp q : Nat) (hs : AlarmFollows s) :
    AlarmFollows (learn f r stamp q s) := by
  unfold learn
  split
  · next p _ =>
    dsimp only
    have shown (u : State) (hu : AlarmFollows u) :
        AlarmFollows (if conflicts p f.header then showConflict p.id stamp u else u) := by
      split
      · exact alarmFollows_showConflict _ _ hu
      · exact hu
    split
    · exact shown _ hs
    · exact shown _ hs
  · dsimp only
    split <;> exact hs.of_alarmPart (by simp)

/-- Reading a frame and learning from it make ALARM follow where it did, and its owner keeps it so (R6, R10, R40, R47). -/
theorem alarmFollows_receive {s : State} {owner : Owner}
    (h : ∀ stamp q u, (owner stamp q u).fault.alarmPart = u.fault.alarmPart) (dev : Nat) (f : Frame) (hs : AlarmFollows s) :
    AlarmFollows (receive dev f owner s) := by
  have read : AlarmFollows (endReading s) := hs.of_alarmPart (by simp)
  unfold receive
  split
  · next rate _ stamp _ =>
    have learned := alarmFollows_learn f rate stamp (qualityClass dev) read
    unfold acceptFrame
    split
    · split
      · exact alarmFollows_showConflict _ _ read
      · unfold deliver
        dsimp only
        split
        · exact learned.of_alarmPart (by simp [h])
        · exact learned
    · exact read
  · exact hs

end Sys2Proof.Machine
end

section
/-! SUPPORT. Host commands: the rules of all but CONFIGURE and CLEAR-HELD leave held flags, selects and ALARM as they were, and
these two judge ALARM. -/

namespace Sys2Proof.Machine

/-! ## Host commands -/

/-- A command whose own rule keeps what ALARM is judged by. -/
def CommandKeepsAlarm (c : Command) : Prop := ∀ s, (c s).1.fault.alarmPart = s.fault.alarmPart

/-- A command taken keeps ALARM where its own rule does; activity, the notice and the wake raise no condition (R181). -/
theorem alarmFollows_takeCommand {c : Command} {s : State} (hc : ∀ u, AlarmFollows u → AlarmFollows (c u).1) (b : Bool)
    (hs : AlarmFollows s) : AlarmFollows (takeCommand b c s) := by
  have run (u : State) (hu : u.fault.alarmPart = s.fault.alarmPart) : AlarmFollows (runCommand c u) :=
    (hc u (hs.of_alarmPart hu)).of_alarmPart (by simp [runCommand])
  unfold takeCommand
  split
  · cases s.life.st with
    | init => exact hs.of_alarmPart (by simp)
    | setup =>
      dsimp only
      split
      · exact run _ (by simp)
      · exact hs.of_alarmPart (by simp)
    | active => exact run _ (by simp)
    | dormant => exact run _ (by simp)
  · exact hs

theorem alarmFollows_takeCommand_of_keeps {c : Command} {s : State} (hc : CommandKeepsAlarm c) (b : Bool)
    (hs : AlarmFollows s) : AlarmFollows (takeCommand b c s) :=
  alarmFollows_takeCommand (fun u hu => hu.of_alarmPart (hc u)) b hs

/-- A frame taken or refused: the answer is OK or BUSY, and a refusal changes nothing (R35). -/
theorem okOrBusy_alarmPart {o : Option State} {s u : State} (hu : u.fault.alarmPart = s.fault.alarmPart)
    (h : ∀ t, o = some t → t.fault.alarmPart = s.fault.alarmPart) :
    (okOrBusy o u).1.fault.alarmPart = s.fault.alarmPart := by
  cases o with
  | none => exact hu
  | some t => exact h t rfl

/-- The same for an offer that is followed by an operation on the frame's own block. -/
theorem okOrBusy_map_alarmPart {o : Option State} {g : State → State} {s : State}
    (hg : ∀ u, (g u).fault.alarmPart = u.fault.alarmPart) (h : ∀ t, o = some t → t.fault.alarmPart = s.fault.alarmPart) :
    (okOrBusy (o.map g) s).1.fault.alarmPart = s.fault.alarmPart := by
  refine okOrBusy_alarmPart rfl fun t ht => ?_
  obtain ⟨u, hu, rfl⟩ := Option.map_eq_some_iff.mp ht
  rw [hg, h u hu]

theorem okOrBusy_sendRequest_alarmPart (i : Fin 4) (e : OpEntry) (b : ReqBody) (s : State) :
    (okOrBusy (sendRequest offer i e b s) s).1.fault.alarmPart = s.fault.alarmPart :=
  okOrBusy_alarmPart rfl fun _ => sendRequest_alarmPart offer_keepsAlarm

theorem sendTake_alarmPart {i : Fin 4} {e : OpEntry} {b : Bool} {s t : State} (ht : sendTake i e b s = some t) :
    t.fault.alarmPart = s.fault.alarmPart := by
  obtain ⟨u, hu, rfl⟩ := Option.map_eq_some_iff.mp ht
  simp [sendRequest_alarmPart offer_keepsAlarm hu]

/-- A command turned away changes nothing. -/
theorem turnedAway_alarmPart {p : Prop} [Decidable p] {s : State} {a : Prepared} {r : State × Prepared}
    (h : r.1.fault.alarmPart = s.fault.alarmPart) : (if p then (s, a) else r).1.fault.alarmPart = s.fault.alarmPart := by
  split
  · rfl
  · exact h

/-- A command on a bond keeps ALARM where the entry's own rule does. -/
theorem withBond_keepsAlarm {rule : Fin 4 → OpEntry → Command} (h : ∀ i e, CommandKeepsAlarm (rule i e)) (t : Identity) :
    CommandKeepsAlarm (withBond t rule) := by
  intro s
  refine turnedAway_alarmPart (turnedAway_alarmPart ?_)
  split
  · exact h _ _ s
  · rfl

theorem bindCommand_keepsAlarm (t : Identity) : CommandKeepsAlarm (bindCommand t) := by
  intro s
  refine turnedAway_alarmPart (turnedAway_alarmPart (turnedAway_alarmPart ?_))
  split
  · exact okOrBusy_alarmPart (by simp) fun _ hu => by simp [offer_keepsAlarm hu]
  · rfl

theorem unbindRule_keepsAlarm (i : Fin 4) (e : OpEntry) : CommandKeepsAlarm (unbindRule i e) := fun _ =>
  turnedAway_alarmPart (turnedAway_alarmPart (okOrBusy_sendRequest_alarmPart _ _ _ _))

theorem takeRule_keepsAlarm (i : Fin 4) (e : OpEntry) : CommandKeepsAlarm (takeRule i e) := fun _ =>
  turnedAway_alarmPart (turnedAway_alarmPart (turnedAway_alarmPart
    (okOrBusy_alarmPart rfl fun _ => sendTake_alarmPart)))

theorem releaseRule_keepsAlarm (i : Fin 4) (e : OpEntry) : CommandKeepsAlarm (releaseRule i e) := fun _ =>
  turnedAway_alarmPart (turnedAway_alarmPart (okOrBusy_sendRequest_alarmPart _ _ _ _))

theorem supersede_keepsAlarm (i : Fin 4) (e : OpEntry) (q : Request) (r : MoveRecord) :
    CommandKeepsAlarm (supersede i e q r) := by
  intro s
  unfold supersede raiseSuperseded
  dsimp only
  split
  · next ht =>
    split at ht
    · simp [replaceWhere_fault ht]
    · cases ht
  · split
    · next ht => simp [sendRequest_alarmPart offer_keepsAlarm ht]
    · rfl

theorem moveRule_keepsAlarm (r : MoveRecord) (i : Fin 4) (e : OpEntry) : CommandKeepsAlarm (moveRule r i e) := by
  intro s
  refine turnedAway_alarmPart ?_
  split
  · split
    · exact supersede_keepsAlarm _ _ _ _ s
    · rfl
  · exact okOrBusy_sendRequest_alarmPart _ _ _ _

theorem moveCommand_keepsAlarm (t : Identity) (w : BitVec 16) : CommandKeepsAlarm (moveCommand t w) := by
  intro s
  unfold moveCommand
  split
  · exact withBond_keepsAlarm (moveRule_keepsAlarm _) t s
  · rfl

theorem resumeRule_keepsAlarm (i : Fin 4) (e : OpEntry) : CommandKeepsAlarm (resumeRule i e) := fun _ =>
  turnedAway_alarmPart (turnedAway_alarmPart (okOrBusy_sendRequest_alarmPart _ _ _ _))

theorem handoverRule_keepsAlarm (target : Identity) (i : Fin 4) (e : OpEntry) :
    CommandKeepsAlarm (handoverRule target i e) := fun _ =>
  turnedAway_alarmPart (turnedAway_alarmPart
    (okOrBusy_map_alarmPart (fun _ => by simp) fun _ ht => by simp [sendRequest_alarmPart offer_keepsAlarm ht]))

theorem handoverCommand_keepsAlarm (t target : Identity) : CommandKeepsAlarm (handoverCommand t target) := fun s =>
  turnedAway_alarmPart (withBond_keepsAlarm (handoverRule_keepsAlarm target) t s)

theorem acceptRule_keepsAlarm (i : Fin 4) (e : OpEntry) : CommandKeepsAlarm (acceptRule i e) := fun _ =>
  turnedAway_alarmPart (turnedAway_alarmPart
    (okOrBusy_map_alarmPart (fun _ => by simp) fun _ => sendTake_alarmPart))

@[simp] theorem endOffer_fault (i : Fin 4) (e : OpEntry) (c : BondCause) (s : State) : (endOffer i e c s).fault = s.fault := by
  unfold endOffer; split <;> simp

theorem declineRule_keepsAlarm (i : Fin 4) (e : OpEntry) : CommandKeepsAlarm (declineRule i e) := fun _ =>
  turnedAway_alarmPart (okOrBusy_map_alarmPart (fun _ => by simp) fun _ => offer_keepsAlarm)

theorem haltCommand_keepsAlarm (code : Byte) : CommandKeepsAlarm (haltCommand code) := by
  intro s
  have withdrawn : (withdrawCopy s).fault = s.fault := by unfold withdrawCopy; split <;> simp
  unfold haltCommand
  split
  · exact turnedAway_alarmPart
      (okOrBusy_map_alarmPart (fun _ => by simp [haltTaken]) fun _ ht => by simp [offer_keepsAlarm ht, withdrawn])
  · rfl

theorem localStop_keepsAlarm : CommandKeepsAlarm fun s =>
    if s.isTraction then (addCause causeLocalStop noSubject s, okAnswer) else (s, refusedAnswer .role) := by
  intro s
  dsimp only
  split
  · exact addCause_alarmPart _ _ _
  · rfl

theorem localClear_keepsAlarm : CommandKeepsAlarm fun s =>
    if s.isTraction then (removeCause causeLocalStop noSubject s, okAnswer) else (s, refusedAnswer .role) := by
  intro s
  dsimp only
  split
  · exact removeCause_alarmPart _ _ _
  · rfl

theorem talkCommand_keepsAlarm (code : Byte) : CommandKeepsAlarm (talkCommand code) := by
  intro s
  unfold talkCommand
  split
  · rfl
  · refine turnedAway_alarmPart ?_
    split
    · rfl
    · rfl
    · rfl
    · exact okOrBusy_map_alarmPart (fun _ => by simp) fun _ => offer_keepsAlarm

theorem talkEndCommand_keepsAlarm : CommandKeepsAlarm talkEndCommand := by
  intro s
  unfold talkEndCommand
  split
  · split <;> simp
  · split <;> simp
  all_goals rfl

theorem noteCommand_keepsAlarm (m : Byte) (d : BitVec 24) (text : List Byte) : CommandKeepsAlarm (noteCommand m d text) := by
  intro s
  unfold noteCommand
  split
  · rfl
  · exact turnedAway_alarmPart (okOrBusy_alarmPart rfl fun _ => offer_keepsAlarm)

theorem probeCommand_keepsAlarm (t : Identity) (p : List Byte) : CommandKeepsAlarm (probeCommand t p) := fun _ =>
  turnedAway_alarmPart (turnedAway_alarmPart
    (okOrBusy_map_alarmPart (fun _ => by simp) fun _ => offer_keepsAlarm))

theorem testCommand_keepsAlarm (code : Byte) : CommandKeepsAlarm (testCommand code) := by
  intro s
  refine turnedAway_alarmPart (turnedAway_alarmPart (turnedAway_alarmPart ?_))
  split
  · split <;> simp [startLoop]
  · split
    · refine turnedAway_alarmPart ?_
      split <;> simp
    · simp

theorem clearTestCommand_keepsAlarm : CommandKeepsAlarm clearTestCommand := by
  intro s
  refine turnedAway_alarmPart ?_
  dsimp only
  split <;> split <;> simp

theorem startCommand_keepsAlarm : CommandKeepsAlarm startCommand := by
  intro s
  have change (u : State) : (startChange u).fault.alarmPart = u.fault.alarmPart := by
    unfold startChange; dsimp only; split <;> simp
  unfold startCommand
  split
  · exact turnedAway_alarmPart (by simp [change])
  · rfl

theorem readPeerCommand_keepsAlarm (n : Byte) : CommandKeepsAlarm (readPeerCommand n) := by
  intro s
  refine turnedAway_alarmPart ?_
  split <;> rfl

theorem readBondCommand_keepsAlarm (n : Byte) : CommandKeepsAlarm (readBondCommand n) := by
  intro s
  unfold readBondCommand; split <;> rfl

theorem fetchCommand_keepsAlarm : CommandKeepsAlarm fetchCommand := by
  intro s
  unfold fetchCommand; split <;> rfl

/-- CONFIGURE sets the alarm selects and judges ALARM by them (R168, R170). -/
theorem alarmFollows_configureCommand (p : ConfigParams) {s : State} (hs : AlarmFollows s) :
    AlarmFollows (configureCommand p s).1 := by
  unfold configureCommand
  split
  · split
    · exact alarmFollows_judgeAlarm _
    · exact hs
  · exact hs

/-- CLEAR-HELD clears held flags and judges ALARM by those that stay (R170, R171). -/
theorem alarmFollows_clearHeldFlags (s : State) : AlarmFollows (clearHeldFlags s) := alarmFollows_judgeAlarm _

end Sys2Proof.Machine
end

section
/-! PROOFS. The station's own events, one step, and O9. -/

namespace Sys2Proof.Machine

/-! ## The station's own events -/

/-- A reset puts the fault monitor at its reset values, where nothing is held and ALARM is inactive (R168, R183). -/
theorem alarmFollows_afterReset (s : State) : AlarmFollows (afterReset s) := by
  simp [AlarmFollows, alarmWanted, afterReset, State.reset, FaultUnit.reset]

/-- PORT-FAULT is added, and PORT rises (R135). -/
theorem alarmFollows_failPort {s : State} (hs : AlarmFollows s) : AlarmFollows (failPort s) :=
  alarmFollows_faultLive _ _ (hs.of_alarmPart (by simp))

/-- JAM rises, and JAM-STOP may be added (R172). -/
theorem alarmFollows_jamLive {s : State} (hs : AlarmFollows s) : AlarmFollows (jamLive s) := by
  have risen := alarmFollows_faultLive .jam noSubject hs
  unfold jamLive
  dsimp only
  split
  · exact risen.of_alarmPart (by simp)
  · exact risen

/-- LINK rises with the first entry to become SILENT (R91). -/
theorem alarmFollows_judgeSilence {s : State} (i : Fin 4) (hs : AlarmFollows s) : AlarmFollows (judgeSilence i s) := by
  unfold judgeSilence
  split
  · split
    · dsimp only
      split
      · exact hs.of_alarmPart (by simp)
      · exact alarmFollows_faultLive _ _ (hs.of_alarmPart (by simp))
    · exact hs
  · exact hs

/-- LINK rises with the first entry to become LOST (R94). -/
theorem alarmFollows_judgeLoss {s : State} (i : Fin 4) (hs : AlarmFollows s) : AlarmFollows (judgeLoss i s) := by
  unfold judgeLoss
  split
  · next e _ =>
    split
    · dsimp only
      split
      · exact hs.of_alarmPart (by simp)
      · refine (alarmFollows_faultLive .link e.operator (hs.of_alarmPart ?_)).of_alarmPart
          (congrArg _ (raiseBond_fault _ _ _ _ _))
        simp
    · exact hs
  · exact hs

/-- LOOPFAIL and STOPFAIL follow the results of their tests (R174). -/
theorem alarmFollows_followTest {s : State} (c : Condition) (passed : Bool) (hs : AlarmFollows s) :
    AlarmFollows (followTest c passed s) := by
  unfold followTest
  split
  · exact hs.of_alarmPart (by simp)
  · exact alarmFollows_faultLive _ _ hs

theorem alarmFollows_endLoop {s : State} (a b c : Bool) (hs : AlarmFollows s) : AlarmFollows (endLoop a b c s) :=
  AlarmFollows.of_alarmPart
    (alarmFollows_followTest .loopFail (a && b && c)
      (s := (s.setTest { s.test with running := none, loop := resultOf (a && b && c) }).setModem .hunting) hs)
    (by simp [endLoop, raiseTestDone])

theorem alarmFollows_endStopline {s : State} (failed : Option Nat) (hs : AlarmFollows s) :
    AlarmFollows (endStopline failed s) := by
  refine AlarmFollows.of_alarmPart (alarmFollows_followTest .stopFail failed.isNone
    (s := s.setTest { s.test with running := none, stopline := resultOf failed.isNone,
                                  gate := s.test.gate || failed.isNone }) hs) ?_
  unfold endStopline raiseTestDone
  dsimp only
  split <;> simp

@[simp] theorem ageStandby_alarmPart (i : Fin 4) (e : TrEntry) (s : State) :
    (ageStandby i e s).fault.alarmPart = s.fault.alarmPart := by simp [ageStandby]

@[simp] theorem abandon_alarmPart (i : Fin 4) (e : TrEntry) (s : State) :
    (abandon i e s).fault.alarmPart = s.fault.alarmPart := by simp [abandon]

@[simp] theorem repeatOffer_alarmPart (x : Transfer) (s : State) :
    (repeatOffer x s).fault.alarmPart = s.fault.alarmPart := by unfold repeatOffer; split <;> simp

@[simp] theorem lapseTransfer_alarmPart (x : Transfer) (s : State) :
    (lapseTransfer x s).fault.alarmPart = s.fault.alarmPart := by simp [lapseTransfer]

@[simp] theorem endWait_alarmPart (k : WaitKind) (i : Fin 4) (s : State) :
    (endWait k i s).fault.alarmPart = s.fault.alarmPart := by unfold endWait; split <;> simp

@[simp] theorem becomeEligible_alarmPart (s : State) : (becomeEligible s).fault.alarmPart = s.fault.alarmPart := by
  unfold becomeEligible; dsimp only; split <;> simp

@[simp] theorem tellSent_alarmPart (a : OnAir) (tag : Option OwnerTag) (s : State) :
    (tellSent a tag s).fault.alarmPart = s.fault.alarmPart := by unfold tellSent; split <;> simp

@[simp] theorem carrierDown_alarmPart (s : State) : (carrierDown s).fault.alarmPart = s.fault.alarmPart := by
  unfold carrierDown; dsimp only; split <;> simp

@[simp] theorem released_alarmPart (s : State) : (released s).fault.alarmPart = s.fault.alarmPart := by
  unfold released; split <;> simp

@[simp] theorem takeSample_alarmPart (x : InputSample) (s : State) : (takeSample x s).fault.alarmPart = s.fault.alarmPart := by
  cases x <;> simp [takeSample]

@[simp] theorem setPhase_fault (p : AirPhase) (a : OnAir) (s : State) : (setPhase p a s).fault = s.fault := rfl

@[simp] theorem raiseTestDone_fault (n a b : Byte) (passed : Bool) (s : State) :
    (raiseTestDone n a b passed s).fault = s.fault := by simp [raiseTestDone]

@[simp] theorem endTimer_fault (n : Nat) (s : State) : (endTimer n s).fault = s.fault := by simp [endTimer]

@[simp] theorem endStrobe_fault (n : Nat) (acked fell : Bool) (s : State) :
    (endStrobe n acked fell s).fault = s.fault := by
  unfold endStrobe
  split
  · split <;> simp
  · simp

@[simp] theorem acknowledge_fault (s : State) : (acknowledge s).fault = s.fault := by unfold acknowledge; split <;> simp

@[simp] theorem rejectPacket_fault (s : State) : (rejectPacket s).fault = s.fault := by unfold rejectPacket; split <;> simp

@[simp] theorem carrierUp_fault (s : State) : (carrierUp s).fault = s.fault := by
  unfold carrierUp; dsimp only; split <;> simp

/-! ## One step -/

/-- Where an outcome goes on, ALARM follows in the state it goes on with. -/
def OutcomeFollows (o : Host.Outcome State Fault Refusal) : Prop := ∀ t, o = .next t → AlarmFollows t

theorem OutcomeFollows.next {t : State} (h : AlarmFollows t) : OutcomeFollows (.next t) := by
  rintro _ ⟨⟩
  exact h

/-- An event that acts when it is due, and otherwise changes nothing. -/
theorem OutcomeFollows.due {p : Prop} [Decidable p] {s t : State} (hs : AlarmFollows s) (ht : AlarmFollows t) :
    OutcomeFollows (.next (if p then t else s)) := .next (by split <;> assumption)

section
variable {s : State} (hs : AlarmFollows s)
include hs

/-- An event that raises no condition. -/
theorem OutcomeFollows.kept {t : State} (h : t.fault.alarmPart = s.fault.alarmPart) : OutcomeFollows (.next t) :=
  .next (hs.of_alarmPart h)

/-- A host command whose own rule raises no condition. -/
theorem OutcomeFollows.command {c : Command} (h : CommandKeepsAlarm c) (b : Bool) :
    OutcomeFollows (.next (takeCommand b c s)) := .next (alarmFollows_takeCommand_of_keeps h b hs)

/-- A received frame whose owner raises no condition. -/
theorem OutcomeFollows.frame {owner : Owner} (h : ∀ stamp q u, (owner stamp q u).fault.alarmPart = u.fault.alarmPart)
    (dev : Nat) (f : Frame) : OutcomeFollows (.next (receive dev f owner s)) := .next (alarmFollows_receive h dev f hs)

theorem execReset_follows : OutcomeFollows (execReset s) := by
  refine .next ?_
  split
  · split
    · exact hs.of_alarmPart (by simp)
    · exact alarmFollows_afterReset s
  · exact hs

theorem execJamDetected_follows : OutcomeFollows (execJamDetected s) := by
  refine .next ?_
  split
  · split
    · exact alarmFollows_jamLive (hs.of_alarmPart (by simp))
    · exact hs
  · exact hs

/-- LINK may rise before the next CHECK is made (R89, R91). -/
theorem execCheckDue_follows (i : Fin 4) : OutcomeFollows (execCheckDue i s) :=
  .due hs ((alarmFollows_judgeSilence i (s := closeOpPeriod i s) (hs.of_alarmPart (by simp [closeOpPeriod]))).of_alarmPart
    (makeCheck_alarmPart offer_keepsAlarm _ _))

theorem execDormancyDelayExpiry_follows : OutcomeFollows (execDormancyDelayExpiry s) := by
  refine .due hs ?_
  split
  · next ht => exact hs.of_alarmPart (by simp [offer_keepsAlarm ht])
  · exact hs

theorem execLoopTestEnd_follows (a b c : LoopReading) : OutcomeFollows (execLoopTestEnd a b c s) := by
  refine .next ?_
  split
  · split
    · exact alarmFollows_endLoop _ _ _ hs
    · exact hs
  · exact hs

theorem execStoplineTestEnd_follows : OutcomeFollows (execStoplineTestEnd s) := by
  refine .next ?_
  split
  · split
    · exact alarmFollows_endStopline _ hs
    · exact hs
  · exact hs

/-- Whatever command runs, ALARM follows after it where it followed before (R170). -/
theorem exec_follows (c : Instr) : OutcomeFollows (exec c s) := by
  cases c with
  | resetn => exact .next (alarmFollows_afterReset s)
  | initEnd => exact .due hs (hs.of_alarmPart (by simp [endInit]))
  | hselActive => exact .kept hs (by split <;> simp)
  | hselInactive => exact .kept hs (by simp)
  | answerReady => exact .kept hs (by split <;> simp)
  | fetchRecordRemoved => exact .kept hs (by split <;> simp)
  | unknownCommand code params => exact .kept hs (by split <;> simp)
  | readId => exact .command hs (fun _ => rfl) _
  | configure params => exact .next (alarmFollows_takeCommand (fun _ => alarmFollows_configureCommand params) _ hs)
  | start => exact .command hs startCommand_keepsAlarm _
  | reset => exact execReset_follows hs
  | bind traction => exact .command hs (bindCommand_keepsAlarm traction) _
  | unbind traction => exact .command hs (withBond_keepsAlarm unbindRule_keepsAlarm traction) _
  | take traction => exact .command hs (withBond_keepsAlarm takeRule_keepsAlarm traction) _
  | release traction => exact .command hs (withBond_keepsAlarm releaseRule_keepsAlarm traction) _
  | move traction record => exact .command hs (moveCommand_keepsAlarm traction record) _
  | resume traction => exact .command hs (withBond_keepsAlarm resumeRule_keepsAlarm traction) _
  | handover traction target => exact .command hs (handoverCommand_keepsAlarm traction target) _
  | accept traction => exact .command hs (withBond_keepsAlarm acceptRule_keepsAlarm traction) _
  | decline traction => exact .command hs (withBond_keepsAlarm declineRule_keepsAlarm traction) _
  | halt scope => exact .command hs (haltCommand_keepsAlarm scope) _
  | localStop => exact .command hs localStop_keepsAlarm _
  | localClear => exact .command hs localClear_keepsAlarm _
  | talk scope => exact .command hs (talkCommand_keepsAlarm scope) _
  | talkEnd => exact .command hs talkEndCommand_keepsAlarm _
  | note mode dest text =>
    refine .next ?_
    split
    · exact alarmFollows_takeCommand_of_keeps (noteCommand_keepsAlarm mode dest text) _ hs
    · exact hs.of_alarmPart (by simp)
  | probe target pattern =>
    refine .next ?_
    split
    · exact alarmFollows_takeCommand_of_keeps (probeCommand_keepsAlarm target pattern) _ hs
    · exact hs.of_alarmPart (by simp)
  | test code => exact .command hs (testCommand_keepsAlarm code) _
  | clearTest => exact .command hs clearTestCommand_keepsAlarm _
  | clearHeld => exact .next (alarmFollows_takeCommand (fun u _ => alarmFollows_clearHeldFlags u) _ hs)
  | readState => exact .command hs (fun _ => rfl) _
  | readPeer index => exact .command hs (readPeerCommand_keepsAlarm index) _
  | readBond slot => exact .command hs (readBondCommand_keepsAlarm slot) _
  | fetch => exact .command hs fetchCommand_keepsAlarm _
  | cdetActive => exact .kept hs (by split <;> simp)
  | cdetInactive => exact .kept hs (by split <;> simp)
  | rateLock => exact .kept hs (by split <;> simp)
  | huntFailed cause => exact .kept hs (by split <;> simp)
  | syncWordFound samples => exact .kept hs (by split <;> simp)
  | failedFrame cause => exact .kept hs (by split <;> simp)
  | malformedFrame bytes => exact .kept hs (by split <;> simp)
  | haltFrame dev header originator number copy relay => exact .frame hs (fun _ _ _ => takeHalt_alarmPart _ _ _ _ _ _) _ _
  | moveFrame dev header record => exact .frame hs (fun _ _ => takeRequest_alarmPart (judgeMove_keepsAlarm _ _) _ _ _) _ _
  | checkFrame dev header number units => exact .frame hs (fun _ _ _ => takeCheck_alarmPart _ _ _ _) _ _
  | statusFrame dev header fields => exact .frame hs (fun _ _ _ => takeStatus_alarmPart _ _ _) _ _
  | answerFrame dev header kind seq verdict reason => exact .frame hs (fun _ _ _ => by split <;> simp) _ _
  | resumeFrame dev header => exact .frame hs (fun _ _ => takeRequest_alarmPart (judgeResumeOf_keepsAlarm _) _ _ _) _ _
  | bindAskFrame dev header => exact .frame hs (fun _ _ _ => takeBindAsk_alarmPart _ _) _ _
  | bindReplyFrame dev header verdict reason rate standstill controlled =>
    exact .frame hs (fun _ _ _ => by split <;> simp) _ _
  | takeFrame dev header units byTransfer =>
    refine .frame hs (fun _ _ => takeRequest_alarmPart ?_ _ _ _) _ _
    split
    · exact judgeTransferTake_keepsAlarm _ _
    · exact judgeTake_keepsAlarm _ _
  | releaseFrame dev header unbind =>
    exact .frame hs (fun _ _ => takeRequest_alarmPart (judgeRelease_keepsAlarm _ _) _ _ _) _ _
  | handoverFrame dev header target =>
    exact .frame hs (fun _ _ => takeRequest_alarmPart (judgeHandover_keepsAlarm _ _) _ _ _) _ _
  | offerFrame dev header controller seconds => exact .frame hs (fun _ _ _ => takeOffer_alarmPart _ _ _ _ _) _ _
  | settledFrame dev header outcome => exact .frame hs (fun _ _ _ => takeSettled_alarmPart _ _ _) _ _
  | claimFrame dev header scope => exact .frame hs (fun _ _ _ => by simp) _ _
  | clearFrame dev header sent => exact .frame hs (fun _ _ _ => by simp) _ _
  | voiceFrame dev header number block => exact .frame hs (fun _ _ _ => by simp) _ _
  | noteFrame dev header text => exact .frame hs (fun _ _ _ => by simp [raiseNote]) _ _
  | probeFrame dev header pattern => exact .frame hs (fun _ _ _ => by simp) _ _
  | echoFrame dev header quality rate pattern => exact .frame hs (fun _ _ _ => by simp) _ _
  | presentFrame dev header => exact .frame hs (fun _ _ _ => by simp) _ _
  | dormantFrame dev header => exact .frame hs (fun _ _ _ => by simp) _ _
  | keyFrame => exact .kept hs (by split <;> simp)
  | leadEnd => exact .kept hs (by split <;> simp)
  | wakePreambleEnd => exact .kept hs (by split <;> simp)
  | frameSent => exact .kept hs (by split <;> simp)
  | entryEligible => exact .kept hs (by split <;> simp)
  | jamDetected => exact execJamDetected_follows hs
  | disagreeTimeout => exact .due hs (alarmFollows_faultLive _ _ hs)
  | peerAgeOut peer => exact .kept hs (by split <;> simp)
  | conflictDeadline => exact .kept hs (by split <;> simp)
  | probeTimeout => exact .kept hs (by split <;> simp)
  | bindWaitExpiry slot => exact .kept hs (endWait_alarmPart _ _ _)
  | standbyAgeOut slot => exact .kept hs (by split <;> simp)
  | answerWaitExpiry slot => exact .kept hs (endWait_alarmPart _ _ _)
  | retryWaitExpiry slot => exact .kept hs (endWait_alarmPart _ _ _)
  | checkDue slot => exact execCheckDue_follows hs slot
  | periodClose slot => exact .due hs (alarmFollows_judgeLoss slot (hs.of_alarmPart (by simp [closeTrPeriod])))
  | abandon slot => exact .kept hs (by split <;> simp)
  | offerRepeat => exact .kept hs (by split <;> simp)
  | transferLapse => exact .kept hs (by split <;> simp)
  | offerExpiry slot => exact .kept hs (by split <;> simp)
  | haltMemoryExpiry originator number => exact .kept hs (by split <;> simp)
  | strobeStart => exact .kept hs (by split <;> simp)
  | strobeEnd => exact .kept hs (by split <;> simp)
  | tackRise => exact .kept hs (by split <;> simp)
  | tackFall => exact .kept hs (by split <;> simp)
  | ackLimitExpiry => exact .due hs (alarmFollows_failPort hs)
  | releaseLimitExpiry => exact .due hs (alarmFollows_failPort hs)
  | inputSampled sample => exact .kept hs (by split <;> simp)
  | audioFrameBoundary codec => exact .kept hs (by split <;> simp)
  | floorTimeout => exact .kept hs (by split <;> simp)
  | dormancyDelayExpiry => exact execDormancyDelayExpiry_follows hs
  | sniffWindowOpen => exact .kept hs (by split <;> simp)
  | sniffWindowClose => exact .kept hs (by split <;> simp)
  | loopTestEnd full half quarter => exact execLoopTestEnd_follows hs full half quarter
  | stoplineStep aStop bStop => exact .kept hs (by split <;> simp)
  | stoplineTestEnd => exact execStoplineTestEnd_follows hs
  | timerTestEnd => exact .kept hs (by split <;> simp)
  | reportTimeout => exact .kept hs (by simp)
  | preambleBitMeasured us => exact .kept hs (by split <;> simp)

/-- A step is a command, an event of the station's own, or a tick, which leaves the fault monitor alone (log 2). -/
theorem step_follows : OutcomeFollows (step s) := by
  unfold step
  split
  · have taken (q : List Instr) : AlarmFollows (s.setPending q) := hs
    exact exec_follows (taken _) _
  · unfold idle
    split
    · exact exec_follows hs _
    · exact .kept hs (by simp [tick])

end

/-- Settles O9: only a rise, CONFIGURE, CLEAR-HELD and a reset touch the held flags and the selects, and each judges ALARM;
every other operation leaves held flags, selects and line as they were. -/
theorem stepKeepsAlarmWithHeldFlags : Obligations.StepKeepsAlarmWithHeldFlags := by
  intro s t hs h
  exact step_follows hs t h

end Sys2Proof.Machine
end

section
/-! PROOFS. CLEAR-HELD (R171): O34. -/

namespace Sys2Proof.Machine

/-! ## Waking (R165) -/

/-- A frame of class 2 displaces no entry and cuts no burst, so no owner is told of a drop, and its offer cannot touch the
life state (R31, R34). -/
theorem offerOr_life_of_class2 {f : Frame} {tag : OwnerTag} {s : State} (hc : kindClass (frameKind f) = .c2) :
    (offerOr offer f tag s).life = s.life := by
  have notUrgent : kindClass (frameKind f) ≠ .c0 := by simp [hc]
  unfold offerOr
  by_cases hr : Room s
  · simp [offer_room hr notUrgent]
  · simp [offer_full hr hc]

/-- A DORMANT station that wakes is ACTIVE (R165). -/
theorem wake_active {s : State} (cause : Byte) (hs : s.life.st = .dormant) : (wake offer cause s).life.st = .active := by
  have present (u : State) : (sendPresent offer u).life = u.life := offerOr_life_of_class2 rfl
  simp [wake, hs, raiseDormancy, present]

/-! ## CLEAR-HELD (R171) -/

/-- A command that SETUP takes comes to its own rule in every life state but INIT (R181). -/
theorem taken_isSome {s : State} (hr : s.receiving = true) (hs : s.life.st ≠ .init) : (taken true s).isSome = true := by
  unfold taken
  cases hl : s.life.st <;> simp_all

/-- A DORMANT station finds itself ACTIVE when a command is taken (R165). -/
theorem taken_active {b : Bool} {s u : State} (h : taken b s = some u) (hs : s.life.st = .dormant) :
    u.life.st = .active := by
  unfold taken at h
  split at h
  · simp only [hs] at h
    obtain rfl := Option.some.inj h
    exact wake_active _ hs
  · cases h

/-- The codes of the conditions are the seven bits of a flag byte. -/
theorem conditionCode_surjective {n : Nat} (h : n < 7) : ∃ c, conditionCode c = n := by
  match n, h with
  | 0, _ => exact ⟨.link, rfl⟩
  | 1, _ => exact ⟨.port, rfl⟩
  | 2, _ => exact ⟨.jam, rfl⟩
  | 3, _ => exact ⟨.disagree, rfl⟩
  | 4, _ => exact ⟨.loopFail, rfl⟩
  | 5, _ => exact ⟨.stopFail, rfl⟩
  | 6, _ => exact ⟨.idConflict, rfl⟩

/-- ALARM is wanted exactly where a condition is held and selected (R170). -/
theorem alarmWanted_iff (f : FaultUnit) : alarmWanted f = true ↔
    ∃ c, f.held.getLsbD (conditionCode c) = true ∧ f.selects.getLsbD (conditionCode c) = true := by
  unfold alarmWanted
  constructor
  · intro h
    by_contra hn
    have zero : f.held &&& f.selects = 0 := by
      apply BitVec.eq_of_getLsbD_eq
      intro n hlt
      obtain ⟨c, rfl⟩ := conditionCode_surjective hlt
      have := not_and.mp (not_exists.mp hn c)
      simpa using this
    simp [zero] at h
  · rintro ⟨c, hheld, hselected⟩
    have bit : (f.held &&& f.selects).getLsbD (conditionCode c) = true := by simp [hheld, hselected]
    simp only [bne_iff_ne]
    intro zero
    simp [zero] at bit

/-- Settles O34: CLEAR-HELD runs its rule in the state `taken` gives, and the rule writes held flags and ALARM alone. -/
theorem clearHeldClearsEndedHeldFlags : Obligations.ClearHeldClearsEndedHeldFlags := by
  intro s
  refine ⟨taken_isSome, fun u hu => ⟨taken_active hu, prepare okAnswer (clearHeldFlags u), ?_, ?_, ?_, rfl, rfl⟩⟩
  · exact congrArg Host.Outcome.next (takeCommand_of_taken _ hu)
  · intro c
    exact BitVec.getLsbD_and
  · exact alarmWanted_iff { u.fault with held := u.fault.held &&& u.fault.live }

end Sys2Proof.Machine
end

section
/-! SUPPORT. What a change of the state can keep: the waiting commands, the identity and the clock as they are, the stop path
safe, and every queue, table and buffer within its capacity. `Kept` says so of one change; each operation of the model has a
lemma that adds it to a change that keeps these. -/

namespace Sys2Proof.Machine

/-! ## What a change keeps -/

/-- The parts of the state that the stop path, the capacities and the frame of a command speak of. -/
structure Measure where
  pending : List Instr
  unitId : Identity
  now : Nat
  stop : StopUnit
  running : Option RunningTest
  queue : Nat
  reports : Nat
  peers : Nat
  memory : Nat
  outlet : Nat
  playout : Nat

/-- The measure of a state: lengths of the queues, tables and buffers, and the rest as it is. -/
def State.measure (s : State) : Measure :=
  { pending := s.pending, unitId := s.unitId, now := s.now, stop := s.stop, running := s.test.running
    queue := s.chan.queue.length, reports := s.host.reports.length, peers := s.peers.entries.length
    memory := s.halt.memory.length, outlet := s.floor.outlet.length, playout := s.floor.playout.length }

/-- A change from one state to another keeps the waiting commands, the identity, the clock, the stop path (R113, R177) and
every capacity, the queue's being `n`: the arrival of a frame holds a place of the queue back (R34). -/
structure Kept (n : Nat) (s t : State) : Prop where
  pending : t.pending = s.pending
  unitId : t.unitId = s.unitId
  now : t.now = s.now
  stop : StopPathSafe s → StopPathSafe t
  queue : s.chan.queue.length ≤ n → t.chan.queue.length ≤ n
  reports : s.host.reports.length ≤ reportCapacity → t.host.reports.length ≤ reportCapacity
  peers : s.peers.entries.length ≤ peerCapacity → t.peers.entries.length ≤ peerCapacity
  memory : s.halt.memory.length ≤ haltMemoryCapacity → t.halt.memory.length ≤ haltMemoryCapacity
  outlet : s.floor.outlet.length ≤ outletCapacity → t.floor.outlet.length ≤ outletCapacity
  playout : s.floor.playout.length ≤ playoutCapacity → t.floor.playout.length ≤ playoutCapacity

/-- The stop path is judged by the stop unit and the running test alone. -/
theorem StopPathSafe.congr {s t : State} (hs : StopPathSafe s) (hu : t.stop = s.stop)
    (hr : t.test.running = s.test.running) : StopPathSafe t := by
  unfold StopPathSafe StopLinesFollow StoplineRuns at *
  rwa [hu, hr]

/-- With no STOPLINE test running, lines that follow the set make a safe stop path. -/
theorem StopPathSafe.of_idle {s t : State} (hs : StopPathSafe s) (hu : t.stop = s.stop)
    (hr : ∀ start pos failed, t.test.running ≠ some (.stopline start pos failed)) : StopPathSafe t := by
  obtain ⟨follow, -⟩ := hs
  unfold StopPathSafe StopLinesFollow StoplineRuns at *
  rw [hu]
  exact ⟨follow, fun ⟨start, pos, failed, h⟩ => absurd h (hr start pos failed)⟩

section
variable {n : Nat} {s t u : State}

theorem Kept.refl (n : Nat) (s : State) : Kept n s s := ⟨rfl, rfl, rfl, id, id, id, id, id, id, id⟩

theorem Kept.trans (h : Kept n s t) (k : Kept n t u) : Kept n s u where
  pending := k.pending.trans h.pending
  unitId := k.unitId.trans h.unitId
  now := k.now.trans h.now
  stop := k.stop ∘ h.stop
  queue := k.queue ∘ h.queue
  reports := k.reports ∘ h.reports
  peers := k.peers ∘ h.peers
  memory := k.memory ∘ h.memory
  outlet := k.outlet ∘ h.outlet
  playout := k.playout ∘ h.playout

/-- A change that leaves the measure as it is. -/
theorem Kept.same (h : Kept n s t) (e : u.measure = t.measure) : Kept n s u := by
  simp only [State.measure, Measure.mk.injEq] at e
  obtain ⟨hp, hi, hn, hu, hr, hq, hh, he, hm, ho, hb⟩ := e
  exact ⟨hp.trans h.pending, hi.trans h.unitId, hn.trans h.now, fun x => (h.stop x).congr hu hr,
    fun x => hq ▸ h.queue x, fun x => hh ▸ h.reports x, fun x => he ▸ h.peers x, fun x => hm ▸ h.memory x,
    fun x => ho ▸ h.outlet x, fun x => hb ▸ h.playout x⟩

theorem Kept.ite {p : Prop} [Decidable p] (ht : Kept n s t) (hu : Kept n s u) : Kept n s (if p then t else u) := by
  split <;> assumption

/-! ## Blocks that hold nothing measured -/

theorem Kept.setDraws {x : Nat} (h : Kept n s t) : Kept n s (t.setDraws x) := h.same rfl
theorem Kept.setPins {x : Pins} (h : Kept n s t) : Kept n s (t.setPins x) := h.same rfl
theorem Kept.setModem {x : RxState} (h : Kept n s t) : Kept n s (t.setModem x) := h.same rfl
theorem Kept.setBond {x : BondTable} (h : Kept n s t) : Kept n s (t.setBond x) := h.same rfl
theorem Kept.setPort {x : Port} (h : Kept n s t) : Kept n s (t.setPort x) := h.same rfl
theorem Kept.setLife {x : Life} (h : Kept n s t) : Kept n s (t.setLife x) := h.same rfl
theorem Kept.setFault {x : FaultUnit} (h : Kept n s t) : Kept n s (t.setFault x) := h.same rfl
theorem Kept.setProbe {x : ProbeRec} (h : Kept n s t) : Kept n s (t.setProbe x) := h.same rfl
theorem Kept.setOwnHalt {x : OwnHalt} (h : Kept n s t) : Kept n s (t.setOwnHalt x) := h.same rfl
theorem Kept.setFloorState {x : FloorState} (h : Kept n s t) : Kept n s (t.setFloorState x) := h.same rfl
theorem Kept.setNotice {x : Notice} (h : Kept n s t) : Kept n s (t.setNotice x) := h.same rfl
theorem Kept.setSpell {x : Option Spell} (h : Kept n s t) : Kept n s (t.setSpell x) := h.same rfl
theorem Kept.countDraw (h : Kept n s t) : Kept n s (countDraw t) := h.setDraws

/-! ## Blocks that hold a queue, a table or a buffer -/

/-- The queue may grow no longer than the measure allows. -/
theorem Kept.setQueue {q : List QEntry} (h : Kept n s t) (hq : t.chan.queue.length ≤ n → q.length ≤ n) :
    Kept n s (t.setQueue q) :=
  h.trans ⟨rfl, rfl, rfl, fun x => x.congr rfl rfl, hq, id, id, id, id, id⟩

/-- A queue that has not grown. -/
theorem Kept.shrinkQueue {q : List QEntry} (h : Kept n s t) (hq : q.length ≤ t.chan.queue.length) :
    Kept n s (t.setQueue q) :=
  h.setQueue fun x => hq.trans x

theorem Kept.setEntries {es : List PeerEntry} (h : Kept n s t)
    (he : t.peers.entries.length ≤ peerCapacity → es.length ≤ peerCapacity) : Kept n s (t.setEntries es) :=
  h.trans ⟨rfl, rfl, rfl, fun x => x.congr rfl rfl, id, id, he, id, id, id⟩

theorem Kept.setMemory {m : List HaltEntry} (h : Kept n s t)
    (hm : t.halt.memory.length ≤ haltMemoryCapacity → m.length ≤ haltMemoryCapacity) : Kept n s (t.setMemory m) :=
  h.trans ⟨rfl, rfl, rfl, fun x => x.congr rfl rfl, id, id, id, hm, id, id⟩

theorem Kept.setFloor {f : Floor} (h : Kept n s t)
    (ho : t.floor.outlet.length ≤ outletCapacity → f.outlet.length ≤ outletCapacity)
    (hp : t.floor.playout.length ≤ playoutCapacity → f.playout.length ≤ playoutCapacity) : Kept n s (t.setFloor f) :=
  h.trans ⟨rfl, rfl, rfl, fun x => x.congr rfl rfl, id, id, id, id, ho, hp⟩

theorem Kept.setHost {x : HostLink} (h : Kept n s t)
    (hr : t.host.reports.length ≤ reportCapacity → x.reports.length ≤ reportCapacity) : Kept n s (t.setHost x) :=
  h.trans ⟨rfl, rfl, rfl, fun x => x.congr rfl rfl, id, hr, id, id, id, id⟩

/-- A test unit in which no STOPLINE test runs. -/
theorem Kept.setTest {x : TestUnit} (h : Kept n s t) (hr : ∀ start pos failed, x.running ≠ some (.stopline start pos failed)) :
    Kept n s (t.setTest x) :=
  h.trans ⟨rfl, rfl, rfl, fun y => y.of_idle rfl hr, id, id, id, id, id, id⟩

/-! ## Reports and flags (R169, R185) -/

theorem Kept.judgeSrq (h : Kept n s t) : Kept n s (judgeSrq t) := h.same rfl

/-- A report is appended while there is room (R185). -/
theorem Kept.postReport {r : Report} (h : Kept n s t) : Kept n s (postReport r t) := by
  unfold Machine.postReport
  split
  · next room => exact (h.setHost fun _ => by simpa using room).judgeSrq
  · exact h.same rfl

theorem Kept.raiseAt {time : Nat} {k : ReportKind} {b : Bool} {i : Identity} {d : List Byte} (h : Kept n s t) :
    Kept n s (raiseAt time k b i d t) := h.postReport
theorem Kept.raise {k : ReportKind} {b : Bool} {i : Identity} {d : List Byte} (h : Kept n s t) :
    Kept n s (raise k b i d t) := h.postReport
theorem Kept.raiseBond {i : Fin 4} {p : Identity} {b : Byte} {c : BondCause} (h : Kept n s t) :
    Kept n s (raiseBond i p b c t) := h.raise

theorem Kept.faultLive {c : Condition} {i : Identity} (h : Kept n s t) : Kept n s (faultLive c i t) := by
  unfold Machine.faultLive
  split
  · exact h
  · exact Kept.raise (h.same rfl)

theorem Kept.faultEnd {c : Condition} {i : Identity} (h : Kept n s t) : Kept n s (faultEnd c i t) := by
  unfold Machine.faultEnd
  split
  · exact h.setFault.raise
  · exact h

/-! ## The stop unit and the traction port (R113, R133, R136, R177) -/

theorem Kept.beginPresentation (h : Kept n s t) : Kept n s (beginPresentation t) := by
  unfold Machine.beginPresentation
  split
  · exact h.setPort
  · exact h

theorem Kept.completePresentation (h : Kept n s t) : Kept n s (completePresentation t) := h.setPort.beginPresentation

theorem Kept.offerRecord {r : MoveRecord} (h : Kept n s t) (ho : offerRecord r t = some u) : Kept n s u := by
  unfold Machine.offerRecord at ho
  split at ho
  · cases ho
  · obtain rfl := Option.some.inj ho
    exact h.setPort.beginPresentation

theorem Kept.writeSafeRecord (h : Kept n s t) : Kept n s (writeSafeRecord t) := h.setPort.beginPresentation

theorem Kept.recoverPort (h : Kept n s t) : Kept n s (recoverPort t) := by
  unfold Machine.recoverPort
  exact .ite h.setPort.faultEnd.beginPresentation h

theorem Kept.judgeDisagree (h : Kept n s t) : Kept n s (judgeDisagree t) := by
  unfold Machine.judgeDisagree
  dsimp only
  split
  · exact h
  · split
    · exact h.setPort.setFault
    · exact h.setPort.setFault.faultEnd

theorem Kept.abandonStopline (h : Kept n s t) : Kept n s (abandonStopline t) := by
  unfold Machine.abandonStopline
  split
  · exact (h.setTest (by simp)).raise
  · exact h

/-- After an empty set no STOPLINE test runs (R177). -/
theorem abandonStopline_idle (s : State) : ¬ StoplineRuns (abandonStopline s) := by
  rintro ⟨start, pos, failed, h⟩
  unfold Machine.abandonStopline at h
  split at h
  · simp at h
  · next none_ => exact none_ _ _ _ h

/-- After a change of the set the lines follow it (R113). -/
theorem stopAfter_follows {v : StopUnit} {c : CauseSet} (hs : StopLinesFollow s) (hv : v = stopAfter s.stop c) (t : State)
    (ht : t.stop = v) : StopLinesFollow t := by
  unfold StopLinesFollow at *
  rw [ht, hv]
  unfold stopAfter
  split
  · next h => exact ⟨fun _ => ⟨rfl, rfl⟩, fun x => absurd h x⟩
  · next h =>
    split
    · exact ⟨fun x => absurd x h, fun _ => ⟨rfl, rfl⟩⟩
    · next old => exact ⟨fun x => absurd x h, fun _ => hs.2 old⟩

/-- What follows the new set in the same event: the report, the safe record, the disagreement input, the recovery and the
end of a STOPLINE test (R114, R136, R138, R177). -/
def followCauses (old new : CauseSet) (subject : Identity) (detail : List Byte) (s : State) : State :=
  let s := raise .stopChange true subject detail s
  let s := if old = 0 then writeSafeRecord s else s
  let s := judgeDisagree s
  let s := if old &&& causePortFault ≠ 0 then recoverPort s else s
  if new = 0 then abandonStopline s else s

/-- A change of the set that changes something sets the stop unit, and the rest follows. -/
theorem changeCauses_of_ne {add remove : CauseSet} {i : Identity}
    (h : (s.stop.causes &&& ~~~remove) ||| add ≠ s.stop.causes) :
    let old := s.stop.causes
    let new := (old &&& ~~~remove) ||| add
    changeCauses add remove i s = followCauses old new i
      (causeBytes new ++ causeBytes (new &&& ~~~old) ++ causeBytes (old &&& ~~~new)) (s.setStop (stopAfter s.stop new)) :=
  if_neg h

theorem followCauses_stop (old new : CauseSet) (i : Identity) (d : List Byte) (s : State) :
    (followCauses old new i d s).stop = s.stop := by
  unfold followCauses
  dsimp only
  split_ifs <;> simp

theorem Kept.followCauses {old new : CauseSet} {i : Identity} {d : List Byte} (h : Kept n s t) :
    Kept n s (followCauses old new i d t) := by
  unfold Machine.followCauses
  have reported : Kept n s (Machine.raise .stopChange true i d t) := h.raise
  have told := (Kept.ite (p := old = 0) reported.writeSafeRecord reported).judgeDisagree
  have recovered := Kept.ite (p := old &&& causePortFault ≠ 0) told.recoverPort told
  exact .ite recovered.abandonStopline recovered

/-- A change of the set leaves the stop path safe: the lines follow the new set, and an empty one ends a STOPLINE test. -/
theorem changeCauses_stopPathSafe {add remove : CauseSet} {i : Identity} (hs : StopPathSafe s) :
    StopPathSafe (changeCauses add remove i s) := by
  by_cases same : (s.stop.causes &&& ~~~remove) ||| add = s.stop.causes
  · rwa [changeCauses, if_pos same]
  · rw [changeCauses_of_ne same]
    refine ⟨stopAfter_follows hs.1 rfl _ (followCauses_stop ..), fun runs => ?_⟩
    rw [followCauses_stop]
    intro empty
    have new : (s.stop.causes &&& ~~~remove) ||| add = 0 := by
      simp only [State.setStop_stop, stopAfter] at empty
      split_ifs at empty <;> assumption
    refine abandonStopline_idle _ (by
      unfold followCauses at runs
      rwa [if_pos new] at runs)

theorem Kept.changeCauses {add remove : CauseSet} {i : Identity} (h : Kept n s t) :
    Kept n s (changeCauses add remove i t) := by
  refine h.trans ?_
  by_cases same : (t.stop.causes &&& ~~~remove) ||| add = t.stop.causes
  · rw [Machine.changeCauses, if_pos same]
    exact .refl n t
  · have k : Kept n (t.setStop (stopAfter t.stop ((t.stop.causes &&& ~~~remove) ||| add)))
        (Machine.changeCauses add remove i t) := by
      rw [changeCauses_of_ne same]
      exact (Kept.refl n _).followCauses
    exact ⟨k.pending, k.unitId, k.now, changeCauses_stopPathSafe, k.queue, k.reports, k.peers, k.memory, k.outlet, k.playout⟩

theorem Kept.addCause {c : CauseSet} {i : Identity} (h : Kept n s t) : Kept n s (addCause c i t) := h.changeCauses
theorem Kept.removeCause {c : CauseSet} {i : Identity} (h : Kept n s t) : Kept n s (removeCause c i t) := h.changeCauses
theorem Kept.failPort (h : Kept n s t) : Kept n s (failPort t) := h.setPort.addCause.faultLive

theorem Kept.jamLive (h : Kept n s t) : Kept n s (jamLive t) := .ite h.faultLive.addCause h.faultLive
theorem Kept.jamEnded (h : Kept n s t) : Kept n s (jamEnded t) := .ite h.faultEnd.removeCause h.faultEnd

theorem Kept.judgeResume {i : Identity} (h : Kept n s t) : Kept n s (judgeResume i t).1 := by
  unfold Machine.judgeResume
  split_ifs
  · exact h
  · exact h
  · exact h
  · exact h.removeCause

/-! ## The bond table and the peer table (R40, R43, R52) -/

theorem Kept.putEntry {i : Fin 4} {e : Option BondEntry} (h : Kept n s t) : Kept n s (putEntry i e t) := h.setBond

theorem Kept.modOp {i : Fin 4} {f : OpEntry → OpEntry} (h : Kept n s t) : Kept n s (modOp i f t) := by
  unfold Machine.modOp
  split
  · exact h.putEntry
  · exact h

theorem Kept.modTr {i : Fin 4} {f : TrEntry → TrEntry} (h : Kept n s t) : Kept n s (modTr i f t) := by
  unfold Machine.modTr
  split
  · exact h.putEntry
  · exact h

/-- Entries age out; none comes. -/
theorem Kept.agePeers (h : Kept n s t) : Kept n s (agePeers t) :=
  h.setEntries fun x => (List.length_filter_le ..).trans x

theorem Kept.freeEntry {i : Fin 4} (h : Kept n s t) : Kept n s (freeEntry i t) := h.putEntry.agePeers

/-- The entry heard least recently is one of the table. -/
theorem leastRecent_mem {ps : List PeerEntry} {q : PeerEntry} (h : leastRecent ps = some q) : q ∈ ps := by
  induction ps generalizing q with
  | nil => cases h
  | cons p ps ih =>
    unfold leastRecent at h
    split at h
    · next r hr =>
      split at h
      · exact Option.some.inj h ▸ List.mem_cons_self
      · exact List.mem_cons_of_mem _ (ih (Option.some.inj h ▸ hr))
    · exact Option.some.inj h ▸ List.mem_cons_self

/-- Where the peer table makes room, one more entry fits (R40). -/
theorem roomFor_length {es : List PeerEntry} (h : s.roomFor = some es) (hs : s.peers.entries.length ≤ peerCapacity) :
    es.length < peerCapacity := by
  unfold State.roomFor at h
  split at h
  · next room => exact Option.some.inj h ▸ room
  · split at h
    · next q hq =>
      obtain rfl := Option.some.inj h
      have member : q ∈ s.peers.entries := List.mem_of_mem_filter (leastRecent_mem hq)
      exact Nat.lt_of_lt_of_le (List.length_filter_lt_length_iff_exists.mpr ⟨q, member, by simp⟩) hs
    · cases h

theorem Kept.addPeer {p : PeerEntry} (h : Kept n s t) : Kept n s (addPeer p t) := by
  unfold Machine.addPeer
  split
  · next es he => exact h.setEntries fun x => by simpa using roomFor_length he x
  · exact h

theorem Kept.ensurePeer {i : Identity} (h : Kept n s t) : Kept n s (ensurePeer i t) := .ite h h.addPeer

end

end Sys2Proof.Machine
end

section
/-! SUPPORT. What the operations of the channel access unit, of the operator's side of a bond, of the floor, halt and station
units keep (`Kept`), each for any way of offering a frame that keeps it. -/

namespace Sys2Proof.Machine

section
variable {n : Nat} {s t u : State}

/-! ## The view and the queue (R19, R24, R32, R33) -/

theorem redrawAll_length (unit : Identity) (k : Nat) (q : List QEntry) : (redrawAll unit k q).1.length = q.length := by
  induction q generalizing k with
  | nil => rfl
  | cons e es ih =>
    unfold redrawAll
    split <;> simp [ih]

theorem Kept.redraw (h : Kept n s t) : Kept n s (redraw t) :=
  (h.setDraws (x := (redrawAll t.unitId t.draws t.chan.queue).2)).shrinkQueue
    (by simp [redrawAll_length])

theorem Kept.judgeView (h : Kept n s t) : Kept n s (judgeView t) := by
  have viewed : Kept n s (t.setChan { t.chan with view := viewNow t }) := h.same rfl
  unfold Machine.judgeView
  exact .ite viewed.redraw viewed

/-- A frame is taken where a place is left (R21). -/
theorem Kept.arrive {f : Frame} {nb : Option Nat} {tag : OwnerTag} (h : Kept n s t) (room : t.chan.queue.length < n) :
    Kept n s (arrive f nb tag t) := by
  unfold Machine.arrive Machine.enqueue
  dsimp only
  have taken (e : QEntry) : Kept n s (t.setQueue (t.chan.queue ++ [e])) := h.setQueue fun _ => by simpa using room
  exact .ite (taken _) (taken _).countDraw

theorem Kept.refreshWake (h : Kept n s t) : Kept n s (refreshWake t) := h.shrinkQueue (by simp)

theorem Kept.withdraw {tag : OwnerTag} (h : Kept n s t) : Kept n s (withdraw tag t) := by
  unfold Machine.withdraw
  split
  · exact h.shrinkQueue (List.length_filter_le ..)
  · exact h.shrinkQueue (by simp)
  · exact h

theorem Kept.withdrawEach {p : OwnerTag → Bool} (h : Kept n s t) : Kept n s (withdrawEach p t) :=
  h.shrinkQueue (by simpa using List.length_filter_le ..)

theorem Kept.withdrawChecks {i : Fin 4} (h : Kept n s t) : Kept n s (withdrawChecks i t) := h.withdrawEach
theorem Kept.withdrawSlot {i : Fin 4} (h : Kept n s t) : Kept n s (withdrawSlot i t) := h.withdrawEach

theorem Kept.replaceWhere {p : QEntry → Bool} {f : Frame} (h : Kept n s t) (hr : replaceWhere p f t = some u) :
    Kept n s u := by
  unfold Machine.replaceWhere at hr
  split at hr
  · exact Option.some.inj hr ▸ h.shrinkQueue (by simp)
  · cases hr

/-- A queue in which a frame finds a place: it has not grown, and one more entry fits into it (R34). -/
theorem takeLast_length {p : QEntry → Bool} {q : List QEntry} {r : QEntry × List QEntry} (h : takeLast p q = some r) :
    r.2.length + 1 = q.length := by
  induction q generalizing r with
  | nil => cases h
  | cons e es ih =>
    unfold takeLast at h
    split at h
    · next x rest hx =>
      obtain rfl := Option.some.inj h
      simpa using ih hx
    · split at h
      · exact Option.some.inj h ▸ rfl
      · cases h

theorem displaced_length {c : AccessClass} {q : List QEntry} {r : QEntry × List QEntry} (h : displaced c q = some r) :
    r.2.length + 1 = q.length := by
  unfold displaced at h
  split at h
  · cases h2 : takeLast (waits .c2) q with
    | none => exact takeLast_length (by simpa [h2] using h)
    | some x => exact takeLast_length (h2.trans (by simpa [h2] using h))
  · exact takeLast_length h
  · cases h

theorem Kept.makeRoom {c : AccessClass} {r : State × Option OwnerTag} (h : Kept n s t) (hr : makeRoom c t = some r) :
    Kept n s r.1 := by
  unfold Machine.makeRoom at hr
  split at hr
  · exact Option.some.inj hr ▸ h
  · obtain ⟨d, hd, rfl⟩ := Option.map_eq_some_iff.mp hr
    exact h.shrinkQueue (Nat.le_of_succ_le (displaced_length hd).le)

/-- The place that an offer finds (R34). -/
theorem makeRoom_place {c : AccessClass} {r : State × Option OwnerTag} (hr : makeRoom c s = some r)
    (hs : s.chan.queue.length ≤ queueCapacity) : r.1.chan.queue.length < queueCapacity := by
  unfold Machine.makeRoom at hr
  split at hr
  · next room => exact Option.some.inj hr ▸ room
  · obtain ⟨d, hd, rfl⟩ := Option.map_eq_some_iff.mp hr
    have := displaced_length hd
    simp only [setQueue_eq, State.setChan_chan]
    omega

/-! ## Keying and leaving the air (R28 to R32) -/

theorem Kept.assertKey {a : OnAir} (h : Kept n s t) : Kept n s (assertKey a t) := by
  have aired : Kept n s (t.setChan { t.chan with onAir := some a, spell := none }) := h.same rfl
  exact aired.setModem.judgeView

theorem markFirst_length (p : QEntry → Bool) (q : List QEntry) : (markFirst p q).length = q.length := by
  induction q with
  | nil => rfl
  | cons e es ih =>
    unfold markFirst
    split <;> simp [ih]

theorem Kept.keyCandidate {c : Candidate} (h : Kept n s t) : Kept n s (keyCandidate c t) := by
  unfold Machine.keyCandidate
  split
  · exact (h.shrinkQueue (markFirst_length ..).le).assertKey
  · exact (h.setFloor (f := { t.floor with outlet := t.floor.outlet.drop 1 })
      (fun x => (List.drop_sublist 1 _).length_le.trans x) id).assertKey

theorem Kept.releaseKey (h : Kept n s t) : Kept n s (releaseKey t) := by
  have released : Kept n s (t.setChan { t.chan with onAir := none
                                                    spell := if t.pins.cdet then some { start := t.now, jam := false }
                                                             else none }) := h.same rfl
  exact released.judgeView

theorem Kept.cutBurst (h : Kept n s t) : Kept n s (cutBurst t).1 :=
  (h.shrinkQueue (by simpa [queueAfterCut] using List.length_filter_le ..)).releaseKey

theorem Kept.leaveAir (h : Kept n s t) : Kept n s (leaveAir t) := (h.shrinkQueue (List.length_filter_le ..)).releaseKey

/-! ## Requests and their end (R53 to R75, R89, R96) -/

theorem Kept.raiseOutcome {p : Identity} {c : Byte} {m : BitVec 4} {r q : Byte} (h : Kept n s t) :
    Kept n s (raiseOutcome p c m r q t) := h.raise

theorem Kept.endLinkIfSilent {i : Fin 4} {e : OpEntry} (h : Kept n s t) : Kept n s (endLinkIfSilent i e t) :=
  .ite h.faultEnd h

theorem Kept.leaveControl {i : Fin 4} {c : Option BondCause} (h : Kept n s t) : Kept n s (leaveControl i c t) := by
  unfold Machine.leaveControl
  split
  · split
    · dsimp only
      split
      · exact h.withdrawChecks.modOp.raiseBond.endLinkIfSilent
      · exact h.withdrawChecks.modOp.endLinkIfSilent
    · exact h
  · exact h

theorem Kept.removeOp {i : Fin 4} {c : Option BondCause} (h : Kept n s t) : Kept n s (removeOp i c t) := by
  unfold Machine.removeOp
  split
  · dsimp only
    split
    · exact h.withdrawSlot.freeEntry.raiseBond.endLinkIfSilent
    · exact h.withdrawSlot.freeEntry.endLinkIfSilent
  · exact h

theorem Kept.modReq {i : Fin 4} {f : Request → Request} (h : Kept n s t) : Kept n s (modReq i f t) := h.modOp

theorem Kept.requestSent {i : Fin 4} {k : Kind} {m : BitVec 4} (h : Kept n s t) : Kept n s (requestSent i k m t) :=
  .ite h.modReq h

/-! ## The floor without a frame to offer (R142 to R155) -/

theorem Kept.raiseFloor {r : FloorResult} {sc : Scope} {i : Identity} (h : Kept n s t) : Kept n s (raiseFloor r sc i t) :=
  h.raise
theorem Kept.raiseSpurtEnd {c : SpurtEnd} {sp : Spurt} {k : Nat} {i : Identity} (h : Kept n s t) :
    Kept n s (raiseSpurtEnd c sp k i t) := h.raise

theorem Kept.claimDropped (h : Kept n s t) : Kept n s (claimDropped t) := by
  unfold Machine.claimDropped
  split
  · exact h.setFloorState.raiseFloor
  · exact h.setFloorState.raiseFloor
  · exact h.setFloorState
  · exact h

theorem Kept.clearGone (h : Kept n s t) : Kept n s (clearGone t) := by
  unfold Machine.clearGone
  split
  · split
    · exact h.setFloorState
    · exact h
  · exact h

theorem Kept.emptyOutlet (h : Kept n s t) : Kept n s (t.setFloor { t.floor with outlet := [] }) :=
  h.setFloor (fun _ => Nat.zero_le _) id

theorem Kept.emptyPlayout (h : Kept n s t) : Kept n s (t.setFloor { t.floor with playout := [], playPos := 0 }) :=
  h.setFloor id fun _ => Nat.zero_le _

theorem Kept.holdFloor {i : Identity} {m : Option Byte} (h : Kept n s t) : Kept n s (holdFloor i m t) := h.setFloorState

/-- The playout buffer takes a block, and loses its oldest when it is full (R155). -/
theorem Kept.enterPlayout {b : List CodecFrame} (h : Kept n s t) : Kept n s (enterPlayout b t) := by
  unfold Machine.enterPlayout
  split
  · next room => exact h.setFloor id fun _ => by simpa using room
  · exact h.setFloor id fun x => by simp [playoutCapacity] at x ⊢; omega

theorem Kept.playSpeech {hd : Header} {v : Speech} (h : Kept n s t) : Kept n s (playSpeech hd v t) := by
  unfold Machine.playSpeech
  split
  · exact .ite h.enterPlayout h
  · exact h

theorem Kept.hearSpeech {hd : Header} {v : Speech} (h : Kept n s t) : Kept n s (hearSpeech hd v t) := by
  unfold Machine.hearSpeech
  split
  · exact h.holdFloor.playSpeech
  · split_ifs
    · exact h.setFloorState.playSpeech
    · exact h.holdFloor.emptyPlayout.playSpeech
    · exact h
  · exact h.withdraw.holdFloor.raiseFloor.playSpeech
  · split
    · split_ifs
      · exact h.holdFloor.emptyOutlet.raiseFloor.raiseSpurtEnd.playSpeech
      · exact h
    · exact (Kept.ite h.withdraw h).holdFloor.playSpeech

theorem Kept.hearClear {i : Identity} (h : Kept n s t) : Kept n s (hearClear i t) := by
  unfold Machine.hearClear
  split
  · exact .ite h.setFloorState h
  · exact h

/-- The outlet takes a completed block, and loses its oldest when it is full (R151). -/
theorem completeBlock_outlet (sp : Spurt) (frames : List CodecFrame) (f : Floor) (h : f.outlet.length ≤ outletCapacity) :
    (completeBlock sp frames f).outlet.length ≤ outletCapacity := by
  unfold completeBlock
  dsimp only
  split
  · next room => simpa using room
  · simp [outletCapacity] at h ⊢
    omega

theorem passBoundary_outlet (codec : CodecFrame) (f : Floor) (h : f.outlet.length ≤ outletCapacity) :
    (passBoundary codec f).outlet.length ≤ outletCapacity := by
  have assembled : (assemble codec f).outlet.length ≤ outletCapacity := by
    unfold assemble
    dsimp only
    split
    · split
      · split_ifs
        · exact h
        · exact completeBlock_outlet _ _ _ h
        · exact h
      · exact h
    · exact h
  have chosen (g : Floor) : (choosePlayout g).outlet = g.outlet := by
    have retired : (retireBlock g).outlet = g.outlet := by unfold retireBlock; split <;> rfl
    unfold choosePlayout
    dsimp only
    split <;> exact retired
  simpa [passBoundary, chosen] using assembled

theorem passBoundary_playout (codec : CodecFrame) (f : Floor) : (passBoundary codec f).playout.length ≤ f.playout.length := by
  have assembled : (assemble codec f).playout = f.playout := by
    unfold assemble completeBlock
    dsimp only
    split
    · split
      · split_ifs <;> rfl
      · rfl
    · rfl
  have chosen (g : Floor) : (choosePlayout g).playout.length ≤ g.playout.length := by
    have retired : (retireBlock g).playout.length ≤ g.playout.length := by
      unfold retireBlock
      split
      · exact (List.drop_sublist 1 _).length_le
      · exact le_rfl
    unfold choosePlayout
    dsimp only
    split <;> exact retired
  calc (passBoundary codec f).playout.length ≤ (assemble codec f).playout.length := chosen _
    _ = f.playout.length := by rw [assembled]

theorem Kept.passBoundary {codec : CodecFrame} (h : Kept n s t) : Kept n s (t.setFloor (passBoundary codec t.floor)) :=
  h.setFloor (passBoundary_outlet codec _) fun x => (passBoundary_playout codec _).trans x

/-! ## The halt memory (R122) -/

theorem Kept.forgetPair {e : HaltEntry} (h : Kept n s t) : Kept n s (forgetPair e t) := by
  have forgotten := h.setMemory (m := t.halt.memory.filter (fun x => !pairIs e.originator e.number x))
    fun x => (List.length_filter_le ..).trans x
  exact .ite forgotten.withdraw forgotten

theorem earliestHeard_mem {m : List HaltEntry} {e : HaltEntry} (h : earliestHeard m = some e) : e ∈ m := by
  induction m generalizing e with
  | nil => cases h
  | cons x xs ih =>
    unfold earliestHeard at h
    split at h
    · next y hy =>
      split at h
      · exact Option.some.inj h ▸ List.mem_cons_self
      · exact List.mem_cons_of_mem _ (ih (Option.some.inj h ▸ hy))
    · exact Option.some.inj h ▸ List.mem_cons_self

theorem withdraw_halt_memory (tag : OwnerTag) (s : State) : (withdraw tag s).halt = s.halt := by
  unfold withdraw
  split <;> rfl

/-- One more pair fits once room has been made (R122). -/
theorem roomForPair_length (h : s.halt.memory.length ≤ haltMemoryCapacity) :
    (roomForPair s).halt.memory.length < haltMemoryCapacity := by
  unfold roomForPair
  split
  · assumption
  · next full =>
    split
    · next e he =>
      have forgotten : (forgetPair e s).halt.memory = s.halt.memory.filter (fun x => !pairIs e.originator e.number x) := by
        unfold forgetPair
        dsimp only
        split
        · rw [withdraw_halt_memory]; rfl
        · rfl
      rw [forgotten]
      exact Nat.lt_of_lt_of_le
        (List.length_filter_lt_length_iff_exists.mpr ⟨e, earliestHeard_mem he, by simp [pairIs]⟩) h
    · next none_ =>
      cases hm : s.halt.memory with
      | nil => simp [hm, haltMemoryCapacity] at full
      | cons x xs =>
        rw [hm] at none_
        unfold earliestHeard at none_
        split at none_
        · split at none_ <;> cases none_
        · cases none_

theorem Kept.roomForPair (h : Kept n s t) : Kept n s (roomForPair t) := by
  unfold Machine.roomForPair
  split
  · exact h
  · split
    · exact h.forgetPair
    · exact h

/-- A pair is entered where room has been made for it (R122). -/
theorem Kept.enterPair {o : Identity} {m : Byte} (h : Kept n s t) : Kept n s (enterPair o m t) := by
  refine h.trans ?_
  unfold Machine.enterPair
  split
  · exact .refl n t
  · have roomy := (Kept.refl n t).roomForPair
    exact ⟨roomy.pending, roomy.unitId, roomy.now, fun x => (roomy.stop x).congr rfl rfl, roomy.queue, roomy.reports,
      roomy.peers, fun x => by simpa using roomForPair_length x, roomy.outlet, roomy.playout⟩

theorem Kept.setRelay {o : Identity} {m : Byte} {q : Bool} (h : Kept n s t) : Kept n s (setRelay o m q t) :=
  h.setMemory fun x => by simpa using x

theorem Kept.suppressRelay {o : Identity} {m : Byte} (h : Kept n s t) : Kept n s (suppressRelay o m t) := by
  unfold Machine.suppressRelay
  split
  · exact h.withdraw.setRelay
  · exact h.withdraw
  · exact h

theorem Kept.addHaltCause {sc : Scope} {i : Identity} (h : Kept n s t) : Kept n s (addHaltCause sc i t) := .ite h.addCause h

/-! ## Station control without a frame to offer (R160 to R163) -/

theorem Kept.raiseDormancy {e : DormancyEvent} {w : Byte} {i : Identity} (h : Kept n s t) :
    Kept n s (raiseDormancy e w i t) := h.raise

theorem Kept.noteActivity (h : Kept n s t) : Kept n s (noteActivity t) := h.setLife

theorem Kept.withdrawNotice (h : Kept n s t) : Kept n s (withdrawNotice t) := by
  unfold Machine.withdrawNotice
  split
  · split
    · exact h.withdraw.setNotice.raiseDormancy
    · exact h.withdraw.setNotice
    · exact h
  · exact h

theorem Kept.judgeNotice (h : Kept n s t) : Kept n s (judgeNotice t) := .ite h h.withdrawNotice

theorem Kept.enterDormant (h : Kept n s t) : Kept n s (enterDormant t) :=
  h.setLife.emptyPlayout.raiseDormancy

/-! ## Transfers without a frame to offer (R97, R100, R104) -/

theorem Kept.setDetached {x : Option Transfer} (h : Kept n s t) : Kept n s (t.setDetached x) := h.setBond

theorem Kept.modTransfer {f : Transfer → Transfer} (h : Kept n s t) : Kept n s (modTransfer f t) := by
  unfold Machine.modTransfer
  split
  · exact h.modTr
  · exact h.setDetached

theorem Kept.clearTransfer (h : Kept n s t) : Kept n s (clearTransfer t) := by
  unfold Machine.clearTransfer
  refine Kept.withdraw ?_
  split
  · exact h.modTr.agePeers
  · exact h.setDetached

theorem Kept.offerGone (h : Kept n s t) : Kept n s (offerGone t) := h.modTransfer

theorem Kept.removeOffered {i : Identity} {c : BondCause} (h : Kept n s t) : Kept n s (removeOffered i c t) := by
  unfold Machine.removeOffered
  split
  · exact .ite h.freeEntry.raiseBond h
  · exact h

/-! ## The probe (R49) -/

theorem Kept.endProbe {r : EchoResult} {i : Identity} (h : Kept n s t) : Kept n s (endProbe r i t) := h.setProbe.raise

theorem Kept.probeDropped (h : Kept n s t) : Kept n s (probeDropped t) := by
  unfold Machine.probeDropped
  split
  · exact h.endProbe
  · exact h

theorem Kept.probeSent (h : Kept n s t) : Kept n s (probeSent t) := by
  unfold Machine.probeSent
  split
  · exact h.setProbe
  · exact h

end

/-! ## Operations that offer a frame -/

/-- A way to offer a frame keeps what `Kept` says, in a queue of a given capacity. -/
def OffersKept (n : Nat) (off : Offering) : Prop :=
  ∀ ⦃f : Frame⦄ ⦃nb : Option Nat⦄ ⦃tag : OwnerTag⦄ ⦃s t : State⦄, off f nb tag s = some t → Kept n s t

section
variable {n : Nat} {s t u : State} {off : Offering}

theorem Kept.offerOr (ho : OffersKept n off) {f : Frame} {tag : OwnerTag} (h : Kept n s t) :
    Kept n s (offerOr off f tag t) := by
  unfold Machine.offerOr
  cases ht : off f none tag t with
  | none => exact h
  | some u => exact h.trans (ho ht)

theorem Kept.makeCheck (ho : OffersKept n off) {i : Fin 4} (h : Kept n s t) : Kept n s (makeCheck off i t) := by
  unfold Machine.makeCheck
  split
  · split
    · dsimp only
      split
      · next hr => exact h.modOp.replaceWhere hr
      · exact h.modOp.offerOr ho
    · exact h
  · exact h

theorem Kept.enterControl (ho : OffersKept n off) {i : Fin 4} (h : Kept n s t) : Kept n s (enterControl off i t) :=
  h.modOp.makeCheck ho

theorem Kept.afterRequest (ho : OffersKept n off) {i : Fin 4} {b : ReqBody} {r : ReqEnd} (h : Kept n s t) :
    Kept n s (afterRequest off i b r t) := by
  unfold Machine.afterRequest
  split
  · exact h.modOp
  · exact h.removeOp
  · exact h.removeOp
  · exact h.removeOp
  · exact h.enterControl ho
  · exact h.leaveControl
  · exact h.modOp.agePeers.leaveControl
  · exact h
  · exact h
  · exact h
  · exact h.modOp.agePeers

theorem Kept.endRequest (ho : OffersKept n off) {i : Fin 4} {r : ReqEnd} (h : Kept n s t) :
    Kept n s (endRequest off i r t) := by
  unfold Machine.endRequest
  split
  · split
    · exact h.modOp.raiseOutcome.afterRequest ho
    · exact h
  · exact h

theorem Kept.resendOrEnd (ho : OffersKept n off) {k : Nat} {i : Fin 4} (h : Kept n s t) :
    Kept n s (resendOrEnd off k i t) := by
  induction k generalizing t with
  | zero => exact h.endRequest ho
  | succ k ih =>
    unfold Machine.resendOrEnd
    split
    · split
      · split
        · dsimp only
          split
          · next ht => exact h.modReq.trans (ho ht)
          · exact ih h.modReq
        · exact h.endRequest ho
      · exact h
    · exact h

theorem Kept.noAnswerYet (ho : OffersKept n off) {i : Fin 4} (h : Kept n s t) : Kept n s (noAnswerYet off i t) :=
  h.resendOrEnd ho

theorem Kept.requestDropped (ho : OffersKept n off) {i : Fin 4} {k : Kind} {m : BitVec 4} (h : Kept n s t) :
    Kept n s (requestDropped off i k m t) := .ite (h.noAnswerYet ho) h

theorem Kept.sendRequest (ho : OffersKept n off) {i : Fin 4} {e : OpEntry} {b : ReqBody} (h : Kept n s t)
    (ht : sendRequest off i e b t = some u) : Kept n s u := by
  obtain ⟨v, hv, rfl⟩ := Option.map_eq_some_iff.mp ht
  exact (h.trans (ho hv)).modOp

theorem Kept.sendClear (ho : OffersKept n off) (h : Kept n s t) : Kept n s (sendClear off t) := by
  unfold Machine.sendClear
  split
  · split
    · dsimp only
      split
      · next ht => exact (h.trans (ho ht)).setFloorState.raiseSpurtEnd
      · exact h.setFloorState.raiseSpurtEnd
    · exact h
  · exact h

theorem Kept.endSpurt (ho : OffersKept n off) {c : SpurtEnd} (h : Kept n s t) : Kept n s (endSpurt off c t) := by
  unfold Machine.endSpurt
  split
  · next sp _ =>
    have emptied : Kept n s (t.setFloor { t.floor with
        st := .own { sp with phase := .clearing c false t.floor.outlet.length, assembly := [] }, outlet := [] }) :=
      h.setFloor (fun _ => Nat.zero_le _) id
    exact .ite emptied (emptied.sendClear ho)
  · exact h

theorem Kept.claimSent (ho : OffersKept n off) (h : Kept n s t) : Kept n s (claimSent off t) := by
  unfold Machine.claimSent
  split
  · exact h.setFloorState
  · exact h.setFloorState.endSpurt ho
  · exact h

theorem Kept.voiceSent (ho : OffersKept n off) (h : Kept n s t) : Kept n s (voiceSent off t) := by
  unfold Machine.voiceSent
  split
  · dsimp only
    split
    · exact .ite (h.setFloorState.endSpurt ho) h.setFloorState
    · exact h.setFloorState.sendClear ho
  · exact h

theorem Kept.haltNotice (ho : OffersKept n off) (h : Kept n s t) : Kept n s (haltNotice off t) := by
  unfold Machine.haltNotice
  split
  · split
    · exact h.raiseFloor.endSpurt ho
    · exact h
  · split
    · exact h.withdraw.setFloorState.raiseFloor
    · exact h.withdraw.setFloorState
    · exact h
  · exact h

theorem Kept.haltCopyGone (ho : OffersKept n off) {k : Nat} {m : Byte} {copy : Nat} (h : Kept n s t) :
    Kept n s (haltCopyGone off k m copy t) := by
  induction k generalizing t copy with
  | zero => exact h
  | succ k ih =>
    unfold Machine.haltCopyGone
    split
    · exact h
    · split
      · split
        · dsimp only
          split
          · next ht => exact h.setOwnHalt.trans (ho ht)
          · exact ih h.setOwnHalt
        · exact h.setOwnHalt
      · exact h

theorem Kept.relayHalt (ho : OffersKept n off) {i : Identity} {m : Byte} (h : Kept n s t) :
    Kept n s (relayHalt off i m t) := by
  unfold Machine.relayHalt
  dsimp only
  split
  · next ht => exact (h.countDraw.trans (ho ht)).setRelay
  · exact h.countDraw

theorem Kept.sendPresent (ho : OffersKept n off) (h : Kept n s t) : Kept n s (sendPresent off t) := h.offerOr ho

theorem Kept.noticeSent (ho : OffersKept n off) (h : Kept n s t) : Kept n s (noticeSent off t) := by
  unfold Machine.noticeSent
  split
  · exact h.enterDormant
  · exact (h.setNotice.sendPresent ho).raiseDormancy
  · exact h

theorem Kept.wake (ho : OffersKept n off) {c : Byte} (h : Kept n s t) : Kept n s (wake off c t) :=
  .ite (h.setLife.sendPresent ho).raiseDormancy h

theorem Kept.sendOffer (ho : OffersKept n off) (h : Kept n s t) : Kept n s (sendOffer off t) := by
  unfold Machine.sendOffer
  split
  · dsimp only
    split
    · next ht => exact h.modTransfer.trans (ho ht)
    · exact h.modTransfer.offerGone
  · exact h

theorem Kept.sendSettled (ho : OffersKept n off) {o : SettledOutcome} {i : Identity} (h : Kept n s t) :
    Kept n s (sendSettled off o i t) := h.offerOr ho

theorem Kept.ownerDropped (ho : OffersKept n off) {tag : OwnerTag} (h : Kept n s t) : Kept n s (ownerDropped off tag t) := by
  cases tag with
  | request i k m => exact h.requestDropped ho
  | offer => exact h.offerGone
  | haltCopy m copy => exact h.haltCopyGone ho
  | relay i m => exact h.setRelay
  | claim => exact h.claimDropped
  | clear => exact h.clearGone
  | dormantNotice => exact h.setNotice
  | probe => exact h.probeDropped
  | check | status | answer | bindReply | settled | present | echo | note => exact h

theorem Kept.ownerSent (ho : OffersKept n off) {tag : OwnerTag} (h : Kept n s t) : Kept n s (ownerSent off tag t) := by
  cases tag with
  | request i k m => exact h.requestSent
  | offer => exact h.offerGone
  | haltCopy m copy => exact h.haltCopyGone ho
  | relay i m => exact h.setRelay
  | claim => exact h.claimSent ho
  | clear => exact h.clearGone
  | dormantNotice => exact h.noticeSent ho
  | probe => exact h.probeSent
  | check | status | answer | bindReply | settled | present | echo | note => exact h

theorem Kept.tellDropped (ho : OffersKept n off) {tag : Option OwnerTag} (h : Kept n s t) :
    Kept n s (tellDropped off tag t) := by
  unfold Machine.tellDropped
  split
  · exact h.ownerDropped ho
  · exact h

/-! ## The offers of the channel access unit (R31, R34, R35) -/

/-- The same change against another capacity of the queue. -/
theorem Kept.withCapacity {m : Nat} (h : Kept m s t) (hq : s.chan.queue.length ≤ n → t.chan.queue.length ≤ n) :
    Kept n s t :=
  ⟨h.pending, h.unitId, h.now, h.stop, hq, h.reports, h.peers, h.memory, h.outlet, h.playout⟩

/-- An arrival in a queue that has a place left keeps the capacity, whatever the change before it kept. -/
theorem Kept.arriveInPlace {m : Nat} {f : Frame} {nb : Option Nat} {tag : OwnerTag} (h : Kept m s t)
    (place : s.chan.queue.length ≤ n → t.chan.queue.length < n) : Kept n s (Machine.arrive f nb tag t) := by
  have taken : (Machine.arrive f nb tag t).chan.queue.length = t.chan.queue.length + 1 := by
    unfold Machine.arrive enqueue
    dsimp only
    split <;> simp [Machine.countDraw]
  have grown : Kept (t.chan.queue.length + 1) t (Machine.arrive f nb tag t) := (Kept.refl _ t).arrive (Nat.lt_succ_self _)
  have inPlace : Kept (max m (t.chan.queue.length + 1)) s (Machine.arrive f nb tag t) := by
    refine Kept.trans (t := t) (h.withCapacity fun _ => by omega) (grown.withCapacity fun _ => by omega)
  exact inPlace.withCapacity fun x => by have := place x; omega

/-- An offer beside an arrival leaves the place that is the arrival's (R34). -/
theorem offerBeside_kept : OffersKept (queueCapacity - 1) offerBeside := by
  intro f nb tag s t h
  unfold offerBeside at h
  split at h
  · next place =>
    obtain rfl := Option.some.inj h
    exact (Kept.refl 0 s).arriveInPlace fun _ => by omega
  · cases h

theorem offerQuiet_kept : OffersKept queueCapacity offerQuiet := by
  intro f nb tag s t h
  obtain ⟨r, hr, rfl⟩ := Option.map_eq_some_iff.mp h
  exact ((Kept.refl 0 s).makeRoom hr).arriveInPlace (makeRoom_place hr)

theorem Kept.classZeroArrival (h : Kept queueCapacity s t) : Kept queueCapacity s (classZeroArrival t) :=
  .ite (h.cutBurst.tellDropped offerQuiet_kept) h

/-- An offer keeps the capacities: the owner of a displaced entry cannot fill the place just made, so the arrival fits. -/
theorem offer_kept : OffersKept queueCapacity offer := by
  intro f nb tag s t h
  obtain ⟨r, hr, rfl⟩ := Option.map_eq_some_iff.mp h
  have told : Kept (queueCapacity - 1) s (tellDropped offerBeside r.2 r.1) :=
    ((Kept.refl _ s).makeRoom hr).tellDropped offerBeside_kept
  have place (x : s.chan.queue.length ≤ queueCapacity) :
      (tellDropped offerBeside r.2 r.1).chan.queue.length < queueCapacity := by
    have left := makeRoom_place hr x
    have := ((Kept.refl (queueCapacity - 1) r.1).tellDropped offerBeside_kept (tag := r.2)).queue (by omega)
    simp only [queueCapacity] at *
    omega
  have taken := told.arriveInPlace (f := f) (nb := nb) (tag := tag) place
  unfold afterArrival
  exact .ite taken.classZeroArrival taken

theorem Kept.offerAnyway {f : Frame} {tag : OwnerTag} (h : Kept queueCapacity s t) :
    Kept queueCapacity s (offerAnyway f tag t) := h.offerOr offer_kept

end

end Sys2Proof.Machine
end

section
/-! PROOFS. What every command and every step keeps: the queue of commands, the identity and the clock (O3), that none stops
(O4), the stop path (O7) and the capacities (O8); and what holds at reset (O6). -/

namespace Sys2Proof.Machine

section
variable {s t : State}

/-! ## Received frames -/

theorem Kept.modSup {n : Nat} {i : Fin 4} {f : TrSup → TrSup} (h : Kept n s t) : Kept n s (modSup i f t) := h.modTr
theorem Kept.takePeriod {n : Nat} {i : Fin 4} {u : Byte} (h : Kept n s t) : Kept n s (takePeriod i u t) := h.modSup

theorem Kept.endLinkIfLost {n : Nat} {i : Fin 4} {e : TrEntry} (h : Kept n s t) : Kept n s (endLinkIfLost i e t) :=
  .ite h.faultEnd h

theorem Kept.contact {n : Nat} {i : Identity} (h : Kept n s t) : Kept n s (contact i t) := by
  unfold Machine.contact
  split
  · split_ifs
    · exact h.modSup.modTr.raiseBond.endLinkIfLost
    · exact h.modSup
    · exact h
  · exact h

theorem Kept.sendAnswer {d : Identity} {k : Kind} {m : BitVec 4} {v : Verdict} {r : Option Reason}
    (h : Kept queueCapacity s t) : Kept queueCapacity s (sendAnswer d k m v r t) := h.offerAnyway

theorem Kept.recordRequest {n : Nat} {i : Option (Fin 4)} {k : Kind} {m : BitVec 4} {v : Verdict} {r : Option Reason}
    (h : Kept n s t) : Kept n s (recordRequest i k m v r t) := by
  unfold Machine.recordRequest
  split
  · exact h
  · split
    · exact h.modTr
    · exact h

theorem Kept.runSequel {q : Sequel} (h : Kept queueCapacity s t) : Kept queueCapacity s (runSequel q t) := by
  cases q with
  | none => exact h
  | firstOffer => exact h.sendOffer offer_kept
  | settled o i => exact h.sendSettled offer_kept

/-- A judgement of a request keeps what `Kept` says. -/
def JudgesKept (judge : State → Judged) : Prop := ∀ s, Kept queueCapacity s (judge s).state

theorem Kept.takeRequest {judge : State → Judged} (hj : JudgesKept judge) {hd : Header} {k : Kind} {c : Bool}
    (h : Kept queueCapacity s t) : Kept queueCapacity s (takeRequest hd k c judge t) := by
  unfold Machine.takeRequest
  split
  · have contacted := Kept.ite (p := c = true) (h.contact (i := hd.sender)) h
    dsimp only
    split
    · exact contacted.sendAnswer
    · exact (contacted.trans (hj _)).sendAnswer.recordRequest.runSequel
  · exact h.sendAnswer

theorem judgeMove_kept (i : Identity) (r : MoveRecord) : JudgesKept (judgeMove i r) := by
  intro s
  have unchanged := Kept.refl queueCapacity s
  unfold judgeMove
  split_ifs
  · exact unchanged
  · exact unchanged
  · split
    · next ht => exact unchanged.offerRecord ht
    · exact unchanged

theorem judgeResumeOf_kept (i : Identity) : JudgesKept (judgeResumeOf i) := by
  intro s
  unfold judgeResumeOf
  split_ifs
  · exact .refl _ s
  · exact (Kept.refl _ s).judgeResume

theorem Kept.giveControl {n : Nat} {i : Fin 4} {p : Nat} (h : Kept n s t) : Kept n s (giveControl i p t) := h.modTr
theorem Kept.toStandby {n : Nat} {i : Fin 4} (h : Kept n s t) : Kept n s (toStandby i t) := h.modTr
theorem Kept.addUnattended {n : Nat} {i : Identity} (h : Kept n s t) : Kept n s (addUnattended i t) := .ite h h.addCause

theorem Kept.detachTransfer {n : Nat} {i : Fin 4} (h : Kept n s t) : Kept n s (detachTransfer i t) := by
  unfold Machine.detachTransfer
  split
  · split
    · exact h.setDetached.modTr.agePeers
    · exact h
  · exact h

theorem Kept.clearIfTarget {n : Nat} {i : Identity} (h : Kept n s t) : Kept n s (clearIfTarget i t).1 := by
  unfold Machine.clearIfTarget
  split
  · split
    · exact h.clearTransfer
    · exact h
  · exact h

theorem Kept.handOver {n : Nat} {i : Fin 4} (h : Kept n s t) : Kept n s (handOver i t) := by
  unfold Machine.handOver
  split
  · split
    · exact h.toStandby.raiseBond
    · exact h.freeEntry.raiseBond.endLinkIfLost
    · exact h
  · exact h

theorem Kept.completeTransfer {n : Nat} {i : Fin 4} {target : Identity} {p : Nat} {c : BondCause} (h : Kept n s t) :
    Kept n s (completeTransfer i target p c t) := by
  unfold Machine.completeTransfer
  dsimp only
  split
  · exact h.giveControl.raiseBond.clearTransfer.handOver
  · exact h.giveControl.raiseBond.clearTransfer

theorem Kept.takeOverDetached {n : Nat} {i : Identity} (h : Kept n s t) : Kept n s (takeOverDetached i t).1 := by
  unfold Machine.takeOverDetached
  split
  · split
    · exact h.clearTransfer
    · exact h.clearTransfer.removeOffered
  · exact h

theorem judgeTake_kept (i : Identity) (u : Byte) : JudgesKept (judgeTake i u) := by
  intro s
  have unchanged := Kept.refl queueCapacity s
  unfold judgeTake
  split
  · exact unchanged
  · split_ifs
    · exact unchanged
    · exact unchanged
    · exact unchanged.takePeriod
    · exact unchanged
    · exact unchanged.giveControl.raiseBond.takeOverDetached

theorem judgeTransferTake_kept (i : Identity) (u : Byte) : JudgesKept (judgeTransferTake i u) := by
  intro s
  have unchanged := Kept.refl queueCapacity s
  unfold judgeTransferTake
  split
  · split
    · exact unchanged.takePeriod
    · split
      · split
        · exact unchanged
        · split
          · exact unchanged
          · exact unchanged.completeTransfer
      · exact unchanged
  · exact unchanged

theorem judgeRelease_kept (i : Identity) (unbind : Bool) : JudgesKept (judgeRelease i unbind) := by
  intro s
  have unchanged := Kept.refl queueCapacity s
  unfold judgeRelease
  split
  · exact unchanged
  · split_ifs
    · exact unchanged.freeEntry.raiseBond.clearIfTarget
    · exact unchanged
    · exact unchanged.detachTransfer.freeEntry.raiseBond.addUnattended
    · exact unchanged.detachTransfer.toStandby.raiseBond.addUnattended

theorem judgeHandover_kept (i target : Identity) : JudgesKept (judgeHandover i target) := by
  intro s
  have unchanged := Kept.refl queueCapacity s
  unfold judgeHandover
  split
  · exact unchanged
  · split_ifs
    · exact unchanged
    · exact unchanged
    · exact unchanged
    · exact unchanged.ensurePeer.modTr
    · split
      · exact unchanged
      · exact unchanged.ensurePeer.putEntry.raiseBond.modTr

theorem Kept.takeCheck {i : Identity} {m u : Byte} (h : Kept queueCapacity s t) :
    Kept queueCapacity s (takeCheck i m u t) := by
  unfold Machine.takeCheck
  split
  · split
    · split
      · dsimp only
        split
        · exact h.contact.takePeriod.offerAnyway
        · exact h.contact.takePeriod
      · exact h
    · exact h
  · exact h

theorem Kept.statusResend {i : Fin 4} {m : Option (BitVec 4)} (h : Kept queueCapacity s t) :
    Kept queueCapacity s (statusResend i m t) := by
  unfold Machine.statusResend
  split
  · split
    · split
      · exact .ite (h.noAnswerYet offer_kept) h
      · exact h
    · exact h
  · exact h

theorem Kept.regainOp {n : Nat} {i : Fin 4} {e : OpEntry} (h : Kept n s t) : Kept n s (regainOp i e t) :=
  .ite h.modOp.raiseBond.endLinkIfSilent h

theorem Kept.statusHeard {n : Nat} {i : Fin 4} {e : OpEntry} {c : Byte} (h : Kept n s t) :
    Kept n s (statusHeard i e c t) := .ite h.modOp h

theorem Kept.takeStatus {i : Identity} {b : StatusBody} (h : Kept queueCapacity s t) :
    Kept queueCapacity s (takeStatus i b t) := by
  unfold Machine.takeStatus
  split
  · split
    · exact .ite h.statusHeard.regainOp.statusResend (.ite h.statusResend h)
    · exact h
  · exact h

theorem Kept.withdrawWaiting {n : Nat} {tag : OwnerTag} (h : Kept n s t) : Kept n s (withdrawWaiting tag t) := by
  unfold Machine.withdrawWaiting
  split
  · exact h.withdraw
  · exact h

theorem Kept.answered {i : Fin 4} {q : Request} {v : Verdict} {r : Option Reason} (h : Kept queueCapacity s t) :
    Kept queueCapacity s (answered i q v r t) := by
  unfold Machine.answered
  split
  · exact h.withdrawWaiting.endRequest offer_kept
  · exact h.withdrawWaiting.endRequest offer_kept
  · exact h
  · unfold answeredBusy
    split
    · exact .ite h.modReq (h.endRequest offer_kept)
    · exact h

theorem Kept.answerToRequest {i : Identity} {k : Kind} {m : BitVec 4} {v : Verdict} {r : Option Reason}
    (h : Kept queueCapacity s t) : Kept queueCapacity s (answerToRequest i k m v r t) := by
  unfold Machine.answerToRequest
  split
  · split
    · exact .ite h.answered h
    · exact h
  · exact h

theorem Kept.answerToOffer {i : Identity} {k : Kind} {v : Verdict} (h : Kept queueCapacity s t) :
    Kept queueCapacity s (answerToOffer i k v t) := by
  unfold Machine.answerToOffer
  split
  · exact .ite (h.clearTransfer.sendSettled offer_kept).removeOffered h
  · exact h

theorem Kept.judgeBind {n : Nat} {i : Identity} (h : Kept n s t) : Kept n s (judgeBind i t).1 := by
  unfold Machine.judgeBind
  split_ifs
  · exact h
  · exact h
  · split
    · exact h.modTr
    · split
      · exact h.putEntry.raiseBond
      · exact h

theorem Kept.takeBindAsk {i : Identity} (h : Kept queueCapacity s t) : Kept queueCapacity s (takeBindAsk i t) :=
  .ite h.judgeBind.offerAnyway h.offerAnyway

theorem Kept.takeBindReply {i : Identity} {v : Verdict} {r : Option Reason} {rate : Rate} {a b : Bool}
    (h : Kept queueCapacity s t) : Kept queueCapacity s (takeBindReply i v r rate a b t) := by
  unfold Machine.takeBindReply
  split
  · split
    · dsimp only
      split
      · exact h.withdrawWaiting.modOp.raise
      · exact h.withdrawWaiting.endRequest offer_kept
      · exact h.withdrawWaiting
    · exact h
  · exact h

theorem Kept.raiseOffered {n : Nat} {i : Fin 4} {a b : Identity} {m : Byte} (h : Kept n s t) :
    Kept n s (raiseOffered i a b m t) := h.raiseBond.raise

theorem Kept.makeOffered {n : Nat} {i : Fin 4} {a b : Identity} {m : Nat} (h : Kept n s t) :
    Kept n s (makeOffered i a b m t) := h.ensurePeer.putEntry.ensurePeer.putEntry

theorem Kept.takeOffer {i c : Identity} {m : Byte} {stamp : Nat} (h : Kept queueCapacity s t) :
    Kept queueCapacity s (takeOffer i c m stamp t) := by
  have refused (d : Identity) (r : Reason) : Kept queueCapacity s (refuseOffer d r t) := h.sendAnswer
  unfold Machine.takeOffer
  split_ifs
  · exact refused ..
  · exact refused ..
  · exact refused ..
  · split
    · unfold offerToEntry
      split_ifs
      · unfold renewOffer
        exact .ite h.ensurePeer.modOp.agePeers h.ensurePeer.modOp.agePeers.raise
      · exact h
      · exact h.ensurePeer.modOp.raiseOffered
      · exact refused ..
    · split
      · exact h.makeOffered.raiseOffered
      · exact refused ..

theorem Kept.takeSettled {n : Nat} {i : Identity} {o : SettledOutcome} (h : Kept n s t) : Kept n s (takeSettled i o t) := by
  unfold Machine.takeSettled
  split
  · split
    · exact (Kept.ite h.modOp.agePeers.leaveControl h.modOp.agePeers).raise
    · exact h.raise
  · exact h

theorem Kept.takeHalt {hd : Header} {o : Identity} {m c : Byte} {relay : Bool} (h : Kept queueCapacity s t) :
    Kept queueCapacity s (takeHalt hd o m c relay t) := by
  unfold Machine.takeHalt
  split
  · exact h
  · split
    · unfold knownHalt
      exact .ite ((Kept.ite h.suppressRelay h).haltNotice offer_kept) h
    · unfold newHalt
      have heard := (h.enterPair (o := o) (m := m)).raise (k := .haltHeard) (b := true) (i := o)
        (d := [m, scopeCode (haltScope hd), c, flagCode relay] ++ identityBytes hd.sender)
      have caused := heard.addHaltCause (sc := haltScope hd) (i := o)
      exact .ite ((Kept.ite (caused.relayHalt offer_kept) caused).haltNotice offer_kept) h.enterPair.raise

theorem Kept.takeEcho {n : Nat} {i : Identity} {q : Byte} {r : Rate} {p : List Byte} {stamp received : Nat}
    (h : Kept n s t) : Kept n s (takeEcho i q r p stamp received t) := by
  unfold Machine.takeEcho
  split
  · exact h.setProbe.raiseAt
  · exact h.raiseAt

theorem Kept.showConflict {n : Nat} {i : Identity} {stamp : Nat} (h : Kept n s t) : Kept n s (showConflict i stamp t) := by
  unfold Machine.showConflict
  split
  · exact h.same rfl
  · next c _ =>
    have set : Kept n s (t.setPeers { t.peers with conflict := some { deadline := stamp + conflictMs, id := i } }) :=
      h.same rfl
    exact set.faultLive

theorem Kept.learn {n : Nat} {f : Frame} {r : Rate} {stamp q : Nat} (h : Kept n s t) : Kept n s (learn f r stamp q t) := by
  unfold Machine.learn
  split
  · next p _ =>
    have updated : Kept n s (t.setEntries (t.peers.entries.map fun q' =>
        if q'.id = p.id then updatePeer q' f r stamp q else q')) := h.setEntries fun x => by simpa using x
    have shown := Kept.ite (p := conflicts p f.header = true) (updated.showConflict (i := p.id) (stamp := stamp)) updated
    exact .ite shown shown.refreshWake
  · exact .ite h.addPeer.refreshWake h.addPeer

/-- What an owner does with a frame keeps what `Kept` says. -/
def OwnerKept (owner : Owner) : Prop := ∀ stamp q u, Kept queueCapacity u (owner stamp q u)

theorem Kept.receive {owner : Owner} (ho : OwnerKept owner) {dev : Nat} {f : Frame} (h : Kept queueCapacity s t) :
    Kept queueCapacity s (receive dev f owner t) := by
  have activity {u : State} (k : Kept queueCapacity s u) : Kept queueCapacity s (frameActivity f u) :=
    .ite k.noteActivity.withdrawNotice k
  have read : Kept queueCapacity s (endReading t) := h.setModem.judgeView
  unfold Machine.receive
  split
  · unfold acceptFrame
    split
    · split
      · exact read.showConflict
      · unfold deliver
        exact .ite ((activity read.learn).trans (ho _ _ _)).judgeNotice read.learn
    · exact read
  · exact h

/-! ## Host commands -/

theorem Kept.prepare {n : Nat} {a : Prepared} (h : Kept n s t) : Kept n s (prepare a t) := h.same rfl

/-- A command's own rule keeps what `Kept` says. -/
def CommandKept (c : Command) : Prop := ∀ s, Kept queueCapacity s (c s).1

theorem Kept.runCommand {c : Command} (hc : CommandKept c) (h : Kept queueCapacity s t) :
    Kept queueCapacity s (runCommand c t) := (h.trans (hc t)).prepare

theorem Kept.takeCommand {c : Command} (hc : CommandKept c) {b : Bool} (h : Kept queueCapacity s t) :
    Kept queueCapacity s (takeCommand b c t) := by
  unfold Machine.takeCommand
  split
  · split
    · exact h.prepare
    · exact .ite (h.noteActivity.runCommand hc) h.noteActivity.prepare
    · exact h.noteActivity.withdrawNotice.runCommand hc
    · exact (h.wake offer_kept).runCommand hc
  · exact h

theorem Kept.rejectPacket {n : Nat} (h : Kept n s t) : Kept n s (rejectPacket t) := .ite h.prepare h

/-- A frame taken or refused. -/
theorem Kept.okOrBusy {o : Option State} (h : Kept queueCapacity s t)
    (ho : ∀ u, o = some u → Kept queueCapacity s u) : Kept queueCapacity s (okOrBusy o t).1 := by
  cases o with
  | none => exact h
  | some u => exact ho u rfl

/-- A frame offered, and what follows where it is taken. -/
theorem Kept.okOrBusy_map {o : Option State} {g : State → State} (h : Kept queueCapacity s t)
    (ho : ∀ u, o = some u → Kept queueCapacity s u)
    (hg : ∀ {u}, Kept queueCapacity s u → Kept queueCapacity s (g u)) :
    Kept queueCapacity s (Machine.okOrBusy (o.map g) t).1 :=
  h.okOrBusy fun u hu => by
    obtain ⟨v, hv, rfl⟩ := Option.map_eq_some_iff.mp hu
    exact hg (ho v hv)

/-- A command that is turned away changes nothing. -/
theorem Kept.turnedAway {n : Nat} {p : Prop} [Decidable p] {a : Prepared} {r : State × Prepared} (h : Kept n s r.1) :
    Kept n s (if p then (s, a) else r).1 := by
  split
  · exact .refl n s
  · exact h

theorem Kept.okOrBusy_sendRequest {i : Fin 4} {e : OpEntry} {b : ReqBody} :
    Kept queueCapacity s (Machine.okOrBusy (Machine.sendRequest offer i e b s) s).1 :=
  (Kept.refl _ s).okOrBusy fun _ hu => (Kept.refl _ s).sendRequest offer_kept hu

theorem Kept.sendTake {i : Fin 4} {e : OpEntry} {b : Bool} {u : State} (h : Kept queueCapacity s t)
    (hu : sendTake i e b t = some u) : Kept queueCapacity s u := by
  obtain ⟨v, hv, rfl⟩ := Option.map_eq_some_iff.mp hu
  exact (h.sendRequest offer_kept hv).modOp

theorem withBond_kept {rule : Fin 4 → OpEntry → Command} (hr : ∀ i e, CommandKept (rule i e)) (id : Identity) :
    CommandKept (withBond id rule) := by
  intro s
  unfold withBond
  refine .turnedAway (.turnedAway ?_)
  split
  · exact hr _ _ s
  · exact .refl _ s

theorem bindCommand_kept (id : Identity) : CommandKept (bindCommand id) := by
  intro s
  unfold bindCommand
  refine .turnedAway (.turnedAway (.turnedAway ?_))
  split
  · have ensured := (Kept.refl queueCapacity s).ensurePeer (i := id)
    exact ensured.okOrBusy fun u hu => ensured.putEntry.trans (offer_kept hu)
  · exact .refl _ s

theorem unbindRule_kept (i : Fin 4) (e : OpEntry) : CommandKept (unbindRule i e) :=
  fun _ => .turnedAway (.turnedAway .okOrBusy_sendRequest)

theorem takeRule_kept (i : Fin 4) (e : OpEntry) : CommandKept (takeRule i e) :=
  fun s => .turnedAway (.turnedAway (.turnedAway ((Kept.refl _ s).okOrBusy fun _ => (Kept.refl _ s).sendTake)))

theorem releaseRule_kept (i : Fin 4) (e : OpEntry) : CommandKept (releaseRule i e) :=
  fun _ => .turnedAway (.turnedAway .okOrBusy_sendRequest)

theorem resumeRule_kept (i : Fin 4) (e : OpEntry) : CommandKept (resumeRule i e) :=
  fun _ => .turnedAway (.turnedAway .okOrBusy_sendRequest)

theorem supersede_kept (i : Fin 4) (e : OpEntry) (q : Request) (r : MoveRecord) : CommandKept (supersede i e q r) := by
  intro s
  have unchanged := Kept.refl queueCapacity s
  unfold supersede
  dsimp only
  split
  · next ht =>
    split at ht
    · exact (unchanged.replaceWhere ht).modReq.raiseOutcome
    · cases ht
  · split
    · next ht => exact (unchanged.sendRequest offer_kept ht).withdrawWaiting.raiseOutcome
    · exact unchanged

theorem moveRule_kept (r : MoveRecord) (i : Fin 4) (e : OpEntry) : CommandKept (moveRule r i e) := by
  intro s
  unfold moveRule
  refine .turnedAway ?_
  split
  · split
    · exact supersede_kept _ _ _ _ s
    · exact .refl _ s
  · exact .okOrBusy_sendRequest

theorem moveCommand_kept (id : Identity) (w : BitVec 16) : CommandKept (moveCommand id w) := by
  intro s
  unfold moveCommand
  split
  · exact withBond_kept (moveRule_kept _) _ s
  · exact .refl _ s

theorem handoverRule_kept (target : Identity) (i : Fin 4) (e : OpEntry) : CommandKept (handoverRule target i e) := by
  intro s
  have unchanged := Kept.refl queueCapacity s
  exact .turnedAway (.turnedAway (unchanged.okOrBusy_map
    (fun _ => unchanged.ensurePeer.sendRequest offer_kept) fun h => h.modOp))

theorem handoverCommand_kept (id target : Identity) : CommandKept (handoverCommand id target) :=
  fun s => .turnedAway (withBond_kept (handoverRule_kept target) id s)

theorem acceptRule_kept (i : Fin 4) (e : OpEntry) : CommandKept (acceptRule i e) := by
  intro s
  have unchanged := Kept.refl queueCapacity s
  exact .turnedAway (.turnedAway (unchanged.okOrBusy_map (fun _ => unchanged.sendTake) fun h => h.agePeers))

theorem Kept.endOffer {n : Nat} {i : Fin 4} {e : OpEntry} {c : BondCause} (h : Kept n s t) : Kept n s (endOffer i e c t) :=
  .ite h.freeEntry.raiseBond h.modOp.agePeers.raiseBond

theorem declineRule_kept (i : Fin 4) (e : OpEntry) : CommandKept (declineRule i e) :=
  fun s => .turnedAway ((Kept.refl _ s).okOrBusy_map (fun _ hu => offer_kept hu) fun h => h.endOffer)

theorem Kept.withdrawCopy {n : Nat} (h : Kept n s t) : Kept n s (withdrawCopy t) := by
  unfold Machine.withdrawCopy
  split
  · exact h.withdraw
  · exact h

theorem haltCommand_kept (code : Byte) : CommandKept (haltCommand code) := by
  intro s
  have unchanged := Kept.refl queueCapacity s
  unfold haltCommand
  split
  · next sc _ =>
    refine .turnedAway (unchanged.okOrBusy_map (fun u hu => ?_)
      fun h => h.enterPair.addHaltCause.haltNotice offer_kept)
    have sending : Kept queueCapacity s ((Machine.withdrawCopy s).setHalt { (Machine.withdrawCopy s).halt with
        own := .sending s.nextHaltNumber sc 0, counter := some s.nextHaltNumber }) := unchanged.withdrawCopy.same rfl
    exact sending.trans (offer_kept hu)
  · exact unchanged

theorem talkCommand_kept (code : Byte) : CommandKept (talkCommand code) := by
  intro s
  have unchanged := Kept.refl queueCapacity s
  unfold talkCommand
  split
  · exact unchanged
  · refine .turnedAway ?_
    split
    · exact unchanged
    · exact unchanged
    · exact unchanged
    · exact unchanged.okOrBusy_map (fun u hu => offer_kept hu) fun h => h.setFloorState

theorem talkEndCommand_kept : CommandKept talkEndCommand := by
  intro s
  have unchanged := Kept.refl queueCapacity s
  unfold talkEndCommand
  split
  · split
    · exact unchanged.endSpurt offer_kept
    · exact unchanged
  · split
    · exact unchanged.withdraw.setFloorState
    · exact unchanged.withdraw.setFloorState
    · exact unchanged
  · exact unchanged
  · exact unchanged
  · exact unchanged

theorem noteCommand_kept (m : Byte) (d : BitVec 24) (text : List Byte) : CommandKept (noteCommand m d text) := by
  intro s
  unfold noteCommand
  split
  · exact .refl _ s
  · exact .turnedAway ((Kept.refl _ s).okOrBusy fun _ hu => offer_kept hu)

theorem probeCommand_kept (id : Identity) (p : List Byte) : CommandKept (probeCommand id p) :=
  fun s => .turnedAway (.turnedAway ((Kept.refl _ s).okOrBusy_map (fun _ hu => offer_kept hu) fun h => h.setProbe))

/-- A test that is not STOPLINE leaves the stop path alone; STOPLINE starts with a non-empty set (R177). -/
theorem testCommand_kept (code : Byte) : CommandKept (testCommand code) := by
  intro s
  have unchanged := Kept.refl queueCapacity s
  have running (r : RunningTest) (h : ∀ start pos failed, r ≠ .stopline start pos failed ∨ s.stop.causes ≠ 0) :
      Kept queueCapacity s (s.setRunning (some r)) := by
    refine ⟨rfl, rfl, rfl, fun hs => ⟨hs.1, ?_⟩, id, id, id, id, id, id⟩
    rintro ⟨start, pos, failed, hr⟩
    exact (h start pos failed).resolve_left fun ne => ne (Option.some.inj hr)
  unfold testCommand
  refine .turnedAway (.turnedAway (.turnedAway ?_))
  split
  · split
    · have started : Kept queueCapacity s (s.setRunning (some (.loop s.now s.loopFrame))) := running _ (by simp)
      exact started.setModem.judgeView
    · exact unchanged
  · split
    · refine .turnedAway ?_
      split
      · next may => exact running _ fun _ _ _ => Or.inr (by simp [State.mayStopline] at may; exact may.1)
      · exact unchanged
    · exact running _ (by simp)

theorem clearTestCommand_kept : CommandKept clearTestCommand := by
  intro s
  unfold clearTestCommand
  split
  · exact .refl _ s
  · have cleared : Kept queueCapacity s (s.setTest { s.test with loop := .notRun, stopline := .notRun, timer := .notRun }) :=
      (Kept.refl _ s).same rfl
    have ended := Kept.ite (p := s.test.loop = .fail) (cleared.faultEnd (c := .loopFail) (i := noSubject)) cleared
    exact .ite ended.faultEnd ended

theorem configureCommand_kept (p : ConfigParams) : CommandKept (configureCommand p) := by
  intro s
  unfold configureCommand
  split
  · split
    · next c _ =>
      have configured : Kept queueCapacity s (setSelects c.selects (s.setLife { s.life with config := some c })) :=
        (Kept.refl _ s).same rfl
      exact configured.judgeSrq
    · exact .refl _ s
  · exact .refl _ s

theorem startCommand_kept : CommandKept startCommand := by
  intro s
  have changed {u : State} (h : Kept queueCapacity s u) : Kept queueCapacity s (startChange u) :=
    .ite h.changeCauses h.changeCauses
  unfold startCommand
  split
  · exact .turnedAway (changed (Kept.refl _ s).setLife).judgeDisagree
  · exact .refl _ s

theorem readPeerCommand_kept (m : Byte) : CommandKept (readPeerCommand m) := by
  intro s
  unfold readPeerCommand
  refine .turnedAway ?_
  split <;> exact .refl _ s

theorem readBondCommand_kept (m : Byte) : CommandKept (readBondCommand m) := by
  intro s
  unfold readBondCommand
  split <;> exact .refl _ s

theorem fetchCommand_kept : CommandKept fetchCommand := by
  intro s
  unfold fetchCommand
  split <;> exact .refl _ s

/-! ## The station's own events -/

theorem Kept.carrierUp {n : Nat} (h : Kept n s t) : Kept n s (carrierUp t) := by
  have raised : Kept n s (t.setPins { t.pins with cdet := true }) := h.same rfl
  exact (Kept.ite raised.setSpell raised).judgeView

theorem Kept.carrierDown {n : Nat} (h : Kept n s t) : Kept n s (carrierDown t) := by
  have fallen : Kept n s (t.setPins { t.pins with cdet := false }) := h.same rfl
  have viewed := fallen.setModem (x := .hunting) |>.setSpell (x := none) |>.judgeView
  exact .ite viewed.jamEnded viewed

theorem Kept.tellSent {a : OnAir} {tag : Option OwnerTag} (h : Kept queueCapacity s t) :
    Kept queueCapacity s (tellSent a tag t) := by
  unfold Machine.tellSent
  split
  · exact h.voiceSent offer_kept
  · exact h.ownerSent offer_kept
  · exact h

theorem Kept.becomeEligible (h : Kept queueCapacity s t) : Kept queueCapacity s (becomeEligible t) := by
  have marked := h.shrinkQueue (q := t.chan.queue.map (fun e => if newlyEligible t e then { e with eligibleTaken := true }
    else e)) (by simp)
  exact .ite marked.classZeroArrival marked

theorem Kept.endWait {k : WaitKind} {i : Fin 4} (h : Kept queueCapacity s t) : Kept queueCapacity s (endWait k i t) :=
  .ite (h.noAnswerYet offer_kept) h

theorem Kept.ageStandby {i : Fin 4} {e : TrEntry} (h : Kept queueCapacity s t) : Kept queueCapacity s (ageStandby i e t) :=
  h.freeEntry.raiseBond.clearIfTarget.runSequel

theorem Kept.judgeSilence {n : Nat} {i : Fin 4} (h : Kept n s t) : Kept n s (judgeSilence i t) := by
  unfold Machine.judgeSilence
  split
  · split
    · exact .ite h.modOp.raiseBond h.modOp.raiseBond.faultLive
    · exact h
  · exact h

theorem Kept.judgeLoss {n : Nat} {i : Fin 4} (h : Kept n s t) : Kept n s (judgeLoss i t) := by
  unfold Machine.judgeLoss
  split
  · split
    · exact (Kept.ite h.modTr.addCause h.modTr.addCause.faultLive).raiseBond
    · exact h
  · exact h

theorem Kept.abandon {n : Nat} {i : Fin 4} {e : TrEntry} (h : Kept n s t) : Kept n s (abandon i e t) :=
  h.detachTransfer.freeEntry.raiseBond.addUnattended.endLinkIfLost

theorem Kept.repeatOffer {x : Transfer} (h : Kept queueCapacity s t) : Kept queueCapacity s (repeatOffer x t) :=
  .ite (h.sendOffer offer_kept) h.modTransfer

theorem Kept.lapseTransfer {x : Transfer} (h : Kept queueCapacity s t) : Kept queueCapacity s (lapseTransfer x t) :=
  (h.clearTransfer.sendSettled offer_kept).removeOffered

theorem Kept.followTest {n : Nat} {c : Condition} {b : Bool} (h : Kept n s t) : Kept n s (followTest c b t) :=
  .ite h.faultEnd h.faultLive

theorem Kept.raiseTestDone {n : Nat} {a b c : Byte} {d : Bool} (h : Kept n s t) : Kept n s (raiseTestDone a b c d t) :=
  h.raise

theorem Kept.endLoop {n : Nat} {a b c : Bool} (h : Kept n s t) : Kept n s (endLoop a b c t) :=
  (h.setTest (by simp)).setModem.followTest.raiseTestDone

theorem Kept.endStopline {n : Nat} {f : Option Nat} (h : Kept n s t) : Kept n s (endStopline f t) := by
  unfold Machine.endStopline
  have ended := (h.setTest (x := { t.test with running := none, stopline := resultOf f.isNone
                                               gate := t.test.gate || f.isNone }) (by simp)).followTest
    (c := .stopFail) (b := f.isNone)
  exact (Kept.ite ended.removeCause ended.addCause).raiseTestDone

theorem Kept.endTimer {n m : Nat} (h : Kept n s t) : Kept n s (endTimer m t) := (h.setTest (by simp)).raiseTestDone

/-- A moment of STOPLINE drives lines that carry stop before and after, since the set is non-empty (R177). -/
theorem stoplineStep_kept {start pos : Nat} {failed failed' : Option Nat}
    (hr : s.test.running = some (.stopline start pos failed)) :
    Kept queueCapacity s ((s.setStop (stoplineDrive pos s.stop)).setRunning (some (.stopline start (pos + 1) failed'))) := by
  have causes : (stoplineDrive pos s.stop).causes = s.stop.causes := by
    unfold stoplineDrive
    split <;> rfl
  refine ⟨rfl, rfl, rfl, fun ⟨follow, runs⟩ => ?_, id, id, id, id, id, id⟩
  have nonempty := runs ⟨start, pos, failed, hr⟩
  have carried := follow.2 nonempty
  refine ⟨⟨fun h => absurd (causes.symm.trans h) nonempty, fun _ => ?_⟩, fun _ => causes.symm ▸ nonempty⟩
  simp only [setRunning_eq, State.setTest_stop, State.setStop_stop]
  unfold stoplineDrive
  split
  · exact ⟨rfl, rfl⟩
  · exact ⟨rfl, rfl⟩
  · exact ⟨rfl, rfl⟩
  · exact ⟨rfl, rfl⟩
  · exact carried

theorem Kept.endStrobe {n k : Nat} {a b : Bool} (h : Kept n s t) : Kept n s (endStrobe k a b t) :=
  .ite (.ite h.completePresentation h.setPort) h.setPort

theorem Kept.acknowledge {n : Nat} (h : Kept n s t) : Kept n s (acknowledge t) := by
  unfold Machine.acknowledge
  split
  · exact h.setPort
  · exact h.setPort
  · exact h

theorem Kept.released {n : Nat} (h : Kept n s t) : Kept n s (released t) := by
  unfold Machine.released
  split
  · exact h.setPort
  · exact h.completePresentation
  · exact h.recoverPort
  · exact h

theorem Kept.takeSample {n : Nat} {x : InputSample} (h : Kept n s t) : Kept n s (takeSample x t) := by
  cases x with
  | still b => exact h.setPort.judgeDisagree
  | ready b => exact h.setPort
  | speed b => exact h.setPort

end

/-! ## Every command -/

/-- A command answers a next state, and that is one that keeps, or the reset of the part. -/
def Answers (c : Instr) (s : State) (o : Host.Outcome State Fault Refusal) : Prop :=
  ∃ t, o = .next t ∧ (Kept queueCapacity s t ∨ t = afterReset s ∧ (c = .resetn ∨ c = .reset))

section
variable {c : Instr} {s t : State}

theorem Answers.kept (h : Kept queueCapacity s t) : Answers c s (.next t) := ⟨t, rfl, .inl h⟩

theorem Answers.unchanged : Answers c s (.next s) := .kept (.refl _ s)

/-- An event that acts when it is due. -/
theorem Answers.due {p : Prop} [Decidable p] (h : Kept queueCapacity s t) : Answers c s (.next (if p then t else s)) :=
  .kept (.ite h (.refl _ s))

theorem Answers.command {k : Command} (hk : CommandKept k) {b : Bool} : Answers c s (.next (takeCommand b k s)) :=
  .kept ((Kept.refl _ s).takeCommand hk)

theorem Answers.frame {owner : Owner} (ho : OwnerKept owner) {dev : Nat} {f : Frame} :
    Answers c s (.next (receive dev f owner s)) := .kept ((Kept.refl _ s).receive ho)

end

theorem exec_answers (c : Instr) (s : State) : Answers c s (exec c s) := by
  have unchanged := Kept.refl queueCapacity s
  have asIs (k : Command) (h : ∀ u, (k u).1 = u) : CommandKept k := fun u => (h u).symm ▸ Kept.refl _ u
  cases c with
  | resetn => exact ⟨_, rfl, .inr ⟨rfl, .inl rfl⟩⟩
  | initEnd => exact .due (unchanged.same rfl)
  | hselActive => exact .kept (.ite unchanged (unchanged.same rfl))
  | hselInactive => exact .kept (unchanged.same rfl)
  | answerReady =>
    refine .kept ?_
    split
    · exact unchanged.same rfl
    · exact unchanged
  | fetchRecordRemoved =>
    refine .kept ?_
    split
    · exact Kept.judgeSrq (unchanged.setHost fun x => (List.drop_sublist 1 _).length_le.trans x)
    · exact unchanged
  | unknownCommand code params => exact .kept (.ite unchanged unchanged.rejectPacket)
  | readId => exact .command (asIs _ fun _ => rfl)
  | configure params => exact .command (configureCommand_kept params)
  | start => exact .command startCommand_kept
  | reset =>
    show Answers .reset s (execReset s)
    unfold execReset
    split
    · split
      · exact .kept unchanged.prepare
      · exact ⟨_, rfl, .inr ⟨rfl, .inr rfl⟩⟩
    · exact .unchanged
  | bind traction => exact .command (bindCommand_kept traction)
  | unbind traction => exact .command (withBond_kept unbindRule_kept traction)
  | take traction => exact .command (withBond_kept takeRule_kept traction)
  | release traction => exact .command (withBond_kept releaseRule_kept traction)
  | move traction record => exact .command (moveCommand_kept traction record)
  | resume traction => exact .command (withBond_kept resumeRule_kept traction)
  | handover traction target => exact .command (handoverCommand_kept traction target)
  | accept traction => exact .command (withBond_kept acceptRule_kept traction)
  | decline traction => exact .command (withBond_kept declineRule_kept traction)
  | halt scope => exact .command (haltCommand_kept scope)
  | localStop => exact .command fun u => by split <;> [exact (Kept.refl _ u).addCause; exact .refl _ u]
  | localClear => exact .command fun u => by split <;> [exact (Kept.refl _ u).removeCause; exact .refl _ u]
  | talk scope => exact .command (talkCommand_kept scope)
  | talkEnd => exact .command talkEndCommand_kept
  | note mode dest text =>
    exact .kept (.ite (unchanged.takeCommand (noteCommand_kept mode dest text)) unchanged.rejectPacket)
  | probe target pattern =>
    exact .kept (.ite (unchanged.takeCommand (probeCommand_kept target pattern)) unchanged.rejectPacket)
  | test code => exact .command (testCommand_kept code)
  | clearTest => exact .command clearTestCommand_kept
  | clearHeld => exact .command fun u => (Kept.refl _ u).same rfl
  | readState => exact .command (asIs _ fun _ => rfl)
  | readPeer index => exact .command (readPeerCommand_kept index)
  | readBond slot => exact .command (readBondCommand_kept slot)
  | fetch => exact .command fetchCommand_kept
  | cdetActive => exact .kept (.ite unchanged unchanged.carrierUp)
  | cdetInactive => exact .due unchanged.carrierDown
  | rateLock =>
    refine .kept ?_
    split
    · exact .ite (unchanged.setModem.wake offer_kept) unchanged
    · exact unchanged
  | huntFailed cause =>
    refine .kept ?_
    split
    · exact .ite unchanged.setModem unchanged
    · exact .ite unchanged.setModem unchanged
    · exact unchanged
  | syncWordFound samples =>
    refine .kept ?_
    split
    · exact .ite unchanged.setModem.judgeView unchanged
    · exact unchanged
  | failedFrame cause => exact .due unchanged.setModem.judgeView
  | malformedFrame bytes => exact .due unchanged.setModem.judgeView
  | haltFrame dev header originator number copy relay => exact .frame fun _ _ u => (Kept.refl _ u).takeHalt
  | moveFrame dev header record => exact .frame fun _ _ u => (Kept.refl _ u).takeRequest (judgeMove_kept _ _)
  | checkFrame dev header number units => exact .frame fun _ _ u => (Kept.refl _ u).takeCheck
  | statusFrame dev header fields => exact .frame fun _ _ u => (Kept.refl _ u).takeStatus
  | answerFrame dev header kind seq verdict reason =>
    exact .frame fun _ _ u => .ite (Kept.refl _ u).answerToOffer (Kept.refl _ u).answerToRequest
  | resumeFrame dev header => exact .frame fun _ _ u => (Kept.refl _ u).takeRequest (judgeResumeOf_kept _)
  | bindAskFrame dev header => exact .frame fun _ _ u => (Kept.refl _ u).takeBindAsk
  | bindReplyFrame dev header verdict reason rate standstill controlled =>
    exact .frame fun _ _ u => .ite (.refl _ u) (Kept.refl _ u).takeBindReply
  | takeFrame dev header units byTransfer =>
    refine .frame fun _ _ u => (Kept.refl _ u).takeRequest ?_
    split
    · exact judgeTransferTake_kept _ _
    · exact judgeTake_kept _ _
  | releaseFrame dev header unbind => exact .frame fun _ _ u => (Kept.refl _ u).takeRequest (judgeRelease_kept _ _)
  | handoverFrame dev header target => exact .frame fun _ _ u => (Kept.refl _ u).takeRequest (judgeHandover_kept _ _)
  | offerFrame dev header controller seconds => exact .frame fun _ _ u => (Kept.refl _ u).takeOffer
  | settledFrame dev header outcome => exact .frame fun _ _ u => (Kept.refl _ u).takeSettled
  | claimFrame dev header scope => exact .frame fun _ _ u => (Kept.refl _ u).hearSpeech
  | clearFrame dev header sent => exact .frame fun _ _ u => (Kept.refl _ u).hearClear
  | voiceFrame dev header number block => exact .frame fun _ _ u => (Kept.refl _ u).hearSpeech
  | noteFrame dev header text => exact .frame fun _ _ u => (Kept.refl _ u).postReport
  | probeFrame dev header pattern => exact .frame fun _ _ u => (Kept.refl _ u).offerAnyway
  | echoFrame dev header quality rate pattern => exact .frame fun _ _ u => (Kept.refl _ u).takeEcho
  | presentFrame dev header => exact .frame fun _ _ u => (Kept.refl _ u).raiseDormancy
  | dormantFrame dev header => exact .frame fun _ _ u => (Kept.refl _ u).raiseDormancy
  | keyFrame =>
    refine .kept ?_
    split
    · exact .ite unchanged.keyCandidate unchanged
    · exact unchanged
  | leadEnd =>
    refine .kept ?_
    split
    · exact .ite (unchanged.same rfl) unchanged
    · exact unchanged
  | wakePreambleEnd =>
    refine .kept ?_
    split
    · exact .ite (unchanged.same rfl) unchanged
    · exact unchanged
  | frameSent =>
    refine .kept ?_
    split
    · exact .ite unchanged.leaveAir.tellSent unchanged
    · exact unchanged
  | entryEligible => exact .due unchanged.becomeEligible
  | jamDetected =>
    refine .kept ?_
    split
    · exact .ite unchanged.setSpell.jamLive unchanged
    · exact unchanged
  | disagreeTimeout => exact .due unchanged.faultLive
  | peerAgeOut peer => exact .due (unchanged.setEntries fun x => (List.length_filter_le ..).trans x)
  | conflictDeadline =>
    refine .kept ?_
    split
    · have cleared : Kept queueCapacity s (s.setPeers { s.peers with conflict := none }) := unchanged.same rfl
      exact .ite cleared.faultEnd unchanged
    · exact unchanged
  | probeTimeout =>
    refine .kept ?_
    split
    · exact .ite unchanged.endProbe unchanged
    · exact unchanged
  | bindWaitExpiry slot => exact .kept unchanged.endWait
  | standbyAgeOut slot =>
    refine .kept ?_
    split
    · exact .ite unchanged.ageStandby unchanged
    · exact unchanged
  | answerWaitExpiry slot => exact .kept unchanged.endWait
  | retryWaitExpiry slot => exact .kept unchanged.endWait
  | checkDue slot => exact .due (unchanged.modOp.judgeSilence.makeCheck offer_kept)
  | periodClose slot => exact .due unchanged.modSup.judgeLoss
  | abandon slot =>
    refine .kept ?_
    split
    · exact .ite unchanged.abandon unchanged
    · exact unchanged
  | offerRepeat =>
    refine .kept ?_
    split
    · exact .ite unchanged.repeatOffer unchanged
    · exact unchanged
  | transferLapse =>
    refine .kept ?_
    split
    · exact .ite unchanged.lapseTransfer unchanged
    · exact unchanged
  | offerExpiry slot =>
    refine .kept ?_
    split
    · exact .ite unchanged.endOffer unchanged
    · exact unchanged
  | haltMemoryExpiry originator number =>
    refine .kept ?_
    split
    · exact .ite unchanged.forgetPair unchanged
    · exact unchanged
  | strobeStart => exact .due unchanged.setPort
  | strobeEnd =>
    refine .kept ?_
    split
    · exact .ite unchanged.endStrobe unchanged
    · exact unchanged
  | tackRise => exact .kept (.ite unchanged unchanged.setPins.acknowledge)
  | tackFall => exact .due unchanged.setPins.released
  | ackLimitExpiry => exact .due unchanged.failPort
  | releaseLimitExpiry => exact .due unchanged.failPort
  | inputSampled sample => exact .due unchanged.takeSample
  | audioFrameBoundary codec => exact .due unchanged.passBoundary
  | floorTimeout => exact .due unchanged.setFloorState
  | dormancyDelayExpiry =>
    show Answers .dormancyDelayExpiry s (execDormancyDelayExpiry s)
    unfold execDormancyDelayExpiry
    split
    · split
      · next ht => exact .kept (offer_kept ht).setNotice
      · exact .unchanged
    · exact .unchanged
  | sniffWindowOpen =>
    refine .kept ?_
    split
    · exact .ite unchanged.setLife unchanged
    · exact unchanged
  | sniffWindowClose => exact .due unchanged.setLife.setModem
  | loopTestEnd full half quarter =>
    refine .kept ?_
    split
    · exact .ite unchanged.endLoop unchanged
    · exact unchanged
  | stoplineStep aStop bStop =>
    refine .kept ?_
    split
    · next hr => exact .ite (stoplineStep_kept hr) unchanged
    · exact unchanged
  | stoplineTestEnd =>
    refine .kept ?_
    split
    · exact .ite unchanged.endStopline unchanged
    · exact unchanged
  | timerTestEnd =>
    refine .kept ?_
    split
    · exact .ite unchanged.endTimer unchanged
    · exact unchanged
  | reportTimeout => exact .kept unchanged.judgeSrq
  | preambleBitMeasured us => exact .due unchanged.setModem

/-- Settles O4: every meaning of the table is a `.next`. -/
theorem noCommandStops : Obligations.NoCommandStops := by
  intro c s
  obtain ⟨t, h, -⟩ := exec_answers c s
  exact ⟨t, h⟩

/-- Settles O3: a change that keeps leaves queue, identity and clock as they are, and a reset sets the clock alone. -/
theorem execKeepsQueueIdentityAndClock : Obligations.ExecKeepsQueueIdentityAndClock := by
  intro c s t h
  obtain ⟨u, hu, kept | ⟨rfl, reset⟩⟩ := exec_answers c s <;> obtain rfl := Host.Outcome.next.inj (h.symm.trans hu)
  · exact ⟨kept.pending, kept.unitId, .inl kept.now⟩
  · exact ⟨rfl, rfl, .inr ⟨rfl, reset⟩⟩

/-! ## Reset -/

theorem stopPathSafe_of_reset {s : State} (hu : s.stop = StopUnit.reset) (ht : s.test = TestUnit.reset) :
    StopPathSafe s := by
  unfold StopPathSafe StopLinesFollow StoplineRuns
  rw [hu, ht]
  exact ⟨by decide, by simp [TestUnit.reset]⟩

theorem stopPathSafe_afterReset (s : State) : StopPathSafe (afterReset s) := stopPathSafe_of_reset rfl rfl

theorem withinCapacities_afterReset (s : State) : WithinCapacities (afterReset s) := by
  refine ⟨?_, ?_, ?_, ?_, ?_, ?_⟩ <;> exact Nat.zero_le _

/-- Settles O6: at reset UNSTARTED asserts both lines, no test runs, and every queue, table and buffer is empty. -/
theorem invariantsHoldAtReset : Obligations.InvariantsHoldAtReset := by
  refine ⟨stopPathSafe_of_reset rfl rfl, ⟨?_, ?_, ?_, ?_, ?_, ?_⟩, rfl⟩ <;> exact Nat.zero_le _

/-! ## Every step -/

theorem Kept.withinCapacities {s t : State} (h : Kept queueCapacity s t) (hs : WithinCapacities s) : WithinCapacities t := by
  obtain ⟨queue, reports, peers, memory, outlet, playout⟩ := hs
  exact ⟨h.queue queue, h.reports reports, h.peers peers, h.memory memory, h.outlet outlet, h.playout playout⟩

/-- A step keeps what every command and a tick keep and a reset brings about. -/
theorem step_keeps {P : State → Prop} (queue : ∀ s q, P s → P (s.setPending q)) (tick_ : ∀ s, P s → P (tick s))
    (kept : ∀ s t, Kept queueCapacity s t → P s → P t) (reset : ∀ s, P (afterReset s)) {s t : State} (hs : P s)
    (h : step s = .next t) : P t := by
  have run (c : Instr) (u : State) (hu : P u) (he : exec c u = .next t) : P t := by
    obtain ⟨v, hv, k | ⟨rfl, -⟩⟩ := exec_answers c u <;> obtain rfl := Host.Outcome.next.inj (he.symm.trans hv)
    · exact kept _ _ k hu
    · exact reset u
  unfold step at h
  split at h
  · exact run _ _ (queue _ _ hs) h
  · unfold idle at h
    split at h
    · exact run _ _ hs h
    · exact Host.Outcome.next.inj h ▸ tick_ s hs

/-- Settles O7: a change of the set drives the lines, a STOPLINE test runs and drives only under a non-empty set, and nothing
else touches lines, set or a running STOPLINE test. -/
theorem stepKeepsStopLinesWithCauses : Obligations.StepKeepsStopLinesWithCauses := by
  intro s t hs h
  exact step_keeps (P := StopPathSafe) (fun _ _ hs => hs.congr rfl rfl) (fun _ hs => hs.congr rfl rfl)
    (fun _ _ k => k.stop) stopPathSafe_afterReset hs h

/-- Settles O8: whatever adds to a queue, a table or a buffer makes room first or turns the newcomer away. -/
theorem stepKeepsCapacities : Obligations.StepKeepsCapacities := by
  intro s t hs h
  exact step_keeps (P := WithinCapacities) (fun _ _ hs => hs) (fun _ hs => hs) (fun _ _ => Kept.withinCapacities)
    withinCapacities_afterReset hs h

/-- Settles O1: it is the first case of a step. -/
theorem stepRunsFrontCommand : Obligations.StepRunsFrontCommand := by
  intro c rest s h
  unfold step
  rw [h]

end Sys2Proof.Machine
end

section
/-! PROOFS. The idle step (O2). -/

namespace Sys2Proof.Machine

section
variable {s : State} {c : Instr}

/-! ## What the lists of events hold is due -/

theorem due_of_airDue (h : some c ∈ airDue s) : Due s c := by
  simp only [airDue, List.mem_cons, List.not_mem_nil, or_false, some_eq_dueIf] at h
  rcases h with ⟨h, rfl⟩ | ⟨h, rfl⟩ | ⟨h, rfl⟩ | ⟨h, rfl⟩ | ⟨h, rfl⟩ | ⟨h, rfl⟩ | ⟨h, rfl⟩
  · exact (initEndDue_iff s).mp h
  · exact (lockDue_iff s).mp h
  · exact (leadEndDue_iff s).mp h
  · exact (wakePreambleEndDue_iff s).mp h
  · exact (frameSentDue_iff s).mp h
  · exact (entryEligibleDue_iff s).mp h
  · exact (jamDue_iff s).mp h

theorem due_of_portDue (h : some c ∈ portDue s) : Due s c := by
  simp only [portDue, List.mem_cons, List.not_mem_nil, or_false, some_eq_dueIf] at h
  rcases h with ⟨h, rfl⟩ | ⟨h, rfl⟩ | ⟨h, rfl⟩ | ⟨h, rfl⟩
  · exact (strobeStartDue_iff s).mp h
  · exact (strobeEndDue_iff s).mp h
  · exact (ackLimitDue_iff s).mp h
  · exact (releaseLimitDue_iff s).mp h

theorem due_of_testsDue (h : some c ∈ testsDue s) : Due s c := by
  simp only [testsDue, List.mem_cons, List.not_mem_nil, or_false, some_eq_dueIf] at h
  rcases h with ⟨h, rfl⟩ | ⟨h, rfl⟩ | ⟨h, rfl⟩ | ⟨h, rfl⟩
  · exact (loopDue_iff _ _ _ s).mp h
  · exact (stoplineStepDue_iff _ _ s).mp h
  · exact (stoplineEndDue_iff s).mp h
  · exact (timerDue_iff s).mp h

theorem due_of_slotDue {i : Fin 4} (h : some c ∈ slotDue s i) : Due s c := by
  simp only [slotDue, List.mem_cons, List.not_mem_nil, or_false, some_eq_dueIf] at h
  rcases h with ⟨h, rfl⟩ | ⟨h, rfl⟩ | ⟨h, rfl⟩ | ⟨h, rfl⟩ | ⟨h, rfl⟩ | ⟨h, rfl⟩ | ⟨h, rfl⟩ | ⟨h, rfl⟩
  · exact (bindWait_iff i s).mp h
  · exact (answerWait_iff i s).mp h
  · exact (retryWait_iff i s).mp h
  · exact (standbyAgeDue_iff i s).mp h
  · exact (checkIsDue_iff i s).mp h
  · exact (periodDue_iff i s).mp h
  · exact (abandonDue_iff i s).mp h
  · exact (offerExpiryDue_iff i s).mp h

theorem due_of_agesDue (h : some c ∈ agesDue s) : Due s c := by
  simp only [agesDue, List.mem_append, List.mem_map, dueIf_eq_some] at h
  rcases h with ⟨p, hp, aged, rfl⟩ | ⟨e, he, expired, rfl⟩
  · exact (agedOut_iff _ s).mp ⟨p, hp, aged, rfl⟩
  · exact (pairOver_iff _ _ s).mp ⟨e, he, expired, rfl, rfl⟩

theorem due_of_lateDue (h : some c ∈ lateDue s) : Due s c := by
  simp only [lateDue, List.mem_cons, List.not_mem_nil, or_false, some_eq_dueIf] at h
  rcases h with ⟨h, rfl⟩ | ⟨h, rfl⟩ | ⟨h, rfl⟩ | ⟨h, rfl⟩ | ⟨h, rfl⟩ | ⟨h, rfl⟩ | ⟨h, rfl⟩ | ⟨h, rfl⟩ | ⟨h, rfl⟩
    | ⟨h, rfl⟩ | ⟨h, rfl⟩ | ⟨h, rfl⟩ | ⟨h, rfl⟩
  · exact (disagreeDue_iff s).mp h
  · exact (conflictDue_iff s).mp h
  · exact (probeDue_iff s).mp h
  · exact (offerRepeatDue_iff s).mp h
  · exact (transferLapseDue_iff s).mp h
  · exact (boundaryDue_iff _ s).mp h
  · exact (floorDue_iff s).mp h
  · exact (windowCloseDue_iff s).mp h
  · exact (windowOpenDue_iff s).mp h
  · exact (answerDue_iff s).mp h
  · exact (reportDue_iff s).mp h
  · exact (keyDue_iff s).mp h
  · exact (dormancyDue_iff s).mp h

theorem due_of_nextEvent (h : nextEvent s = some c) : Due s c := by
  have listed := mem_of_firstDue h
  simp only [List.mem_append, List.mem_flatMap] at listed
  rcases listed with ((((h | h) | h) | ⟨i, -, h⟩) | h) | h
  · exact due_of_airDue h
  · exact due_of_portDue h
  · exact due_of_testsDue h
  · exact due_of_slotDue h
  · exact due_of_agesDue h
  · exact due_of_lateDue h

/-! ## What is due stands in one of the lists -/

/-- The lists of the station's own events hold a command. -/
def Listed (s : State) (c : Instr) : Prop :=
  some c ∈ airDue s ∨ some c ∈ portDue s ∨ some c ∈ testsDue s ∨ (∃ i, some c ∈ slotDue s i) ∨ some c ∈ agesDue s
    ∨ some c ∈ lateDue s

theorem not_listed_of_nextEvent (h : nextEvent s = none) : ¬ Listed s c := by
  have absent := not_mem_of_firstDue_none h c
  simp only [List.mem_append, List.mem_flatMap, not_or] at absent
  obtain ⟨⟨⟨⟨⟨air, port⟩, tests⟩, slots⟩, ages⟩, late⟩ := absent
  rintro (h | h | h | ⟨i, h⟩ | h | h)
  · exact air h
  · exact port h
  · exact tests h
  · exact slots ⟨i, mem_allSlots i, h⟩
  · exact ages h
  · exact late h

theorem Listed.air (h : some c ∈ airDue s) : Listed s c := .inl h
theorem Listed.port (h : some c ∈ portDue s) : Listed s c := .inr (.inl h)
theorem Listed.tests (h : some c ∈ testsDue s) : Listed s c := .inr (.inr (.inl h))
theorem Listed.slot (i : Fin 4) (h : some c ∈ slotDue s i) : Listed s c := .inr (.inr (.inr (.inl ⟨i, h⟩)))
theorem Listed.ages (h : some c ∈ agesDue s) : Listed s c := .inr (.inr (.inr (.inr (.inl h))))
theorem Listed.late (h : some c ∈ lateDue s) : Listed s c := .inr (.inr (.inr (.inr (.inr h))))

/-- Where an event is due the lists hold one: the same, but for readings that no command carries (log 10). -/
theorem listed_of_due (h : Due s c) : ∃ d, Listed s d := by
  cases c with
  | initEnd => exact ⟨.initEnd, .air (by simp [airDue, some_eq_dueIf, (initEndDue_iff s).mpr h])⟩
  | rateLock => exact ⟨.rateLock, .air (by simp [airDue, some_eq_dueIf, (lockDue_iff s).mpr h])⟩
  | leadEnd => exact ⟨.leadEnd, .air (by simp [airDue, some_eq_dueIf, (leadEndDue_iff s).mpr h])⟩
  | wakePreambleEnd =>
    exact ⟨.wakePreambleEnd, .air (by simp [airDue, some_eq_dueIf, (wakePreambleEndDue_iff s).mpr h])⟩
  | frameSent => exact ⟨.frameSent, .air (by simp [airDue, some_eq_dueIf, (frameSentDue_iff s).mpr h])⟩
  | entryEligible => exact ⟨.entryEligible, .air (by simp [airDue, some_eq_dueIf, (entryEligibleDue_iff s).mpr h])⟩
  | jamDetected => exact ⟨.jamDetected, .air (by simp [airDue, some_eq_dueIf, (jamDue_iff s).mpr h])⟩
  | strobeStart => exact ⟨.strobeStart, .port (by simp [portDue, some_eq_dueIf, (strobeStartDue_iff s).mpr h])⟩
  | strobeEnd => exact ⟨.strobeEnd, .port (by simp [portDue, some_eq_dueIf, (strobeEndDue_iff s).mpr h])⟩
  | ackLimitExpiry => exact ⟨.ackLimitExpiry, .port (by simp [portDue, some_eq_dueIf, (ackLimitDue_iff s).mpr h])⟩
  | releaseLimitExpiry =>
    exact ⟨.releaseLimitExpiry, .port (by simp [portDue, some_eq_dueIf, (releaseLimitDue_iff s).mpr h])⟩
  | loopTestEnd full half quarter =>
    exact ⟨_, .tests (List.mem_cons.mpr (.inl (some_eq_dueIf.mpr ⟨(loopDue_iff full half quarter s).mpr h, rfl⟩)))⟩
  | stoplineStep a b =>
    exact ⟨_, .tests (List.mem_cons_of_mem _ (List.mem_cons.mpr
      (.inl (some_eq_dueIf.mpr ⟨(stoplineStepDue_iff a b s).mpr h, rfl⟩))))⟩
  | stoplineTestEnd => exact ⟨.stoplineTestEnd, .tests (by simp [testsDue, some_eq_dueIf, (stoplineEndDue_iff s).mpr h])⟩
  | timerTestEnd => exact ⟨.timerTestEnd, .tests (by simp [testsDue, some_eq_dueIf, (timerDue_iff s).mpr h])⟩
  | bindWaitExpiry i => exact ⟨.bindWaitExpiry i, .slot i (by simp [slotDue, some_eq_dueIf, (bindWait_iff i s).mpr h])⟩
  | answerWaitExpiry i => exact ⟨.answerWaitExpiry i, .slot i (by simp [slotDue, some_eq_dueIf, (answerWait_iff i s).mpr h])⟩
  | retryWaitExpiry i => exact ⟨.retryWaitExpiry i, .slot i (by simp [slotDue, some_eq_dueIf, (retryWait_iff i s).mpr h])⟩
  | standbyAgeOut i => exact ⟨.standbyAgeOut i, .slot i (by simp [slotDue, some_eq_dueIf, (standbyAgeDue_iff i s).mpr h])⟩
  | checkDue i => exact ⟨.checkDue i, .slot i (by simp [slotDue, some_eq_dueIf, (checkIsDue_iff i s).mpr h])⟩
  | periodClose i => exact ⟨.periodClose i, .slot i (by simp [slotDue, some_eq_dueIf, (periodDue_iff i s).mpr h])⟩
  | abandon i => exact ⟨.abandon i, .slot i (by simp [slotDue, some_eq_dueIf, (abandonDue_iff i s).mpr h])⟩
  | offerExpiry i => exact ⟨.offerExpiry i, .slot i (by simp [slotDue, some_eq_dueIf, (offerExpiryDue_iff i s).mpr h])⟩
  | peerAgeOut id =>
    obtain ⟨p, hp, aged, rfl⟩ := (agedOut_iff id s).mpr h
    exact ⟨.peerAgeOut p.id, .ages (List.mem_append_left _
      (List.mem_map.mpr ⟨p, hp, dueIf_eq_some.mpr ⟨aged, rfl⟩⟩))⟩
  | haltMemoryExpiry o m =>
    obtain ⟨e, he, expired, rfl, rfl⟩ := (pairOver_iff o m s).mpr h
    exact ⟨.haltMemoryExpiry e.originator e.number, .ages (List.mem_append_right _
      (List.mem_map.mpr ⟨e, he, dueIf_eq_some.mpr ⟨expired, rfl⟩⟩))⟩
  | disagreeTimeout => exact ⟨.disagreeTimeout, .late (by simp [lateDue, some_eq_dueIf, (disagreeDue_iff s).mpr h])⟩
  | conflictDeadline => exact ⟨.conflictDeadline, .late (by simp [lateDue, some_eq_dueIf, (conflictDue_iff s).mpr h])⟩
  | probeTimeout => exact ⟨.probeTimeout, .late (by simp [lateDue, some_eq_dueIf, (probeDue_iff s).mpr h])⟩
  | offerRepeat => exact ⟨.offerRepeat, .late (by simp [lateDue, some_eq_dueIf, (offerRepeatDue_iff s).mpr h])⟩
  | transferLapse => exact ⟨.transferLapse, .late (by simp [lateDue, some_eq_dueIf, (transferLapseDue_iff s).mpr h])⟩
  | audioFrameBoundary codec =>
    exact ⟨.audioFrameBoundary (Config.codecIn s.resets s.now), .late (by
      simp [lateDue, some_eq_dueIf, (boundaryDue_iff codec s).mpr h])⟩
  | floorTimeout => exact ⟨.floorTimeout, .late (by simp [lateDue, some_eq_dueIf, (floorDue_iff s).mpr h])⟩
  | sniffWindowClose => exact ⟨.sniffWindowClose, .late (by simp [lateDue, some_eq_dueIf, (windowCloseDue_iff s).mpr h])⟩
  | sniffWindowOpen => exact ⟨.sniffWindowOpen, .late (by simp [lateDue, some_eq_dueIf, (windowOpenDue_iff s).mpr h])⟩
  | answerReady => exact ⟨.answerReady, .late (by simp [lateDue, some_eq_dueIf, (answerDue_iff s).mpr h])⟩
  | reportTimeout => exact ⟨.reportTimeout, .late (by simp [lateDue, some_eq_dueIf, (reportDue_iff s).mpr h])⟩
  | keyFrame => exact ⟨.keyFrame, .late (by simp [lateDue, some_eq_dueIf, (keyDue_iff s).mpr h])⟩
  | dormancyDelayExpiry =>
    exact ⟨.dormancyDelayExpiry, .late (by simp [lateDue, some_eq_dueIf, (dormancyDue_iff s).mpr h])⟩
  | _ => exact absurd h id

/-! ## The tick -/

/-- A tick may end the 16-bit preamble of the frame on air (R28, log 27). -/
theorem airTick_eq (a : OnAir) (now : Nat) : airTick a now
    = if a.phase = .preamble ∧ a.keyedAt + 5 + bitsMs a.rate 16 ≤ now then { a with phase := .frame } else a := by
  have over_iff : preambleOver a now = true ↔ a.phase = .preamble ∧ a.keyedAt + 5 + bitsMs a.rate 16 ≤ now := by
    rw [preambleOver, Bool.and_eq_true, beq_iff_eq, decide_eq_true_iff]
    rfl
  simp only [airTick, over_iff]

end

/-- Settles O2: the lists of events hold exactly what is due, so an idle step names one where one is and ticks elsewhere. -/
theorem idleStepRunsDueEventOrTicks : Obligations.IdleStepRunsDueEventOrTicks := by
  intro s idle_
  have step_idle : step s = idle s := by unfold step; rw [idle_]
  refine ⟨fun c h => ⟨due_of_nextEvent h, ?_⟩, fun h => ⟨fun c due => ?_, tick s, ?_, ?_⟩⟩
  · rw [step_idle, idle, h]
  · obtain ⟨d, listed⟩ := listed_of_due due
    exact not_listed_of_nextEvent h listed
  · rw [step_idle, idle, h]
  · simp only [← airTick_eq]
    rfl

end Sys2Proof.Machine
end

section
/-! PROOFS. Reset (O5), reports (O14), fault messages (O15) and the required free times (O17). -/

namespace Sys2Proof.Machine

/-! ## Reset (R183) -/

/-- Settles O5: the reset values are those written down, and RESETN, RESET and INIT_END set theirs by definition. -/
theorem resetHoldsAndSetsStatedValues : Obligations.ResetHoldsAndSetsStatedValues := by
  refine ⟨?_, fun s => ⟨rfl, fun hr hs => ?_, fun hr hs => ?_⟩, fun s hs hn => ?_⟩
  · have empty : ∀ i, State.reset.entry i = none := by
      intro i
      fin_cases i <;> rfl
    refine ⟨rfl, rfl, rfl, rfl, rfl, rfl, rfl, rfl, rfl, rfl, rfl, rfl, rfl, empty, ?_⟩
    and_intros
    all_goals rfl
  · simp [exec, execReset, hr, hs, afterReset]
  · simp [exec, execReset, hr, hs]
  · have due : initEndDue s = true := (initEndDue_iff s).mpr ⟨hs, hn⟩
    simp only [exec, execInitEnd, due, if_true]
    rfl

/-! ## Reports (R185, R187) -/

/-- SRQ is wanted at the threshold, at the timeout of the oldest record, or for an urgent record (R187). -/
theorem srqWanted_iff (s : State) : srqWanted s = true ↔ s.cfg.threshold ≤ s.host.reports.length
    ∨ (∃ r, s.host.reports.head? = some r ∧ r.entryTime + s.cfg.timeout ≤ s.now)
    ∨ ∃ r ∈ s.host.reports, r.urgent = true := by
  unfold srqWanted State.reached
  cases h : s.host.reports.head? with
  | none => simp
  | some r => simp [or_assoc]

/-- A report raised while there is room is the newest record, and SRQ is judged (R185, R187). -/
theorem raise_room {k : ReportKind} {b : Bool} {i : Identity} {d : List Byte} {s : State}
    (h : s.host.reports.length < reportCapacity) :
    raise k b i d s = judgeSrq (s.setHost { s.host with reports := s.host.reports
      ++ [{ kind := k, urgent := b, lostBefore := false, time := s.now, subject := i, detail := d, text := []
            entryTime := s.now }] }) :=
  postReport_room h

theorem raise_full {k : ReportKind} {b : Bool} {i : Identity} {d : List Byte} {s : State}
    (h : ¬ s.host.reports.length < reportCapacity) :
    raise k b i d s = s.setHost { s.host with lost := true, exchange := markLostAgain s.host.exchange } :=
  postReport_full h

/-- Settles O14: `raise_room` below the capacity and `raise_full` at it. -/
theorem reportIsQueuedOrLost : Obligations.ReportIsQueuedOrLost := by
  intro k urgent subject detail s
  refine ⟨fun room => ⟨_, rfl, ?_⟩, fun full => ⟨fun other => ?_, fun a clears h => ?_⟩⟩
  · rw [raise_room room]
    exact ⟨rfl, rfl, srqWanted_iff (s.setHost _)⟩
  · rw [raise_full (Nat.not_lt.mpr full)]
    have same : markLostAgain s.host.exchange = s.host.exchange := by
      unfold markLostAgain
      split
      · next h => exact absurd h (other _ _)
      · rfl
    rw [same]
    rfl
  · rw [raise_full (Nat.not_lt.mpr full), h]
    rfl

/-! ## Fault messages (R169, R170) -/

/-- Settles O15: both messages ask for the live flag first. -/
theorem faultMessagesRiseAndFall : Obligations.FaultMessagesRiseAndFall := by
  intro c subject s
  refine ⟨fun live => ?_, fun quiet => ?_, fun quiet => ?_, fun live => ?_⟩
  · simp [faultLive, live]
  · simp [faultEnd, quiet]
  · simp only [faultLive, quiet]
    rfl
  · simp only [faultEnd, live, if_true]
    rfl

/-! ## Required free times (R25) -/

/-- Settles O17: by the class, and at least 50 ms with the wake flag. -/
theorem requiredFreeTimes : Obligations.RequiredFreeTimes := by
  intro e k b scope
  refine ⟨rfl, fun hw hc => ?_, fun hw hc hk => ?_, fun hw hc hk => ?_, fun hw => ?_⟩
  · simp [requiredFreeMs, classFreeMs, hw, hc]
  · simp [requiredFreeMs, classFreeMs, hw, hc, hk]
  · simp [requiredFreeMs, classFreeMs, hw, hc, hk]
  · simp [requiredFreeMs, classFreeMs, hw, max_comm]

end Sys2Proof.Machine
end

section
/-! PROOFS. The host link: the exchange (O19), what the life state does with a command (O20), CONFIGURE (O21), START (O22)
and the reading commands (O23). -/

namespace Sys2Proof.Machine

/-! ## The exchange (R180, R181) -/

theorem rejectPacket_of_receiving {s : State} (h : s.receiving = true) :
    rejectPacket s = prepare (if s.life.st = .init then notReadyAnswer else badAnswer) s := by
  simp [rejectPacket, h]

/-- Judging SRQ leaves its line where its rule wants it (R187). -/
theorem judgeSrq_srq (s : State) : (judgeSrq s).host.srq = srqWanted s := rfl

theorem srqWanted_judgeSrq (s : State) : srqWanted (judgeSrq s) = srqWanted s := rfl

/-- Settles O19: each phase of the exchange by its own definition, the bits of HDO from the bytes of the answer. -/
theorem exchangePhasesAndUnknownPackets : Obligations.ExchangePhasesAndUnknownPackets := by
  refine ⟨fun s => ⟨fun h => ?_, rfl, fun n a h => ?_, fun n r h => ?_, fun a shown h => ?_, fun clock => ⟨fun h => ?_, ?_⟩⟩, ?_⟩
  · simp [exec, execHselActive, h, State.setPins, State.setHost]
  · simp [exec, execAnswerReady, h, makeReady, State.setHost]
  · simp [exec, execAnswerReady, h, makeReady, State.setHost]
  · refine ⟨_, rfl, ?_, ?_⟩ <;> simp only [h]
    · rfl
    · rfl
  · refine hdoBit_ones (fun a shown ha => ?_) clock
    rcases h with h | ⟨n, p, h⟩ <;> simp [h] at ha
  · intro a shown h
    have bytes : answerBytes a = (match a.result with
        | .ok => 0 | .busy => 1 | .refused => 2 | .notReady => 3 | .bad => 4 | .unconfigured => 5)
        :: BitVec.ofNat 8 a.data.length :: a.data := by
      cases hr : a.result <;> simp [answerBytes, resultCode, hr]
    refine ⟨fun n k byte hc hk hn => ?_, fun hc => ?_⟩
    · rw [hc]
      exact hdoBit_answer h hk (by rw [bytes]; exact hn)
    · exact hdoBit_after h (by rw [bytes]; exact hc)
  · intro s code params mode dest target hr
    have rejected : rejectPacket s = { s with host := { s.host with
        exchange := .preparing s.now (.plain ⟨if s.life.st = .init then .notReady else .bad, []⟩) } } := by
      rw [rejectPacket_of_receiving hr]
      split <;> rfl
    refine ⟨fun hk => ?_, fun hl => ?_, fun hl => ?_⟩
    · simp only [exec, execUnknownCommand, hk, Bool.false_eq_true, if_false, rejected]
    · have unknown : packetKnown 0x40 (4 + params.length) = false := by
        simp [packetKnown, commandCounts]
        omega
      simp only [exec, execNote, unknown, Bool.false_eq_true, if_false, rejected]
    · have unknown : packetKnown 0x41 (3 + params.length) = false := by
        simp [packetKnown, commandCounts]
        omega
      simp only [exec, execProbe, unknown, Bool.false_eq_true, if_false, rejected]

/-! ## What the life state does with a command (R160, R163, R165, R181) -/

/-- Only NOTE, PROBE and a packet that is no command can have a count of parameters that is not taken. -/
theorem countsTaken_eq_false {c : Instr} (h : c.countsTaken = false) : (∃ mode dest text, c = .note mode dest text)
    ∨ (∃ target pattern, c = .probe target pattern) ∨ ∃ code params, c = .unknownCommand code params := by
  cases c <;> simp_all [Instr.countsTaken]

theorem exec_of_init {c : Instr} {s : State} (hr : s.receiving = true) (hs : s.life.st = .init)
    (hc : (takenInSetup c).isSome = true) : exec c s = .next (prepare notReadyAnswer s) := by
  have reject : rejectPacket s = prepare notReadyAnswer s := by simp [rejectPacket, hr, hs]
  obtain ⟨b, hb⟩ := Option.isSome_iff_exists.mp hc
  cases hw : c.countsTaken with
  | true =>
    obtain ⟨k, hk⟩ := exec_takes hb hw
    rw [hk, takeCommand_init k hr hs]
  | false =>
    rcases countsTaken_eq_false hw with ⟨mode, dest, text, rfl⟩ | ⟨target, pattern, rfl⟩ | ⟨code, params, rfl⟩
    · simp only [Instr.countsTaken] at hw
      simp only [exec, execNote, hw, Bool.false_eq_true, if_false, reject]
    · simp only [Instr.countsTaken] at hw
      simp only [exec, execProbe, hw, Bool.false_eq_true, if_false, reject]
    · have none_ : takenInSetup (.unknownCommand code params) = none := rfl
      rw [none_] at hb
      cases hb

/-- A removal request is answered ON AIR when no entry of the tag waits and one is on air (R32). -/
theorem removalAnswer_onAir {tag : OwnerTag} {s : State} (ha : ∃ e ∈ s.chan.queue, e.tag = tag ∧ e.onAir = true)
    (hn : NoneWaits tag s) : removalAnswer tag s = .onAir := by
  have waits : s.chan.queue.any (waitsTagged tag) = false := by
    simp only [List.any_eq_false, waitsTagged, Bool.and_eq_true, beq_iff_eq, Bool.not_eq_true', not_and]
    intro e he ht
    simp [hn e he ht]
  have airs : s.chan.queue.any (airsTagged tag) = true := by
    simpa [List.any_eq_true, airsTagged] using ha
  simp [removalAnswer, waits, airs]

theorem withdrawNotice_of_ne {s : State} (h : s.life.notice ≠ .queued) : withdrawNotice s = s := by
  unfold withdrawNotice
  split
  · contradiction
  · rfl

theorem withdrawNotice_waiting {s : State} (h : s.life.notice = .queued)
    (hw : ∃ e ∈ s.chan.queue, e.tag = .dormantNotice ∧ e.onAir = false) :
    withdrawNotice s = raiseDormancy .cancelled 0 noSubject ((withoutWaiting .dormantNotice s).setNotice .idle) := by
  simp only [withdrawNotice, h, removalAnswer_removed.mpr hw, withdraw_waiting hw]

theorem withdrawNotice_airing {s : State} (h : s.life.notice = .queued)
    (ha : ∃ e ∈ s.chan.queue, e.tag = .dormantNotice ∧ e.onAir = true) (hn : NoneWaits .dormantNotice s) :
    withdrawNotice s = (withdraw .dormantNotice s).setNotice .withdrawing := by
  simp only [withdrawNotice, h, removalAnswer_onAir ha hn]

/-- A DORMANT station with an empty queue wakes with the PRESENT queued (R165). -/
theorem wake_empty {s : State} (cause : Byte) (hs : s.life.st = .dormant) (hq : s.chan.queue = []) :
    ∃ v, Queued (s.crewFrame .present) none .present
        { s with life := { s.life with st := .active, sniff := none, window := none, activity := some s.now } } v
      ∧ wake offer cause s = raise .dormancy false 0 [2, cause] v := by
  have hr : Room (s.setLife { s.life with st := .active, sniff := none, window := none, activity := some s.now }) := by
    simp [Room, hq, queueCapacity]
  refine ⟨_, enqueue_queued _ _ _ _, ?_⟩
  simp only [wake, hs, if_true, sendPresent, offerOr]
  have class2 (x : State) : kindClass (frameKind (x.crewFrame .present)) ≠ .c0 := fun h => nomatch h
  rw [offer_room hr (class2 _)]
  rfl

theorem taken_of_setup {s : State} (hr : s.receiving = true) (hs : s.life.st = .setup) :
    taken true s = some (noteActivity s) := by
  simp only [taken, hr, hs, if_true]

theorem taken_of_active {b : Bool} {s : State} (hr : s.receiving = true) (hs : s.life.st = .active) :
    taken b s = some (withdrawNotice (noteActivity s)) := by
  simp only [taken, hr, hs, if_true]

theorem taken_of_dormant {b : Bool} {s : State} (hr : s.receiving = true) (hs : s.life.st = .dormant) :
    taken b s = some (wake offer wakeByCommand s) := by
  simp only [taken, hr, hs, if_true]

/-- Settles O20: `taken` by its branch for each life state; the notice by the answer to its removal. -/
theorem lifeStateDecidesWhetherACommandIsTaken : Obligations.LifeStateDecidesWhetherACommandIsTaken := by
  intro s hr
  refine ⟨fun c hs hc => exec_of_init hr hs hc, fun c hs hc hw => ?_, fun hs => ?_, fun hs hn => ?_, fun hs hn hw => ?_,
    fun hs hn ha hw => ?_, fun hs hq => ?_⟩
  · have counts : c.countsTaken = true := by
      simp only [Instr.wellFormed, Bool.and_eq_true] at hw
      exact hw.1.1
    obtain ⟨k, hk⟩ := exec_takes hc counts
    rw [hk, takeCommand_setup k hr hs]
    rfl
  · rw [taken_of_setup hr hs]
    rfl
  · rw [taken_of_active hr hs, withdrawNotice_of_ne (s := noteActivity s) hn]
    rfl
  · rw [taken_of_active hr hs, withdrawNotice_waiting (s := noteActivity s) hn hw]
    rfl
  · rw [taken_of_active hr hs, withdrawNotice_airing (s := noteActivity s) hn ha hw,
      withdraw_airing (s := noteActivity s) hw]
    rfl
  · obtain ⟨v, hv, hu⟩ := wake_empty wakeByCommand hs hq
    exact ⟨_, v, taken_of_dormant hr hs, hv, hu⟩

end Sys2Proof.Machine
end

section
/-! PROOFS. Codes read back, CONFIGURE (O21), START (O22) and the reading commands (O23). -/

namespace Sys2Proof.Machine

/-! ## A code is read back as what it is the code of -/

theorem rateOfCode_eq_some {c : Byte} {r : Rate} : rateOfCode c = some r ↔ rateCode r = c := by
  constructor
  · intro h
    unfold rateOfCode at h
    split_ifs at h <;> cases h <;> simp_all [rateCode]
  · rintro rfl
    cases r <;> rfl

theorem roleOfCode_eq_some {c : BitVec 2} {r : Role} : roleOfCode c = some r ↔ roleCode r = c := by
  constructor
  · intro h
    unfold roleOfCode at h
    split_ifs at h <;> cases h <;> simp_all [roleCode]
  · rintro rfl
    cases r <;> rfl

theorem flagOfCode_eq_some {c : Byte} {b : Bool} : flagOfCode c = some b ↔ flagCode b = c := by
  constructor
  · intro h
    unfold flagOfCode at h
    split_ifs at h <;> cases h <;> simp_all [flagCode]
  · rintro rfl
    cases b <;> rfl

/-! ## CONFIGURE (R182) -/

theorem rateCode_toNat_le (r : Rate) : (rateCode r).toNat ≤ 2 := by
  cases r <;> decide

theorem exists_rateCode {b : Byte} (h : b.toNat ≤ 2) : ∃ r, rateCode r = b := by
  have hb : b = 0 ∨ b = 1 ∨ b = 2 := by bv_omega
  rcases hb with rfl | rfl | rfl
  · exact ⟨.full, rfl⟩
  · exact ⟨.half, rfl⟩
  · exact ⟨.quarter, rfl⟩

theorem flagCode_toNat_le (b : Bool) : (flagCode b).toNat ≤ 1 := by
  cases b <;> decide

theorem exists_flagCode {b : Byte} (h : b.toNat ≤ 1) : ∃ f, flagCode f = b := by
  have hb : b = 0 ∨ b = 1 := by bv_omega
  rcases hb with rfl | rfl
  · exact ⟨false, rfl⟩
  · exact ⟨true, rfl⟩

/-- The role parameter: a byte of two bits that is the code of a role (R182). -/
def roleOfParam (b : Byte) : Option Role := if b.toNat < 4 then roleOfCode (b.setWidth 2) else none

theorem roleOfParam_eq_some {b : Byte} {r : Role} :
    roleOfParam b = some r ↔ b.toNat ≤ 2 ∧ roleCode r = b.setWidth 2 := by
  unfold roleOfParam
  split_ifs with h
  · have most : roleCode r = b.setWidth 2 → b.toNat ≤ 2 := by
      intro hr
      have : (b.setWidth 2).toNat ≤ 2 := by
        rw [← hr]
        cases r <;> decide
      bv_omega
    rw [roleOfCode_eq_some]
    exact ⟨fun hr => ⟨most hr, hr⟩, And.right⟩
  · constructor
    · intro hn
      cases hn
    · intro hr
      omega

theorem exists_roleCode {b : Byte} (h : b.toNat ≤ 2) : ∃ r, roleCode r = b.setWidth 2 := by
  have hb : b = 0 ∨ b = 1 ∨ b = 2 := by bv_omega
  rcases hb with rfl | rfl | rfl
  · exact ⟨.operator, rfl⟩
  · exact ⟨.assist, rfl⟩
  · exact ⟨.traction, rfl⟩

theorem rangeOr_eq_some {b : Byte} {least most default n : Nat} :
    rangeOr b least most default = some n
      ↔ (b = 0 ∨ (least ≤ b.toNat ∧ b.toNat ≤ most)) ∧ n = if b = 0 then default else b.toNat := by
  unfold rangeOr
  by_cases h0 : b = 0
  · simp only [h0, if_true, true_or, true_and, Option.some.injEq]
    exact eq_comm
  · simp only [h0, if_false, false_or, Option.ite_none_right_eq_some, Option.some.injEq]
    exact and_congr_right fun _ => eq_comm

/-- The selects parameter: a byte whose highest bit is clear (R182). -/
def selectsOfParam (b : Byte) : Option (BitVec 7) := if b.msb then none else some (b.setWidth 7)

theorem selectsOfParam_eq_some {b : Byte} {v : BitVec 7} :
    selectsOfParam b = some v ↔ b.toNat ≤ 127 ∧ v.setWidth 8 = b := by
  unfold selectsOfParam
  rw [BitVec.msb_eq_decide]
  constructor
  · intro h
    split_ifs at h with hb
    cases h
    simp only [decide_eq_true_eq] at hb
    refine ⟨by omega, ?_⟩
    bv_omega
  · rintro ⟨hb, rfl⟩
    simp only [decide_eq_true_eq]
    rw [if_neg (by omega)]
    congr 1
    bv_omega

/-- The crew parameter (R182). -/
def crewOfParam (b : Byte) : Option Byte := if crewValid b then some b else none

theorem crewOfParam_eq_some {b c : Byte} : crewOfParam b = some c ↔ (1 ≤ b.toNat ∧ b.toNat ≤ 250) ∧ c = b := by
  simp only [crewOfParam, crewValid, Bool.and_eq_true, decide_eq_true_eq, Option.ite_none_right_eq_some, Option.some.injEq]
  exact and_congr_right fun _ => eq_comm

/-- CONFIGURE's parameters one after the other, each read on its own (R182). -/
theorem configOfParams_eq (p : ConfigParams) : configOfParams p = (do
    let role ← roleOfParam p.role
    let crew ← crewOfParam p.crew
    let rate ← rateOfCode p.rate
    let authority ← flagOfCode p.authority
    let period ← rangeOr p.period 4 20 6
    let dormancy ← rangeOr p.dormancy 3 60 0
    let talkLimit ← rangeOr p.talkLimit 10 75 40
    let jamStops ← flagOfCode p.jamStops
    let selects ← selectsOfParam p.selects
    let threshold ← rangeOr p.threshold 1 16 4
    let timeout ← rangeOr p.timeout 10 250 50
    some { role := role, crew := crew, rate := rate, authority := authority, period := period * 100
           dormancy := dormancy * 10000, talkLimit := talkLimit, jamStops := jamStops, selects := selects
           threshold := threshold, timeout := timeout }) := by
  unfold configOfParams roleOfParam crewOfParam selectsOfParam
  by_cases hrole : p.role.toNat < 4 <;> by_cases hcrew : crewValid p.crew <;> by_cases hsel : p.selects.msb <;>
    simp [hrole, hcrew, hsel]

/-- CONFIGURE accepts parameters as a record when each is the parameter of its field (R182). -/
theorem configOfParams_eq_some {p : ConfigParams} {c : ConfigRec} : configOfParams p = some c ↔
    roleOfParam p.role = some c.role ∧ crewOfParam p.crew = some c.crew ∧ rateOfCode p.rate = some c.rate
      ∧ flagOfCode p.authority = some c.authority ∧ (∃ n, rangeOr p.period 4 20 6 = some n ∧ c.period = n * 100)
      ∧ (∃ n, rangeOr p.dormancy 3 60 0 = some n ∧ c.dormancy = n * 10000)
      ∧ rangeOr p.talkLimit 10 75 40 = some c.talkLimit ∧ flagOfCode p.jamStops = some c.jamStops
      ∧ selectsOfParam p.selects = some c.selects ∧ rangeOr p.threshold 1 16 4 = some c.threshold
      ∧ rangeOr p.timeout 10 250 50 = some c.timeout := by
  simp only [configOfParams_eq, Option.bind_eq_bind, Option.bind_eq_some_iff]
  constructor
  · rintro ⟨role, hrole, crew, hcrew, rate, hrate, authority, hauthority, period, hperiod, dormancy, hdormancy, talkLimit,
      htalk, jamStops, hjam, selects, hselects, threshold, hthreshold, timeout, htimeout, hc⟩
    cases hc
    exact ⟨hrole, hcrew, hrate, hauthority, ⟨_, hperiod, rfl⟩, ⟨_, hdormancy, rfl⟩, htalk, hjam, hselects, hthreshold,
      htimeout⟩
  · rintro ⟨hrole, hcrew, hrate, hauthority, ⟨period, hperiod, ep⟩, ⟨dormancy, hdormancy, ed⟩, htalk, hjam, hselects,
      hthreshold, htimeout⟩
    refine ⟨_, hrole, _, hcrew, _, hrate, _, hauthority, _, hperiod, _, hdormancy, _, htalk, _, hjam, _, hselects,
      _, hthreshold, _, htimeout, ?_⟩
    rw [← ep, ← ed]

/-- The parameters that CONFIGURE accepts (R182). -/
theorem configOfParams_isSome (p : ConfigParams) : (configOfParams p).isSome = true ↔
    p.role.toNat ≤ 2 ∧ (1 ≤ p.crew.toNat ∧ p.crew.toNat ≤ 250) ∧ p.rate.toNat ≤ 2 ∧ p.authority.toNat ≤ 1
      ∧ (p.period = 0 ∨ (4 ≤ p.period.toNat ∧ p.period.toNat ≤ 20))
      ∧ (p.dormancy = 0 ∨ (3 ≤ p.dormancy.toNat ∧ p.dormancy.toNat ≤ 60))
      ∧ (p.talkLimit = 0 ∨ (10 ≤ p.talkLimit.toNat ∧ p.talkLimit.toNat ≤ 75)) ∧ p.jamStops.toNat ≤ 1
      ∧ p.selects.toNat ≤ 127 ∧ (p.threshold = 0 ∨ (1 ≤ p.threshold.toNat ∧ p.threshold.toNat ≤ 16))
      ∧ (p.timeout = 0 ∨ (10 ≤ p.timeout.toNat ∧ p.timeout.toNat ≤ 250)) := by
  rw [Option.isSome_iff_exists]
  simp only [configOfParams_eq_some, roleOfParam_eq_some, crewOfParam_eq_some, rateOfCode_eq_some, flagOfCode_eq_some,
    rangeOr_eq_some, selectsOfParam_eq_some]
  constructor
  · rintro ⟨c, ⟨hrole, -⟩, ⟨hcrew, -⟩, hrate, hauthority, ⟨_, ⟨hperiod, -⟩, -⟩, ⟨_, ⟨hdormancy, -⟩, -⟩, ⟨htalk, -⟩, hjam,
      ⟨hselects, -⟩, ⟨hthreshold, -⟩, ⟨htimeout, -⟩⟩
    exact ⟨hrole, hcrew, hrate ▸ rateCode_toNat_le _, hauthority ▸ flagCode_toNat_le _, hperiod, hdormancy, htalk,
      hjam ▸ flagCode_toNat_le _, hselects, hthreshold, htimeout⟩
  · rintro ⟨hrole, hcrew, hrate, hauthority, hperiod, hdormancy, htalk, hjam, hselects, hthreshold, htimeout⟩
    obtain ⟨role, erole⟩ := exists_roleCode hrole
    obtain ⟨rate, erate⟩ := exists_rateCode hrate
    obtain ⟨authority, eauthority⟩ := exists_flagCode hauthority
    obtain ⟨jamStops, ejam⟩ := exists_flagCode hjam
    obtain ⟨selects, eselects⟩ : ∃ v : BitVec 7, v.setWidth 8 = p.selects := ⟨p.selects.setWidth 7, by bv_omega⟩
    exact ⟨⟨role, p.crew, rate, authority, _, _, _, jamStops, selects, _, _⟩, ⟨hrole, erole⟩, ⟨hcrew, rfl⟩, erate, eauthority,
      ⟨_, ⟨hperiod, rfl⟩, rfl⟩, ⟨_, ⟨hdormancy, rfl⟩, rfl⟩, ⟨htalk, rfl⟩, ejam, ⟨hselects, eselects⟩, ⟨hthreshold, rfl⟩,
      htimeout, rfl⟩

/-- The record that CONFIGURE makes of accepted parameters, and what 00h stands for (R182). -/
theorem configOfParams_fields {p : ConfigParams} {c : ConfigRec} (h : configOfParams p = some c) :
    roleCode c.role = p.role.setWidth 2 ∧ c.crew = p.crew ∧ rateCode c.rate = p.rate ∧ flagCode c.authority = p.authority
      ∧ c.period = (if p.period = 0 then 600 else p.period.toNat * 100) ∧ c.dormancy = p.dormancy.toNat * 10000
      ∧ c.talkLimit = (if p.talkLimit = 0 then 40 else p.talkLimit.toNat) ∧ flagCode c.jamStops = p.jamStops
      ∧ c.selects.setWidth 8 = p.selects ∧ c.threshold = (if p.threshold = 0 then 4 else p.threshold.toNat)
      ∧ c.timeout = (if p.timeout = 0 then 50 else p.timeout.toNat) := by
  simp only [configOfParams_eq_some, roleOfParam_eq_some, crewOfParam_eq_some, rateOfCode_eq_some, flagOfCode_eq_some,
    rangeOr_eq_some, selectsOfParam_eq_some] at h
  obtain ⟨⟨-, erole⟩, ⟨-, ecrew⟩, erate, eauthority, ⟨n, ⟨-, en⟩, eperiod⟩, ⟨m, ⟨-, em⟩, edormancy⟩, ⟨-, etalk⟩, ejam,
    ⟨-, eselects⟩, ⟨-, ethreshold⟩, ⟨-, etimeout⟩⟩ := h
  refine ⟨erole, ecrew, erate, eauthority, ?_, ?_, etalk, ejam, eselects, ethreshold, etimeout⟩
  · rw [eperiod, en]
    split_ifs <;> rfl
  · rw [edormancy, em]
    split_ifs with h0
    · rw [h0]
      rfl
    · rfl

theorem withdrawNotice_life_st (s : State) : (withdrawNotice s).life.st = s.life.st := by
  unfold withdrawNotice
  split
  · split <;> simp [raiseDormancy]
  · rfl

/-- A started station stays out of SETUP when it takes a command. -/
theorem taken_life_ne_setup {b : Bool} {s u : State} (h : taken b s = some u) (hs : s.life.st ≠ .setup) :
    u.life.st ≠ .setup := by
  cases hl : s.life.st with
  | dormant => simp [taken_active h hl]
  | setup => exact absurd hl hs
  | init => simp [taken, hl] at h
  | active =>
    have same : u.life.st = s.life.st := by
      simp only [taken, hl] at h
      split at h
      · obtain rfl := Option.some.inj h
        rw [withdrawNotice_life_st]
        rfl
      · cases h
    simp [same, hl]

/-- What SRQ is wanted by: the record of configuration, the reports and the clock (R187). -/
theorem srqWanted_congr {s t : State} (hc : t.life.config = s.life.config) (hr : t.host.reports = s.host.reports)
    (hn : t.now = s.now) : srqWanted t = srqWanted s := by
  simp only [srqWanted, State.cfg, State.reached, hc, hr, hn] <;> rfl

/-- Where SRQ has just been judged it stands as its rule gives it when the answer is prepared (R187). -/
theorem prepare_judgeSrq (a : Prepared) (s : State) : srqWanted (prepare a (judgeSrq s)) = srqWanted s
    ∧ prepare a (judgeSrq s) = { s with host := { s.host with exchange := .preparing s.now a, srq := srqWanted s } } :=
  ⟨rfl, rfl⟩

/-- Settles O21: the rule of CONFIGURE by whether the parameters make a record, and the record field by field. -/
theorem configureJudgesAndReplacesTheRecord : Obligations.ConfigureJudgesAndReplacesTheRecord := by
  refine ⟨fun p s hr => ⟨fun hs c hc => ?_, fun hs hc => ?_, fun hs u hu => ?_⟩, fun p => ⟨configOfParams_isSome p, fun c hc =>
    configOfParams_fields hc⟩⟩
  · have run : exec (.configure p) s = .next (runCommand (configureCommand p) (noteActivity s)) :=
      congrArg _ (takeCommand_of_taken _ (taken_of_setup hr hs))
    have rule : configureCommand p (noteActivity s) = (judgeSrq (setSelects c.selects ((noteActivity s).setLife
        { (noteActivity s).life with config := some c })), okAnswer) := by
      simp [configureCommand, noteActivity, hs, hc]
    rw [run, runCommand, rule]
    let w : State := { s with
      life := { s.life with config := some c, activity := some s.now }
      fault := { s.fault with selects := c.selects, alarm := s.fault.held &&& c.selects != 0 } }
    have hw : setSelects c.selects ((noteActivity s).setLife { (noteActivity s).life with config := some c }) = w := rfl
    obtain ⟨hwanted, hstate⟩ := prepare_judgeSrq okAnswer w
    rw [hw]
    refine ⟨prepare okAnswer (judgeSrq w), rfl, ?_, ?_⟩
    · rw [hwanted]
      rfl
    · rw [hstate]
  · have run : exec (.configure p) s = .next (runCommand (configureCommand p) (noteActivity s)) :=
      congrArg _ (takeCommand_of_taken _ (taken_of_setup hr hs))
    have rule : configureCommand p (noteActivity s) = (noteActivity s, badAnswer) := by
      simp [configureCommand, noteActivity, hs, hc]
    rw [run, runCommand, rule]
    rfl
  · have run : exec (.configure p) s = .next (runCommand (configureCommand p) u) :=
      congrArg _ (takeCommand_of_taken _ hu)
    rw [run, runCommand, configureCommand, if_neg (taken_life_ne_setup hu hs)]

end Sys2Proof.Machine
end

section
/-! PROOFS. A change of the stop cause set (O16) and START (O22). -/

namespace Sys2Proof.Machine

/-! ## Live flags (R169) -/

theorem isLive_of_fault {s t : State} (h : t.fault = s.fault) (c : Condition) : t.isLive c = s.isLive c := by
  simp only [State.isLive, h]

/-- The end of a condition clears its own live flag and no other. -/
theorem isLive_faultEnd (c d : Condition) (i : Identity) (s : State) :
    (faultEnd c i s).isLive d = (s.isLive d && decide (d ≠ c)) := by
  unfold faultEnd
  cases hc : s.isLive c with
  | false =>
    simp only [Bool.false_eq_true, if_false]
    by_cases hd : d = c
    · simp [hd, hc]
    · simp [hd]
  | true =>
    simp only [if_true, State.isLive, raise_fault, State.setFault_fault]
    cases c <;> cases d <;> simp [conditionBit, conditionCode]

theorem faultEnd_timer (c : Condition) (i : Identity) (s : State) : (faultEnd c i s).fault.timer = s.fault.timer := by
  unfold faultEnd
  split_ifs <;> simp

/-! ## The records that an operation adds (R185) -/

/-- Between two states the queue of reports has at most so many records more, all behind those it had. -/
def Reports (n : Nat) (s t : State) : Prop :=
  ∃ rest, t.host.reports = s.host.reports ++ rest ∧ rest.length ≤ n

theorem Reports.of_host {s t : State} (n : Nat) (h : t.host.reports = s.host.reports) : Reports n s t :=
  ⟨[], by simp [h], by simp⟩

theorem Reports.trans {n m : Nat} {s t u : State} (h : Reports n s t) (h' : Reports m t u) : Reports (n + m) s u := by
  obtain ⟨r, hr, hn⟩ := h
  obtain ⟨r', hr', hm⟩ := h'
  exact ⟨r ++ r', by rw [hr', hr, List.append_assoc], by rw [List.length_append]; omega⟩

theorem Reports.length_le {n : Nat} {s t : State} (h : Reports n s t) :
    t.host.reports.length ≤ s.host.reports.length + n := by
  obtain ⟨r, hr, hn⟩ := h
  rw [hr, List.length_append]
  omega

theorem raise_reports_room {k : ReportKind} {b : Bool} {i : Identity} {d : List Byte} {s : State}
    (h : s.host.reports.length < reportCapacity) : (raise k b i d s).host.reports = s.host.reports
      ++ [{ kind := k, urgent := b, lostBefore := false, time := s.now, subject := i, detail := d, text := []
            entryTime := s.now }] := by
  rw [raise_room h]
  rfl

theorem reports_raise (k : ReportKind) (b : Bool) (i : Identity) (d : List Byte) (s : State) :
    Reports 1 s (raise k b i d s) := by
  by_cases h : s.host.reports.length < reportCapacity
  · rw [raise_room h]
    exact ⟨_, rfl, by simp⟩
  · rw [raise_full h]
    exact .of_host 1 rfl

theorem reports_faultEnd (c : Condition) (i : Identity) (s : State) : Reports 1 s (faultEnd c i s) := by
  unfold faultEnd
  split_ifs
  · exact reports_raise _ _ _ _ (s.setFault _)
  · exact .of_host 1 rfl

theorem reports_judgeDisagree (s : State) : Reports 1 s (judgeDisagree s) := by
  unfold judgeDisagree
  dsimp only
  split_ifs
  · exact .of_host 1 rfl
  · exact .of_host 1 rfl
  · exact reports_faultEnd _ _ ((s.setPort _).setFault _)

theorem beginPresentation_host (s : State) : (beginPresentation s).host = s.host := by
  rw [beginPresentation_frame]

theorem reports_recoverPort (s : State) : Reports 1 s (recoverPort s) := by
  unfold recoverPort
  split_ifs
  · obtain ⟨r, hr, hn⟩ := reports_faultEnd .port noSubject (s.setPort { s.port with st := .idle })
    exact ⟨r, by rw [beginPresentation_host, hr, State.setPort_host], hn⟩
  · exact .of_host 1 rfl

/-! ## The traction port (R132, R133, R136, R138) -/

/-- A presentation begins from IDLE with a full slot. -/
theorem beginPresentation_idle {s : State} {r : MoveRecord} (hs : s.port.st = .idle) (hr : s.port.slot = some r) :
    beginPresentation s = s.setPort { s.port with st := .setup (s.now + 2), slot := none, last := r } := by
  simp only [beginPresentation, hs, hr, settleMs]

theorem beginPresentation_of_ne {s : State} (hs : s.port.st ≠ .idle) : beginPresentation s = s := by
  unfold beginPresentation
  split
  · contradiction
  · rfl

theorem writeSafeRecord_idle {s : State} (hs : s.port.st = .idle) : (writeSafeRecord s).port
    = { s.port with st := .setup (s.now + 2), slot := none, last := safeRecord } := by
  simp [writeSafeRecord, beginPresentation, hs, settleMs]

theorem writeSafeRecord_of_ne {s : State} (hs : s.port.st ≠ .idle) :
    (writeSafeRecord s).port = { s.port with slot := some safeRecord } :=
  congrArg State.port (beginPresentation_of_ne (s := s.setPort { s.port with slot := some safeRecord }) hs)

theorem judgeDisagree_port (s : State) : (judgeDisagree s).port = { s.port with disagree := disagreeWanted s } := by
  by_cases h : disagreeWanted s = s.port.disagree
  · rw [judgeDisagree, if_pos h, h]
  · rw [judgeDisagree, if_neg h]
    dsimp only
    split_ifs <;> simp

/-- The input that stays leaves the fault monitor as it was. -/
theorem judgeDisagree_of_eq {s : State} (h : disagreeWanted s = s.port.disagree) : judgeDisagree s = s := if_pos h

/-- An input that turns true is timed, and changes no flag. -/
theorem judgeDisagree_rise {s : State} (h : s.port.disagree = false) (hw : disagreeWanted s = true) :
    (judgeDisagree s).fault = { s.fault with timer := some s.now } := by
  simp [judgeDisagree, h, hw]

/-- An input that turns false is timed no longer, and ends DISAGREE. -/
theorem judgeDisagree_fall {s : State} (h : s.port.disagree = true) (hw : disagreeWanted s = false) :
    (judgeDisagree s).fault.timer = none ∧ (judgeDisagree s).isLive .disagree = false := by
  simp [judgeDisagree, h, hw, faultEnd_timer, isLive_faultEnd]

/-- The input changes no flag but DISAGREE. -/
theorem judgeDisagree_isLive (s : State) {c : Condition} (hc : c ≠ .disagree) :
    (judgeDisagree s).isLive c = s.isLive c := by
  unfold judgeDisagree
  dsimp only
  split_ifs
  · rfl
  · rfl
  · rw [isLive_faultEnd]
    simp [hc, State.isLive]

theorem recoverPort_of_not {s : State}
    (h : ¬ (s.port.st = .failed ∧ s.stop.causes &&& causePortFault = 0 ∧ s.pins.tack = false)) : recoverPort s = s :=
  if_neg h

/-- A FAILED port that recovers with the safe record in its slot presents it, and PORT ends (R136). -/
theorem recoverPort_recovers {s : State}
    (h : s.port.st = .failed ∧ s.stop.causes &&& causePortFault = 0 ∧ s.pins.tack = false)
    (hs : s.port.slot = some safeRecord) : (recoverPort s).isLive .port = false
      ∧ (recoverPort s).port = { s.port with st := .setup (s.now + 2), slot := none, last := safeRecord } := by
  rw [recoverPort, if_pos h, beginPresentation_idle (r := safeRecord) (by simp) (by simpa using hs)]
  refine ⟨?_, by simp⟩
  rw [isLive_of_fault (s := faultEnd .port noSubject (s.setPort { s.port with st := .idle })) (by simp)]
  simp [isLive_faultEnd]

theorem recoverPort_fault (s : State) :
    (recoverPort s).fault.timer = s.fault.timer ∧ (recoverPort s).port.disagree = s.port.disagree
      ∧ ∀ c, c ≠ .port → (recoverPort s).isLive c = s.isLive c := by
  unfold recoverPort
  split_ifs
  · have begun (u : State) : (beginPresentation u).fault = u.fault
        ∧ (beginPresentation u).port.disagree = u.port.disagree := by
      unfold beginPresentation
      split <;> simp
    obtain ⟨hf, hd⟩ := begun (faultEnd .port noSubject (s.setPort { s.port with st := .idle }))
    refine ⟨by rw [hf, faultEnd_timer]; simp, by rw [hd]; simp, fun c hc => ?_⟩
    rw [isLive_of_fault hf, isLive_faultEnd]
    simp [hc, State.isLive]
  · exact ⟨rfl, rfl, fun _ _ => rfl⟩

/-! ## What follows a change of the set (R112 to R114, R136, R138, R177) -/

/-- A change told, and the safe record written where the set turned non-empty. -/
def changeWritten (old : CauseSet) (i : Identity) (d : List Byte) (s : State) : State :=
  if old = 0 then writeSafeRecord (raise .stopChange true i d s) else raise .stopChange true i d s

/-- Then the disagreement is judged, and a FAILED port recovers where it may. -/
def changeRecovered (old : CauseSet) (i : Identity) (d : List Byte) (s : State) : State :=
  if old &&& causePortFault ≠ 0 then recoverPort (judgeDisagree (changeWritten old i d s))
  else judgeDisagree (changeWritten old i d s)

theorem followCauses_eq (old new : CauseSet) (i : Identity) (d : List Byte) (s : State) : followCauses old new i d s
    = if new = 0 then abandonStopline (changeRecovered old i d s) else changeRecovered old i d s := rfl

section written

variable (old : CauseSet) (i : Identity) (d : List Byte) (s : State)

theorem writeSafeRecord_still (s : State) : (writeSafeRecord s).port.still = s.port.still
    ∧ (writeSafeRecord s).port.disagree = s.port.disagree := by
  by_cases h : s.port.st = .idle
  · simp [writeSafeRecord_idle h]
  · simp [writeSafeRecord_of_ne h]

theorem changeWritten_frame : changeWritten old i d s
    = { s with port := (changeWritten old i d s).port, host := (raise .stopChange true i d s).host } := by
  unfold changeWritten
  split_ifs
  · rw [writeSafeRecord_frame, raise_frame]
  · rw [raise_frame]

theorem changeWritten_fault : (changeWritten old i d s).fault = s.fault := by rw [changeWritten_frame]
theorem changeWritten_test : (changeWritten old i d s).test = s.test := by rw [changeWritten_frame]
theorem changeWritten_stop : (changeWritten old i d s).stop = s.stop := by rw [changeWritten_frame]
theorem changeWritten_pins : (changeWritten old i d s).pins = s.pins := by rw [changeWritten_frame]
theorem changeWritten_now : (changeWritten old i d s).now = s.now := by rw [changeWritten_frame]

theorem changeWritten_disagree : (changeWritten old i d s).port.disagree = s.port.disagree := by
  unfold changeWritten
  split_ifs <;> simp [writeSafeRecord_still]

/-- The disagreement input is judged by station control, the set and TSTILL, which stand (R138). -/
theorem disagreeWanted_changeWritten : disagreeWanted (changeWritten old i d s) = disagreeWanted s := by
  have still : (changeWritten old i d s).port.still = s.port.still := by
    unfold changeWritten
    split_ifs <;> simp [writeSafeRecord_still]
  rw [changeWritten_frame] at still ⊢
  simp only at still
  simp only [disagreeWanted, State.still, still]
  rfl

theorem changeWritten_port_of_ne {old : CauseSet} (h : old ≠ 0) : (changeWritten old i d s).port = s.port := by
  rw [changeWritten, if_neg h, raise_port]

/-- The state in which a recovery is judged: the disagreement judged in the state after the change is told. -/
theorem changeRecovered_of_not {old : CauseSet} (h : ¬ (old ≠ 0 ∧ s.port.st = .failed ∧ old &&& causePortFault ≠ 0
    ∧ s.stop.causes &&& causePortFault = 0 ∧ s.pins.tack = false)) :
    changeRecovered old i d s = judgeDisagree (changeWritten old i d s) := by
  unfold changeRecovered
  split_ifs with hold
  · have ne : old ≠ 0 := by
      rintro rfl
      simp at hold
    refine recoverPort_of_not (fun recovers => h ?_)
    rw [judgeDisagree_port, judgeDisagree_stop, judgeDisagree_pins, changeWritten_stop, changeWritten_pins,
      changeWritten_port_of_ne i d s ne] at recovers
    exact ⟨ne, recovers.1, hold, recovers.2⟩
  · rfl

theorem changeRecovered_disagree : (changeRecovered old i d s).port.disagree = disagreeWanted s := by
  have judged : (judgeDisagree (changeWritten old i d s)).port.disagree = disagreeWanted s := by
    rw [judgeDisagree_port, ← disagreeWanted_changeWritten old i d s]
  unfold changeRecovered
  split_ifs
  · rw [(recoverPort_fault _).2.1, judged]
  · exact judged

/-- A recovery leaves the timer and every flag but PORT as the judgement of the disagreement has left them. -/
theorem changeRecovered_fault : (changeRecovered old i d s).fault.timer = (judgeDisagree (changeWritten old i d s)).fault.timer
    ∧ ∀ c, c ≠ .port → (changeRecovered old i d s).isLive c = (judgeDisagree (changeWritten old i d s)).isLive c := by
  unfold changeRecovered
  split_ifs
  · exact ⟨(recoverPort_fault _).1, (recoverPort_fault _).2.2⟩
  · exact ⟨rfl, fun _ _ => rfl⟩

theorem changeRecovered_of_empty : changeRecovered 0 i d s = judgeDisagree (changeWritten 0 i d s) :=
  changeRecovered_of_not i d s (fun h => h.1 rfl)

/-- From IDLE a set that turns non-empty has the safe record presented at once (R114, R132). -/
theorem changeRecovered_presents (h : s.port.st = .idle) : (changeRecovered 0 i d s).port
    = { s.port with st := .setup (s.now + 2), slot := none, last := safeRecord, disagree := disagreeWanted s } := by
  have written : (changeWritten 0 i d s).port
      = { s.port with st := .setup (s.now + 2), slot := none, last := safeRecord } := by
    rw [changeWritten, if_pos rfl, writeSafeRecord_idle (by simpa using h)]
    simp
  rw [changeRecovered_of_empty, judgeDisagree_port, disagreeWanted_changeWritten, written]

/-- In any other state it leaves the safe record in the slot (R114, R132). -/
theorem changeRecovered_writes (h : s.port.st ≠ .idle) : (changeRecovered 0 i d s).port
    = { s.port with slot := some safeRecord, disagree := disagreeWanted s } := by
  have written : (changeWritten 0 i d s).port = { s.port with slot := some safeRecord } := by
    rw [changeWritten, if_pos rfl, writeSafeRecord_of_ne (by simpa using h)]
    simp
  rw [changeRecovered_of_empty, judgeDisagree_port, disagreeWanted_changeWritten, written]

/-- A port that does not recover keeps its state, its records and PORT (R136). -/
theorem changeRecovered_stays {old : CauseSet} (ne : old ≠ 0) (h : ¬ (s.port.st = .failed ∧ old &&& causePortFault ≠ 0
    ∧ s.stop.causes &&& causePortFault = 0 ∧ s.pins.tack = false)) :
    (changeRecovered old i d s).isLive .port = s.isLive .port
      ∧ (changeRecovered old i d s).port = { s.port with disagree := disagreeWanted s } := by
  rw [changeRecovered_of_not i d s (fun hr => h hr.2), judgeDisagree_port, disagreeWanted_changeWritten,
    judgeDisagree_isLive _ (by decide), isLive_of_fault (changeWritten_fault old i d s), changeWritten_port_of_ne i d s ne]
  exact ⟨rfl, rfl⟩

/-- A port that recovers presents the safe record of its slot, and PORT ends (R136). -/
theorem changeRecovered_recovers {old : CauseSet} (h : s.port.st = .failed ∧ old &&& causePortFault ≠ 0
    ∧ s.stop.causes &&& causePortFault = 0 ∧ s.pins.tack = false) (hs : s.port.slot = some safeRecord) :
    (changeRecovered old i d s).isLive .port = false ∧ (changeRecovered old i d s).port
      = { s.port with st := .setup (s.now + 2), slot := none, last := safeRecord, disagree := disagreeWanted s } := by
  obtain ⟨failed, held, gone, released⟩ := h
  have ne : old ≠ 0 := by
    rintro rfl
    simp at held
  have judged : (judgeDisagree (changeWritten old i d s)).port = { s.port with disagree := disagreeWanted s } := by
    rw [judgeDisagree_port, disagreeWanted_changeWritten, changeWritten_port_of_ne i d s ne]
  have recovers := recoverPort_recovers (s := judgeDisagree (changeWritten old i d s))
    (by simp [judged, failed, changeWritten_stop, changeWritten_pins, gone, released]) (by simp [judged, hs])
  rw [changeRecovered, if_pos held]
  refine ⟨recovers.1, ?_⟩
  rw [recovers.2, judged, judgeDisagree_now, changeWritten_now]

/-- An input that stays leaves the timer and DISAGREE (R138, R173). -/
theorem changeRecovered_keeps (h : disagreeWanted s = s.port.disagree) :
    (changeRecovered old i d s).fault.timer = s.fault.timer
      ∧ (changeRecovered old i d s).isLive .disagree = s.isLive .disagree := by
  have judged : judgeDisagree (changeWritten old i d s) = changeWritten old i d s :=
    judgeDisagree_of_eq (by rw [disagreeWanted_changeWritten, changeWritten_disagree, h])
  rw [(changeRecovered_fault old i d s).1, (changeRecovered_fault old i d s).2 _ (by decide), judged,
    isLive_of_fault (changeWritten_fault old i d s), changeWritten_fault]
  exact ⟨rfl, rfl⟩

theorem changeRecovered_rise (h : s.port.disagree = false) (hw : disagreeWanted s = true) :
    (changeRecovered old i d s).fault.timer = some s.now := by
  rw [(changeRecovered_fault old i d s).1, judgeDisagree_rise (by rw [changeWritten_disagree, h])
    (by rw [disagreeWanted_changeWritten, hw]), changeWritten_now]

theorem changeRecovered_fall (h : s.port.disagree = true) (hw : disagreeWanted s = false) :
    (changeRecovered old i d s).fault.timer = none ∧ (changeRecovered old i d s).isLive .disagree = false := by
  rw [(changeRecovered_fault old i d s).1, (changeRecovered_fault old i d s).2 _ (by decide)]
  exact judgeDisagree_fall (by rw [changeWritten_disagree, h]) (by rw [disagreeWanted_changeWritten, hw])

theorem changeRecovered_test : (changeRecovered old i d s).test = s.test := by
  unfold changeRecovered
  split_ifs <;> simp [changeWritten_test]

theorem changeRecovered_now : (changeRecovered old i d s).now = s.now := by
  unfold changeRecovered
  split_ifs <;> simp [changeWritten_now]

/-- Behind the STOP CHANGE report come at most the ends of DISAGREE and of PORT. -/
theorem reports_changeRecovered : Reports 2 (raise .stopChange true i d s) (changeRecovered old i d s) := by
  have written : (changeWritten old i d s).host = (raise .stopChange true i d s).host := by rw [changeWritten_frame]
  have judged : Reports 1 (raise .stopChange true i d s) (judgeDisagree (changeWritten old i d s)) := by
    obtain ⟨r, hr, hn⟩ := reports_judgeDisagree (changeWritten old i d s)
    exact ⟨r, by rw [hr, written], hn⟩
  unfold changeRecovered
  split_ifs
  · exact judged.trans (reports_recoverPort _)
  · exact judged.trans (.of_host 1 rfl)

end written

/-- The test unit and the reports where a set turns empty (R177, R179). -/
theorem abandonStopline_of_running {s : State} {start pos : Nat} {failed : Option Nat}
    (h : s.test.running = some (.stopline start pos failed)) : (abandonStopline s).test = { s.test with running := none }
      ∧ (s.host.reports.length < reportCapacity → (abandonStopline s).host.reports = s.host.reports
          ++ [{ kind := .testDone, urgent := false, lostBefore := false, time := s.now, subject := 0
                detail := [2, 2, BitVec.ofNat 8 (failed.getD 0), 0], text := [], entryTime := s.now }]) := by
  simp only [abandonStopline, h]
  exact ⟨by simp, fun room => raise_reports_room (s := s.setTest { s.test with running := none }) room⟩

theorem abandonStopline_of_not {s : State} (h : ∀ start pos failed, s.test.running ≠ some (.stopline start pos failed)) :
    abandonStopline s = s := by
  unfold abandonStopline
  split
  · rename_i running
    exact absurd running (h _ _ _)
  · rfl

theorem reports_abandonStopline (s : State) : Reports 1 s (abandonStopline s) := by
  unfold abandonStopline
  split
  · exact reports_raise _ _ _ _ (s.setTest _)
  · exact .of_host 1 rfl

theorem stopAfter_causes (u : StopUnit) (c : CauseSet) : (stopAfter u c).causes = c := by
  unfold stopAfter
  split_ifs <;> rfl

/-- Settles O16: the STOP CHANGE report, the safe record, the disagreement, a recovery and the end of a STOPLINE test, each
where the change reaches it. -/
theorem stopCauseChangeIsReportedAndDriven : Obligations.StopCauseChangeIsReportedAndDriven := by
  rintro add remove i s t rfl
  intro old new recovers
  refine ⟨fun same => if_pos same, fun ne => ?_⟩
  have frame := changeCauses_frame add remove i s
  generalize hd : causeBytes new ++ causeBytes (new &&& ~~~old) ++ causeBytes (old &&& ~~~new) = d
  have followed : changeCauses add remove i s = followCauses old new i d (s.setStop (stopAfter s.stop new)) :=
    hd ▸ changeCauses_of_ne ne
  generalize changeCauses add remove i s = t at *
  generalize ha : s.setStop (stopAfter s.stop new) = a at followed
  rw [followCauses_eq] at followed
  have hstop : t.stop = stopAfter s.stop new := by
    rw [followed, ← followCauses_eq, followCauses_stop, ← ha, State.setStop_stop]
  have hport : t.port = (changeRecovered old i d a).port := by
    rw [followed]
    split_ifs <;> simp
  have hfault : t.fault = (changeRecovered old i d a).fault := by
    rw [followed]
    split_ifs <;> simp
  have hlive (c : Condition) : t.isLive c = (changeRecovered old i d a).isLive c := isLive_of_fault hfault c
  have hdisagree : t.port.disagree = disagreeWanted a := by rw [hport, changeRecovered_disagree]
  have apart : a.port = s.port ∧ a.fault = s.fault ∧ a.now = s.now ∧ a.pins = s.pins ∧ a.test = s.test ∧ a.host = s.host
      ∧ a.stop.causes = new := by
    subst ha
    simp [stopAfter_causes]
  obtain ⟨aport, afault, anow, apins, atest, ahost, acauses⟩ := apart
  have recovering : recovers ↔ a.port.st = .failed ∧ old &&& causePortFault ≠ 0 ∧ a.stop.causes &&& causePortFault = 0
      ∧ a.pins.tack = false := by
    rw [aport, acauses, apins]
  have told : Reports 2 (raise .stopChange true i d a) (changeRecovered old i d a) := reports_changeRecovered ..
  have etest : (changeRecovered old i d a).test = s.test := by rw [changeRecovered_test, atest]
  refine ⟨?_, fun h0 => ?_, fun h0 => ?_, fun h0 h1 => ?_, fun room => ?_, fun h0 hi => ?_, fun h0 hi => ?_, ?_, fun hd => ?_,
    fun hs ht => ?_, fun hs ht => ?_, fun hr hs => ?_, fun hr h0 => ?_, fun start pos failed hs h0 => ?_, fun h => ?_, frame⟩
  · rw [hstop, stopAfter_causes]
  · have hn : new ≠ 0 := fun h => ne (h.trans h0.symm)
    rw [hstop, stopAfter, if_neg hn, if_pos h0]
    exact ⟨rfl, rfl⟩
  · rw [hstop, stopAfter, if_pos h0]
    exact ⟨rfl, rfl⟩
  · rw [hstop, stopAfter, if_neg h1, if_neg h0]
    exact ⟨rfl, rfl⟩
  · have first := raise_reports_room (k := .stopChange) (b := true) (i := i) (d := d) (s := a) (by rw [ahost]; exact room)
    have rest : ∃ n, Reports n (raise .stopChange true i d a) t := by
      rw [followed]
      split_ifs
      · exact ⟨_, told.trans (reports_abandonStopline _)⟩
      · exact ⟨_, told⟩
    obtain ⟨n, r, hr, -⟩ := rest
    exact ⟨r, by rw [hr, first, ahost, anow, List.append_assoc]; rfl⟩
  · rw [hdisagree, hport, h0, changeRecovered_presents _ _ _ (aport ▸ hi), aport, anow]
  · rw [hdisagree, hport, h0, changeRecovered_writes _ _ _ (aport ▸ hi), aport]
  · rw [hdisagree]
    subst ha
    simp [disagreeWanted, stopAfter_causes, and_assoc, State.still]
  · rw [hfault, hlive, ← afault, ← isLive_of_fault afault]
    exact changeRecovered_keeps old i d a (by rw [← hdisagree, hd, aport])
  · rw [hfault, ← anow]
    exact changeRecovered_rise old i d a (aport ▸ hs) (hdisagree ▸ ht)
  · rw [hfault, hlive]
    exact changeRecovered_fall old i d a (aport ▸ hs) (hdisagree ▸ ht)
  · rw [hlive, hdisagree, hport, ← aport, ← anow]
    exact changeRecovered_recovers i d a (recovering.mp hr) (aport ▸ hs)
  · rw [hlive, hdisagree, hport, ← aport, ← isLive_of_fault afault]
    exact changeRecovered_stays i d a h0 (fun h => hr (recovering.mpr h))
  · have running : (changeRecovered old i d a).test.running = some (.stopline start pos failed) := by rw [etest, hs]
    obtain ⟨htest, hreports⟩ := abandonStopline_of_running running
    rw [followed, if_pos h0, htest, etest]
    refine ⟨rfl, fun room => ⟨(changeRecovered old i d a).host.reports, ?_⟩⟩
    have most : (changeRecovered old i d a).host.reports.length < reportCapacity := by
      have one := (reports_raise .stopChange true i d a).length_le
      have two := told.length_le
      rw [ahost] at one
      simp only [reportCapacity]
      omega
    rw [hreports most, changeRecovered_now, anow]
  · rw [followed]
    split_ifs with h0
    · rw [abandonStopline_of_not (fun start pos failed => etest ▸ h.resolve_left (fun hn => hn h0) start pos failed), etest]
    · exact etest

/-! ## START (R115, R182) -/

theorem or_ne_zero {w : Nat} {x y : BitVec w} (h : x ≠ 0 ∨ y ≠ 0) : x ||| y ≠ 0 := by
  intro hz
  obtain ⟨hx, hy⟩ := BitVec.or_eq_zero_iff.mp hz
  exact h.elim (· hx) (· hy)

theorem and_not_zero (c : CauseSet) : c &&& ~~~0 = c := by
  change c &&& ~~~(0#9) = c
  rw [BitVec.not_zero, BitVec.and_allOnes]

/-- A change between two sets that are not empty, at a port that is IDLE, leaves the stop lines, the port but for the
disagreement input, and the tests. -/
theorem changeCauses_between {add remove : CauseSet} {i : Identity} {s : State} (hold : s.stop.causes ≠ 0)
    (hnew : (s.stop.causes &&& ~~~remove) ||| add ≠ 0) (hp : s.port.st = .idle) :
    let t := changeCauses add remove i s
    t.stop.causes = (s.stop.causes &&& ~~~remove) ||| add
      ∧ t = { s with stop := { s.stop with causes := t.stop.causes }, port := { s.port with disagree := t.port.disagree }
                     fault := t.fault, host := t.host } := by
  intro t
  obtain ⟨same, changed⟩ := stopCauseChangeIsReportedAndDriven add remove i s t rfl
  by_cases eq : (s.stop.causes &&& ~~~remove) ||| add = s.stop.causes
  · rw [same eq, eq]
    exact ⟨rfl, rfl⟩
  · obtain ⟨causes, -, -, lines, -, -, -, -, -, -, -, -, stays, -, tests, frame⟩ := changed eq
    obtain ⟨stopA, stopB⟩ := lines hold hnew
    obtain ⟨-, port⟩ := stays (fun h => by simp [hp] at h) hold
    have stop : (⟨t.stop.causes, s.stop.stopA, s.stop.stopB⟩ : StopUnit) = t.stop := by rw [← stopA, ← stopB]
    refine ⟨causes, frame.trans ?_⟩
    rw [tests (.inl hnew), ← stop, port]

theorem startChange_eq {s : State} {c : ConfigRec} (hc : s.life.config = some c) : startChange s
    = changeCauses ((if c.role = .traction then causeUnattended else 0)
          ||| if s.isLive .jam = true ∧ c.jamStops = true then causeJamStop else 0)
        (if c.role = .traction then causeUnstarted else 0) noSubject s := by
  by_cases hr : c.role = .traction <;> simp [startChange, State.isTraction, State.role, State.cfg, hc, hr]

/-- Settles O22: START's change of the set is one between two sets that are not empty, so that the rest of the station
stands; then the disagreement is judged. -/
theorem startEntersActive : Obligations.StartEntersActive := by
  intro s hr
  have run : ∀ u, taken true s = some u → exec .start s = .next (runCommand startCommand u) :=
    fun u hu => congrArg _ (takeCommand_of_taken _ hu)
  refine ⟨fun hs c hc hu hp => ?_, fun hs hc => ?_, fun hs u hu => ?_⟩
  · intro jam
    let w : State := { s with life := { s.life with st := .active, activity := some s.now } }
    have rule : startCommand (noteActivity s) = (judgeDisagree (startChange w), okAnswer) := by
      rw [startCommand, if_pos (show (noteActivity s).life.st = .setup from hs),
        if_neg (show ¬ (noteActivity s).life.config.isNone = true by simp [noteActivity, hc])]
      rfl
    have hold : s.stop.causes ≠ 0 := by
      intro h
      simp [h] at hu
    have hnew : (s.stop.causes &&& ~~~(if c.role = .traction then causeUnstarted else 0))
        ||| ((if c.role = .traction then causeUnattended else 0) ||| jam) ≠ 0 := by
      split_ifs
      · exact or_ne_zero (.inr (or_ne_zero (.inl (by decide))))
      · exact or_ne_zero (.inl (by rwa [and_not_zero]))
    obtain ⟨causes, frame⟩ := changeCauses_between (i := noSubject) (s := w) hold hnew hp
    have change : startChange w = changeCauses ((if c.role = .traction then causeUnattended else 0) ||| jam)
        (if c.role = .traction then causeUnstarted else 0) noSubject w := startChange_eq hc
    rw [← change] at causes frame
    generalize startChange w = v at *
    refine ⟨prepare okAnswer (judgeDisagree v), ?_, ?_, ?_, fun ht => ?_, fun ht => ?_, ?_⟩
    · rw [run _ (taken_of_setup hr hs), runCommand, rule]
    · rw [prepare, State.setHost_host, judgeDisagree_now, frame]
    · rw [prepare, State.setHost_life, judgeDisagree_life, frame]
    · rw [prepare, State.setHost_stop, judgeDisagree_stop, causes, if_pos ht, if_pos ht, BitVec.or_assoc]
    · rw [prepare, State.setHost_stop, judgeDisagree_stop, causes, if_neg ht, if_neg ht, and_not_zero]
      exact congrArg _ BitVec.zero_or
    · rw [prepare, judgeDisagree_frame, judgeDisagree_port, frame]
      rfl
  · have rule : startCommand (noteActivity s) = (noteActivity s, unconfiguredAnswer) := by
      simp [startCommand, noteActivity, hs, hc]
    rw [run _ (taken_of_setup hr hs), runCommand, rule]
    rfl
  · rw [run u hu, runCommand, startCommand, if_neg (taken_life_ne_setup hu hs)]

end Sys2Proof.Machine
end

section
/-! PROOFS. The reading commands (O23). -/

namespace Sys2Proof.Machine

/-! ## Answers that change nothing but the exchange (R183, R186, R188, R189) -/

/-- A command of SETUP, ACTIVE and DORMANT whose rule answers in the state it finds. -/
theorem takeCommand_answers {b : Bool} {k : Command} {a : Prepared} {s u : State} (hu : taken b s = some u)
    (hk : k u = (u, a)) : takeCommand b k s = prepare a u := by
  rw [takeCommand_of_taken k hu, runCommand, hk]

/-- The bytes of READ-STATE in the chunks of its layout (R188). -/
theorem readStateBytes_chunks (s : State) : readStateBytes s
    = [lifeCode s.life.st] ++ (configBytes s.life.config ++ (be32 s.now ++ ([viewCode s.chan.view]
      ++ (satWord (freeMs s.chan.view s.now) ++ ([BitVec.ofNat 8 s.chan.queue.length, BitVec.ofNat 8 s.peers.entries.length]
      ++ (causeBytes s.stop.causes ++ ((floorCode s.floor.st :: floorBytes s.floor.st)
      ++ ([BitVec.ofNat 8 s.floor.outlet.length, BitVec.ofNat 8 s.floor.playout.length] ++ ([portCode s.port.st]
      ++ ((flagCode s.port.slot.isSome :: recordField s.port.slot) ++ (recordField (some s.port.last)
      ++ ([(s.speed ++ BitVec.ofBool s.ready ++ BitVec.ofBool s.still).setWidth 8]
      ++ ([s.fault.live.setWidth 8, s.fault.held.setWidth 8, s.fault.selects.setWidth 8]
      ++ ([runningCode s.test.running] ++ ([s.test.loop, s.test.stopline, s.test.timer].map testResultCode
      ++ ([flagCode s.test.gate] ++ ([noticeCode s.life.notice]
      ++ (satWord (match s.life.activity with | some t => wholeSeconds (s.now - t) | none => 0)
      ++ ([BitVec.ofNat 8 s.host.reports.length, (BitVec.ofBool s.host.srq ++ BitVec.ofBool s.host.lost).setWidth 8]
      ++ ((identityOr (s.bond.detached.map Transfer.target)
          ++ [satByte (match s.bond.detached with | some x => wholeSeconds (x.expiry - s.now) | none => 0)])
      ++ [0, 0])))))))))))))))))))) := by
  simp [readStateBytes] <;> rfl

/-- The bytes of an operator-side entry in the chunks of its layout (R189). -/
theorem opEntryBytes_chunks (e : OpEntry) (now : Nat) : opEntryBytes e now
    = [opStateCode e.st] ++ (identityBytes e.traction ++ ([e.nextSeq.setWidth 8] ++ (requestBytes e.req
      ++ ([flagCode e.handing.isSome]
      ++ ([(e.link.map OpLink.check).getD 0, periodByte ((e.link.map OpLink.period).getD 0)]
      ++ ([historyByte ((e.sup.map OpSup.history).getD [])]
      ++ (identityOr (e.handing.orElse (fun _ => e.offer.map Offer.controller))
      ++ [satByte (match e.offer with | some o => wholeSeconds (o.expiry - now) | none => 0)]))))))) := by
  simp [opEntryBytes] <;> rfl

/-- The bytes of a traction-side entry in the chunks of its layout (R189). -/
theorem trEntryBytes_chunks (e : TrEntry) (now : Nat) : trEntryBytes e now
    = [trStateCode e.st] ++ (identityBytes e.operator ++ ([flagCode e.offered] ++ (lastBytes e.last
      ++ ([flagCode ((e.sup.map TrSup.heard).getD false), periodByte ((e.sup.map TrSup.period).getD 0),
           historyByte ((e.sup.map TrSup.history).getD [])]
      ++ (identityOr (e.transfer.map Transfer.target)
      ++ [satByte (match e.transfer, e.lostSince with
           | some x, _ => wholeSeconds (x.expiry - now)
           | none, some t => wholeSeconds (now - t)
           | none, none => 0)]))))) := by
  simp [trEntryBytes] <;> rfl

theorem satByte_eq (n : Nat) : satByte n = BitVec.ofNat 8 (min 255 n) := by rw [satByte, Nat.min_comm]

theorem satWord_eq (n : Nat) : satWord n = be16 (min 65535 n) := by rw [satWord, Nat.min_comm]

theorem append_congr {a b c d : List Byte} (h : a = b) (h' : c = d) : a ++ c = b ++ d := by rw [h, h']

/-- The levels of the port's inputs as a byte: TSTILL, TREADY, and the speed band above them. -/
theorem levels_byte (speed : BitVec 3) (ready still : Bool) :
    ((speed ++ BitVec.ofBool ready ++ BitVec.ofBool still).setWidth 8 : Byte)
      = BitVec.ofNat 8 ((if still then 1 else 0) + (if ready then 2 else 0) + 0 + 4 * speed.toNat) := by
  revert speed ready still
  decide

/-- SRQ and the lost mark as a byte. -/
theorem lost_srq_byte (srq lost : Bool) : ((BitVec.ofBool srq ++ BitVec.ofBool lost).setWidth 8 : Byte)
    = BitVec.ofNat 8 ((if lost then 1 else 0) + (if srq then 2 else 0) + 0) := by
  revert srq lost
  decide

theorem slotOfNat_eq {n : Nat} {i : Fin 4} (h : n = i.val) : slotOfNat n = some i := by
  subst h
  simp [slotOfNat]

/-- Settles O23: each rule answers in the state it finds, and its bytes are compared chunk by chunk. -/
theorem readingCommandsAnswerAndChangeNothing : Obligations.ReadingCommandsAnswerAndChangeNothing := by
  unfold Obligations.ReadingCommandsAnswerAndChangeNothing
  intro byte upTo bits
  refine ⟨fun s u hu => ⟨?_, ?_, fun hn => ?_, fun r rest hr => ?_⟩,
    fun s u n hu => ⟨fun hn => ?_, fun hn hp => ?_, fun hn p hp => ?_, fun hn => ?_, fun i hi he => ?_, fun i hi => ?_⟩⟩
  · exact congrArg _ (takeCommand_answers hu rfl)
  · have rule : takeCommand true (fun s => (s, okWith (readStateBytes s))) s = prepare (okWith (readStateBytes u)) u :=
      takeCommand_answers hu rfl
    refine congrArg Host.Outcome.next (rule.trans (congrArg (fun d => prepare (okWith d) u) ?_))
    rw [readStateBytes_chunks]
    simp only [List.append_assoc]
    refine append_congr ?_ (append_congr ?_ (append_congr rfl (append_congr ?_ (append_congr ?_ (append_congr rfl
      (append_congr rfl (append_congr ?_ (append_congr rfl (append_congr ?_ (append_congr ?_ (append_congr rfl
      (append_congr ?_ (append_congr rfl (append_congr ?_ (append_congr ?_ (append_congr rfl (append_congr ?_
      (append_congr ?_ (append_congr ?_ ?_)))))))))))))))))))
    · cases u.life.st <;> rfl
    · cases u.life.config <;> rfl
    · cases u.chan.view <;> rfl
    · rw [satWord_eq]
      cases u.chan.view <;> rfl
    · cases u.floor.st <;> simp only [floorBytes, satByte_eq] <;> rfl
    · cases u.port.st <;> rfl
    · cases u.port.slot <;> rfl
    · exact congrArg (fun b => [b]) (levels_byte _ _ _)
    · cases u.test.running with
      | none => rfl
      | some running => cases running <;> rfl
    · have code (r : TestResult) : testResultCode r = match r with | .notRun => byte 0 | .pass => 1 | .fail => 2 := by
        cases r <;> rfl
      simp only [List.map_cons, List.map_nil, code] <;> rfl
    · cases u.life.notice <;> rfl
    · rw [satWord_eq]
      cases u.life.activity <;> rfl
    · exact congrArg (fun b => [byte u.host.reports.length, b]) (lost_srq_byte _ _)
    · rw [satByte_eq]
      cases u.bond.detached <;> rfl
  · exact congrArg _ (takeCommand_answers hu (by simp [fetchCommand, hn, okAnswer, okWith]))
  · exact congrArg _ (takeCommand_answers hu (by simp [fetchCommand, hr]))
  · exact congrArg _ (takeCommand_answers hu (by simp [readPeerCommand, hn]))
  · exact congrArg _ (takeCommand_answers hu (by simp [readPeerCommand, hp, Nat.not_lt.mpr hn]))
  · have rule : readPeerCommand n u = (u, okWith (peerBytes p u)) := by simp [readPeerCommand, hp, Nat.not_lt.mpr hn]
    refine congrArg Host.Outcome.next ((takeCommand_answers hu rule).trans (congrArg (fun d => prepare (okWith d) u) ?_))
    refine append_congr (append_congr rfl ?_) ?_
    · cases p.role <;> cases p.quality <;> rfl
    · rw [satWord_eq]
      rfl
  · have none_ : slotOfNat n.toNat = none := by simp [slotOfNat, Nat.not_lt.mpr hn]
    exact congrArg _ (takeCommand_answers hu (by simp [readBondCommand, none_]))
  · exact congrArg _ (takeCommand_answers hu (by simp [readBondCommand, slotOfNat_eq hi, he, slotBytes, okWith]))
  · intro marks
    have rule : readBondCommand n u = (u, okWith (slotBytes (u.entry i) u.now)) := by
      simp [readBondCommand, slotOfNat_eq hi]
    refine ⟨fun e he => ?_, fun e he => ?_⟩
    · rw [he] at rule
      refine congrArg Host.Outcome.next ((takeCommand_answers hu rule).trans (congrArg (fun d => prepare (okWith d) u) ?_))
      rw [slotBytes, opEntryBytes_chunks]
      simp only [List.append_assoc]
      refine append_congr rfl (append_congr rfl (append_congr rfl (append_congr ?_ (append_congr rfl (append_congr ?_
        (append_congr ?_ (append_congr ?_ ?_)))))))
      · cases e.req with
        | none => rfl
        | some q => cases h : q.phase <;> simp only [requestBytes, phaseCode, h] <;> rfl
      · cases e.link <;> rfl
      · cases e.sup <;> rfl
      · cases e.handing <;> cases e.offer <;> rfl
      · rw [satByte_eq]
        cases e.offer <;> rfl
    · rw [he] at rule
      refine congrArg Host.Outcome.next ((takeCommand_answers hu rule).trans (congrArg (fun d => prepare (okWith d) u) ?_))
      rw [slotBytes, trEntryBytes_chunks]
      simp only [List.append_assoc]
      refine append_congr rfl (append_congr rfl (append_congr rfl (append_congr ?_ (append_congr ?_ (append_congr ?_ ?_)))))
      · cases e.last <;> rfl
      · cases e.sup <;> rfl
      · cases e.transfer <;> rfl
      · rw [satByte_eq]
        cases e.transfer <;> cases e.lostSince <;> rfl

end Sys2Proof.Machine
end

section
/-! PROOFS. The candidate, keying and the phases of the frame on air (O18). -/

namespace Sys2Proof.Machine

/-! ## The candidate (R23, R26) -/

theorem eligible_iff (s : State) (e : QEntry) :
    s.eligible e = true ↔ e.onAir = false ∧ ∀ t, e.notBefore = some t → t ≤ s.now := by
  cases h : e.notBefore <;> simp [State.eligible, h, State.reached]

theorem ready_iff (s : State) (c : AccessClass) (e : QEntry) :
    s.ready? c e = true ↔ e.cls = c ∧ s.eligible e = true := by
  simp [State.ready?]

/-- No entry of a class is found where every eligible one is of another. -/
theorem find_ready_none {s : State} {c : AccessClass} {q : List QEntry}
    (h : ∀ x ∈ q, s.eligible x = true → x.cls ≠ c) : q.find? (s.ready? c) = none := by
  rw [List.find?_eq_none]
  intro x hx hr
  obtain ⟨hc, he⟩ := (ready_iff s c x).mp hr
  exact h x hx he hc

/-- The first eligible entry of its class is found. -/
theorem find_ready_first {s : State} {pre post : List QEntry} {e : QEntry} (he : s.eligible e = true)
    (h : ∀ x ∈ pre, s.eligible x = true → x.cls ≠ e.cls) : (pre ++ e :: post).find? (s.ready? e.cls) = some e := by
  rw [List.find?_append, find_ready_none h, List.find?_cons_of_pos ((ready_iff s _ e).mpr ⟨rfl, he⟩)]
  rfl

theorem voiceHead_own {s : State} {sp : Spurt} {b : VoiceBlock} {rest : List VoiceBlock} (hf : s.floor.st = .own sp)
    (ho : s.floor.outlet = b :: rest) : s.voiceHead = some (.voice b sp.scope) := by
  simp only [State.voiceHead, hf, ho]

theorem voiceHead_none {s : State} (h : (∀ sp, s.floor.st ≠ .own sp) ∨ s.floor.outlet = []) : s.voiceHead = none := by
  unfold State.voiceHead
  split
  · rename_i hf ho
    rcases h with h | h
    · exact absurd hf (h _)
    · rw [h] at ho
      cases ho
  · rfl

/-- A candidate that is an entry is an eligible entry of the queue. -/
theorem eligible_of_candidate {s : State} {e : QEntry} (h : s.candidate = some (.entry e)) : s.eligible e = true := by
  have found {c : AccessClass} (hf : s.chan.queue.find? (s.ready? c) = some e) : s.eligible e = true :=
    ((ready_iff s c e).mp (List.find?_some hf)).2
  have head : s.voiceHead ≠ some (.entry e) := by
    unfold State.voiceHead
    split <;> simp
  simp only [State.candidate, Option.orElse_eq_or, Option.or_eq_some_iff, Option.map_eq_some_iff, Candidate.entry.injEq,
    exists_eq_right] at h
  rcases h with h | ⟨-, h | ⟨-, h | ⟨-, h⟩⟩⟩
  · exact found h
  · exact found h
  · exact absurd h head
  · exact found h

section chosen

variable {s : State} {pre post : List QEntry} {e : QEntry}

/-- The eligible entry that none is more urgent than, and none before it as urgent, is the candidate, but for the voice
block that goes before class 2 (R26). -/
theorem candidate_of_first (hq : s.chan.queue = pre ++ e :: post) (he : s.eligible e = true)
    (hpre : ∀ x ∈ pre, s.eligible x = true → classNum e.cls < classNum x.cls)
    (hpost : ∀ x ∈ post, s.eligible x = true → classNum e.cls ≤ classNum x.cls) :
    s.candidate = if e.cls = .c2 then s.voiceHead.or (some (.entry e)) else some (.entry e) := by
  have found : s.chan.queue.find? (s.ready? e.cls) = some e :=
    hq ▸ find_ready_first he fun x hx hel hc => by simpa [hc] using hpre x hx hel
  have urgent {c : AccessClass} (hc : classNum c < classNum e.cls) : s.chan.queue.find? (s.ready? c) = none := by
    refine find_ready_none fun x hx hel hxc => ?_
    subst hxc
    rw [hq, List.mem_append, List.mem_cons] at hx
    rcases hx with hx | rfl | hx
    · exact absurd (hpre x hx hel) (by omega)
    · omega
    · exact absurd (hpost x hx hel) (by omega)
  cases hc : e.cls with
  | c0 => simp [State.candidate, hc ▸ found]
  | c1 => simp [State.candidate, hc ▸ found, urgent (c := .c0) (by simp [hc, classNum])]
  | c2 =>
    simp [State.candidate, hc ▸ found, urgent (c := .c0) (by simp [hc, classNum]),
      urgent (c := .c1) (by simp [hc, classNum])]

/-- Where nothing eligible is more urgent than class 2 the voice block goes first (R26). -/
theorem candidate_voice (h : ∀ x ∈ s.chan.queue, s.eligible x = true → x.cls = .c2) (hv : s.voiceHead ≠ none) :
    s.candidate = s.voiceHead := by
  obtain ⟨b, hb⟩ := Option.ne_none_iff_exists'.mp hv
  have none_ {c : AccessClass} (hc : c ≠ .c2) : s.chan.queue.find? (s.ready? c) = none :=
    find_ready_none fun x hx hel hxc => hc (hxc ▸ h x hx hel)
  simp [State.candidate, none_ (c := .c0) (by decide), none_ (c := .c1) (by decide), hb]

theorem candidate_none_eligible (h : ∀ x ∈ s.chan.queue, s.eligible x = false) : s.candidate = s.voiceHead := by
  have none_ (c : AccessClass) : s.chan.queue.find? (s.ready? c) = none :=
    find_ready_none fun x hx hel => by simp [h x hx] at hel
  simp [State.candidate, none_]

/-! ## Keying (R27, R28, R36) -/

theorem markFirst_first {p : QEntry → Bool} (hpre : ∀ x ∈ pre, p x = false) (he : p e = true) :
    markFirst p (pre ++ e :: post) = pre ++ { e with onAir := true } :: post := by
  induction pre with
  | nil => simp [markFirst, he]
  | cons x xs ih =>
    rw [List.cons_append, markFirst, if_neg (by simp [hpre x (by simp)]), ih fun y hy => hpre y (by simp [hy])]
    rfl

/-- A station past INIT whose view is not BUSY turns it OWN as it keys, and nothing is drawn. -/
theorem assertKey_eq {a : OnAir} {since : Nat} (hl : s.life.st ≠ .init) (hv : s.chan.view = .free since) : assertKey a s
    = { s with modem := .hunting, chan := { s.chan with view := .own, onAir := some a, spell := none } } := by
  simp [assertKey, judgeView, viewNow, hl, hv, State.setChan, State.setModem]

theorem mayKey_iff (c : Candidate) : s.mayKey c = true ↔ s.life.st = .active ∧ s.loopRunning = false ∧ s.chan.onAir = none
    ∧ ∃ since, s.chan.view = .free since ∧ since + requiredFreeMs c ≤ s.now := by
  unfold State.mayKey
  cases hv : s.chan.view <;> simp [State.reached, and_assoc]

theorem execKeyFrame_eq {c : Candidate} (hc : s.candidate = some c) (hk : s.mayKey c = true) :
    exec .keyFrame s = .next (keyCandidate c s) := by
  simp only [exec, execKeyFrame, hc, hk, if_true]

end chosen

/-! ## The phases of the frame on air (R28, R30) -/

theorem phaseOver_eq {s : State} {a : OnAir} {p : AirPhase} {ms : Nat} (ha : s.chan.onAir = some a) (hp : a.phase = p)
    (hn : a.keyedAt + ms ≤ s.now) : phaseOver p ms s = true := by
  simp [phaseOver, ha, hp, State.reached, hn]

/-- Settles O18: the candidate by `candidate_of_first`, keying by `assertKey_eq`, the phases by `phaseOver_eq`. -/
theorem candidateIsChosenKeyedAndPhasesPass : Obligations.CandidateIsChosenKeyedAndPhasesPass := by
  refine ⟨fun s pre post e hq he hpre hpost => ?_, fun s => ⟨fun sp b rest hf ho => voiceHead_own hf ho, voiceHead_none,
    candidate_voice, candidate_none_eligible, eligible_iff s⟩, fun s since hv => ⟨fun hl hloop hair => ⟨?_, ?_⟩,
    fun t a ha => ⟨fun hp hn => ?_, fun hp hn => ?_⟩⟩⟩
  · rw [candidate_of_first hq he hpre hpost]
    refine ⟨fun h => ?_, fun hc b hb => by rw [if_pos hc, hb, Option.some_or]⟩
    split_ifs with hc
    · rw [h.resolve_left (by simp [hc, classNum]), Option.none_or]
    · rfl
  · intro e pre post hc hn hq hpre
    have key : s.mayKey (.entry e) = true := (mayKey_iff _).mpr ⟨hl, hloop, hair, since, hv, hn⟩
    have mark : markFirst (s.ready? e.cls) s.chan.queue = pre ++ { e with onAir := true } :: post := by
      rw [hq]
      refine markFirst_first (fun x hx => ?_) ((ready_iff s _ e).mpr ⟨rfl, eligible_of_candidate hc⟩)
      by_cases hxc : x.cls = e.cls <;> simp [State.ready?, hxc, hpre x hx]
    rw [execKeyFrame_eq hc key, keyCandidate, mark, assertKey_eq (since := since) (by simp [hl]) (by simpa using hv)]
    rfl
  · intro b scope hc hn
    have key : s.mayKey (.voice b scope) = true := (mayKey_iff _).mpr ⟨hl, hloop, hair, since, hv, hn⟩
    rw [execKeyFrame_eq hc key, keyCandidate, assertKey_eq (since := since) (by simp [hl]) (by simpa using hv)]
    rfl
  · have due : leadEndDue t = true := phaseOver_eq ha hp hn
    simp only [exec, execLeadEnd, ha, due, if_true]
    rfl
  · have due : wakePreambleEndDue t = true := phaseOver_eq ha hp hn
    simp only [exec, execWakePreambleEnd, ha, due, if_true]
    rfl

end Sys2Proof.Machine
end

section
/-! PROOFS. Frames as bytes: a well-formed frame is read back from its bytes (O10), and a frame read has exactly the bytes it
was read from (O11). -/

namespace Sys2Proof.Machine

/-! ## Codes read back as what they are the codes of -/

theorem modeOfCode_eq_some {c : BitVec 2} {m : DestMode} : modeOfCode c = some m ↔ modeCode m = c := by
  constructor
  · intro h
    unfold modeOfCode at h
    split_ifs at h <;> cases h <;> simp_all [modeCode]
  · rintro rfl
    cases m <;> rfl

theorem scopeOfCode_eq_some {c : Byte} {x : Scope} : scopeOfCode c = some x ↔ scopeCode x = c := by
  constructor
  · intro h
    unfold scopeOfCode at h
    split_ifs at h <;> cases h <;> simp_all [scopeCode]
  · rintro rfl
    cases x <;> rfl

theorem verdictOfCode_eq_some {c : Byte} {v : Verdict} : verdictOfCode c = some v ↔ verdictCode v = c := by
  constructor
  · intro h
    unfold verdictOfCode at h
    split_ifs at h <;> cases h <;> simp_all [verdictCode]
  · rintro rfl
    cases v <;> rfl

theorem settledOfCode_eq_some {c : Byte} {o : SettledOutcome} : settledOfCode c = some o ↔ settledCode o = c := by
  constructor
  · intro h
    unfold settledOfCode at h
    split_ifs at h <;> cases h <;> simp_all [settledCode]
  · rintro rfl
    cases o <;> rfl

theorem kindOfCode_eq_some {c : Byte} {k : Kind} : kindOfCode c = some k ↔ kindCode k = c := by
  constructor
  · intro h
    unfold kindOfCode at h
    simpa using List.find?_some h
  · rintro rfl
    cases k <;> rfl

theorem reasonOfCode_eq_some {c : Byte} {r : Reason} : reasonOfCode c = some r ↔ reasonCode r = c := by
  constructor
  · intro h
    unfold reasonOfCode at h
    simpa using List.find?_some h
  · rintro rfl
    cases r <;> rfl

/-! ## Bytes and the bit fields they hold -/

theorem identityBytes_identityOf (a b c : Byte) : identityBytes (identityOf a b c) = [a, b, c] := by
  have high : (a ++ b ++ c).extractLsb' 16 8 = a := by
    rw [BitVec.extractLsb'_append_eq_of_le (by omega)]
    exact BitVec.extractLsb'_append_eq_left
  have middle : (a ++ b ++ c).extractLsb' 8 8 = b := by
    rw [BitVec.extractLsb'_append_eq_of_le (by omega)]
    exact BitVec.extractLsb'_append_eq_right
  have low : (a ++ b ++ c).extractLsb' 0 8 = c := BitVec.extractLsb'_append_eq_right
  exact congr (congrArg _ high) (congr (congrArg _ middle) (congrArg (fun x => [x]) low))

theorem identityOf_extract (i : Identity) :
    identityOf (i.extractLsb' 16 8) (i.extractLsb' 8 8) (i.extractLsb' 0 8) = i := by
  unfold identityOf
  rw [BitVec.extractLsb'_append_extractLsb'_eq_extractLsb' (by rfl)]
  exact BitVec.extractLsb'_append_extractLsb'

/-- Bytes are an identity's three exactly when the identity is read from them. -/
theorem identityBytes_eq {i : Identity} {a b c : Byte} : identityBytes i = [a, b, c] ↔ identityOf a b c = i := by
  constructor
  · intro h
    simp only [identityBytes, List.cons.injEq, and_true] at h
    obtain ⟨rfl, rfl, rfl⟩ := h
    exact identityOf_extract i
  · rintro rfl
    exact identityBytes_identityOf a b c

theorem word_extract (w : BitVec 16) : w.extractLsb' 8 8 ++ w.extractLsb' 0 8 = w :=
  BitVec.extractLsb'_append_extractLsb'

theorem seqOfByte_eq_some {b : Byte} {q : BitVec 4} : seqOfByte b = some q ↔ q.setWidth 8 = b := by
  unfold seqOfByte
  constructor
  · intro h
    split_ifs at h with hb
    cases h
    have halves : b.extractLsb' 4 4 ++ b.extractLsb' 0 4 = b := BitVec.extractLsb'_append_extractLsb'
    rw [hb] at halves
    calc (b.extractLsb' 0 4).setWidth 8 = (0 : BitVec 4) ++ b.extractLsb' 0 4 := by
          rw [BitVec.setWidth_eq_append (by omega)]
          rfl
      _ = b := halves
  · rintro rfl
    revert q
    decide

/-! ### Codec frames -/

theorem codecBytes_append (a b c d e f : Byte) : codecBytes (a ++ b ++ c ++ d ++ e ++ f) = [a, b, c, d, e, f] := by
  have first : (a ++ b ++ c ++ d ++ e ++ f).extractLsb' 40 8 = a := by
    rw [BitVec.extractLsb'_append_eq_of_le (by omega), BitVec.extractLsb'_append_eq_of_le (by omega),
      BitVec.extractLsb'_append_eq_of_le (by omega), BitVec.extractLsb'_append_eq_of_le (by omega)]
    exact BitVec.extractLsb'_append_eq_left
  have second : (a ++ b ++ c ++ d ++ e ++ f).extractLsb' 32 8 = b := by
    rw [BitVec.extractLsb'_append_eq_of_le (by omega), BitVec.extractLsb'_append_eq_of_le (by omega),
      BitVec.extractLsb'_append_eq_of_le (by omega), BitVec.extractLsb'_append_eq_of_le (by omega)]
    exact BitVec.extractLsb'_append_eq_right
  have third : (a ++ b ++ c ++ d ++ e ++ f).extractLsb' 24 8 = c := by
    rw [BitVec.extractLsb'_append_eq_of_le (by omega), BitVec.extractLsb'_append_eq_of_le (by omega),
      BitVec.extractLsb'_append_eq_of_le (by omega)]
    exact BitVec.extractLsb'_append_eq_right
  have fourth : (a ++ b ++ c ++ d ++ e ++ f).extractLsb' 16 8 = d := by
    rw [BitVec.extractLsb'_append_eq_of_le (by omega), BitVec.extractLsb'_append_eq_of_le (by omega)]
    exact BitVec.extractLsb'_append_eq_right
  have fifth : (a ++ b ++ c ++ d ++ e ++ f).extractLsb' 8 8 = e := by
    rw [BitVec.extractLsb'_append_eq_of_le (by omega)]
    exact BitVec.extractLsb'_append_eq_right
  have sixth : (a ++ b ++ c ++ d ++ e ++ f).extractLsb' 0 8 = f := BitVec.extractLsb'_append_eq_right
  exact congr (congrArg _ first) (congr (congrArg _ second) (congr (congrArg _ third) (congr (congrArg _ fourth)
    (congr (congrArg _ fifth) (congrArg (fun x => [x]) sixth)))))

theorem codec_extract (c : CodecFrame) : (c.extractLsb' 40 8 ++ c.extractLsb' 32 8 ++ c.extractLsb' 24 8 ++ c.extractLsb' 16 8
    ++ c.extractLsb' 8 8 ++ c.extractLsb' 0 8 : CodecFrame) = c := by
  rw [BitVec.extractLsb'_append_extractLsb'_eq_extractLsb' (by rfl),
    BitVec.extractLsb'_append_extractLsb'_eq_extractLsb' (by rfl),
    BitVec.extractLsb'_append_extractLsb'_eq_extractLsb' (by rfl),
    BitVec.extractLsb'_append_extractLsb'_eq_extractLsb' (by rfl)]
  exact BitVec.extractLsb'_append_extractLsb'

/-- Bytes read as codec frames are the bytes of the frames read. -/
theorem codecFramesOf_eq_some {bytes : List Byte} {block : List CodecFrame} :
    codecFramesOf bytes = some block ↔ blockBytes block = bytes := by
  constructor
  · intro h
    induction bytes using codecFramesOf.induct generalizing block with
    | case1 =>
      obtain rfl := Option.some.inj h
      rfl
    | case2 a b c d e f rest ih =>
      simp only [codecFramesOf, Option.map_eq_some_iff] at h
      obtain ⟨tail, ht, rfl⟩ := h
      rw [blockBytes, List.flatMap_cons, codecBytes_append, ← blockBytes, ih ht]
      rfl
    | case3 bytes hnil hsix => simp [codecFramesOf] at h
  · rintro rfl
    induction block with
    | nil => rfl
    | cons c rest ih =>
      have split : blockBytes (c :: rest) = codecBytes c ++ blockBytes rest := List.flatMap_cons ..
      rw [split]
      simp only [codecBytes, List.cons_append, List.nil_append, codecFramesOf, ih, Option.map_some]
      exact congrArg (fun x => some (x :: rest)) (codec_extract c)

/-! ### The movement record -/

theorem ofBool_getLsbD (w : BitVec 16) (n : Nat) : BitVec.ofBool (w.getLsbD n) = w.extractLsb' n 1 := by
  ext i hi
  obtain rfl : i = 0 := by omega
  simp

/-- The direction that two bits hold. -/
def directionOfCode (d : BitVec 2) : Option Direction :=
  if d = 0 then some .neutral else if d = 1 then some .forward else if d = 2 then some .reverse else none

/-- The brake that two bits hold. -/
def brakeOfCode (b : BitVec 2) : Option Brake :=
  if b = 0 then some .released else if b = 1 then some .light else if b = 2 then some .fullService else none

theorem directionOfCode_eq_some {c : BitVec 2} {d : Direction} : directionOfCode c = some d ↔ directionCode d = c := by
  constructor
  · intro h
    unfold directionOfCode at h
    split_ifs at h <;> cases h <;> simp_all [directionCode]
  · rintro rfl
    cases d <;> rfl

theorem brakeOfCode_eq_some {c : BitVec 2} {b : Brake} : brakeOfCode c = some b ↔ brakeCode b = c := by
  constructor
  · intro h
    unfold brakeOfCode at h
    split_ifs at h <;> cases h <;> simp_all [brakeCode]
  · rintro rfl
    cases b <;> rfl

theorem recordOfWord_eq_some {w : BitVec 16} {r : MoveRecord} : recordOfWord w = some r ↔ w.extractLsb' 10 6 = 0
    ∧ directionCode r.direction = w.extractLsb' 8 2 ∧ r.step = w.extractLsb' 5 3 ∧ brakeCode r.brake = w.extractLsb' 3 2
    ∧ r.horn = w.getLsbD 2 ∧ r.uncouple = w.getLsbD 1 ∧ r.sand = w.getLsbD 0 := by
  have read : recordOfWord w = if w.extractLsb' 10 6 ≠ 0 then none else
      (directionOfCode (w.extractLsb' 8 2)).bind fun d => (brakeOfCode (w.extractLsb' 3 2)).map fun b =>
        { direction := d, step := w.extractLsb' 5 3, brake := b, horn := w.getLsbD 2, uncouple := w.getLsbD 1
          sand := w.getLsbD 0 } := by
    unfold recordOfWord
    split_ifs with high
    · rfl
    · rw [← directionOfCode, ← brakeOfCode]
      cases directionOfCode (w.extractLsb' 8 2) <;> cases brakeOfCode (w.extractLsb' 3 2) <;> rfl
  rw [read, ← directionOfCode_eq_some, ← brakeOfCode_eq_some]
  obtain ⟨direction, step, brake, horn, uncouple, sand⟩ := r
  by_cases high : w.extractLsb' 10 6 = 0
  · rw [if_neg (not_not_intro high)]
    simp only [Option.bind_eq_some_iff, Option.map_eq_some_iff, MoveRecord.mk.injEq]
    constructor
    · rintro ⟨d, hd, b, hb, rfl, rfl, rfl, rfl, rfl, rfl⟩
      exact ⟨high, hd, rfl, hb, rfl, rfl, rfl⟩
    · rintro ⟨-, hd, rfl, hb, rfl, rfl, rfl⟩
      exact ⟨_, hd, _, hb, rfl, rfl, rfl, rfl, rfl, rfl⟩
  · rw [if_pos high]
    exact ⟨(fun h => nomatch h), fun h => absurd h.1 high⟩

theorem extract_setWidth {m n start len : Nat} (x : BitVec m) (h : start + len ≤ n) :
    (x.setWidth n).extractLsb' start len = x.extractLsb' start len := by
  ext i hi
  simp [show start + i < n by omega]

/-- Two bytes hold the record whose bytes they are. -/
theorem recordOfWord_iff {w : BitVec 16} {r : MoveRecord} : recordOfWord w = some r ↔ recordWord r = w := by
  rw [recordOfWord_eq_some]
  constructor
  · rintro ⟨high, hd, hs, hb, hh, hu, hsand⟩
    unfold recordWord recordBits
    rw [hd, hs, hb, hh, hu, hsand, ofBool_getLsbD, ofBool_getLsbD, ofBool_getLsbD,
      BitVec.extractLsb'_append_extractLsb'_eq_extractLsb' (by rfl),
      BitVec.extractLsb'_append_extractLsb'_eq_extractLsb' (by rfl),
      BitVec.extractLsb'_append_extractLsb'_eq_extractLsb' (by rfl),
      BitVec.extractLsb'_append_extractLsb'_eq_extractLsb' (by rfl),
      BitVec.extractLsb'_append_extractLsb'_eq_extractLsb' (by rfl)]
    have halves : w.extractLsb' 10 6 ++ w.extractLsb' 0 10 = w := BitVec.extractLsb'_append_extractLsb'
    rw [high] at halves
    calc (w.extractLsb' 0 10).setWidth 16 = (0 : BitVec 6) ++ w.extractLsb' 0 10 := by
          rw [BitVec.setWidth_eq_append (by omega)]
          rfl
      _ = w := halves
  · rintro rfl
    obtain ⟨direction, step, brake, horn, uncouple, sand⟩ := r
    refine ⟨?_, ?_, ?_, ?_, ?_, ?_, ?_⟩
    · ext i hi
      simp [recordWord]
    · rw [recordWord, extract_setWidth _ (by omega), recordBits]
      refine (BitVec.extractLsb'_append_eq_of_le (by omega)).trans ?_ |>.symm
      rw [BitVec.extractLsb'_append_eq_of_le (by omega), BitVec.extractLsb'_append_eq_of_le (by omega),
        BitVec.extractLsb'_append_eq_of_le (by omega)]
      exact BitVec.extractLsb'_append_eq_left
    · rw [recordWord, extract_setWidth _ (by omega), recordBits]
      refine (BitVec.extractLsb'_append_eq_of_le (by omega)).trans ?_ |>.symm
      rw [BitVec.extractLsb'_append_eq_of_le (by omega), BitVec.extractLsb'_append_eq_of_le (by omega),
        BitVec.extractLsb'_append_eq_of_le (by omega)]
      exact BitVec.extractLsb'_append_eq_right
    · rw [recordWord, extract_setWidth _ (by omega), recordBits]
      refine (BitVec.extractLsb'_append_eq_of_le (by omega)).trans ?_ |>.symm
      rw [BitVec.extractLsb'_append_eq_of_le (by omega), BitVec.extractLsb'_append_eq_of_le (by omega)]
      exact BitVec.extractLsb'_append_eq_right
    · simp only [recordWord, recordBits, BitVec.getLsbD_setWidth, BitVec.getLsbD_append]
      simp
    · simp only [recordWord, recordBits, BitVec.getLsbD_setWidth, BitVec.getLsbD_append]
      simp
    · simp only [recordWord, recordBits, BitVec.getLsbD_setWidth, BitVec.getLsbD_append]
      simp

/-! ### STATUS -/

theorem statusTail_fields (seq : Option (BitVec 4)) (speed : BitVec 3) :
    (statusTail seq speed).extractLsb' 4 4 = seq.getD 0 ∧ (statusTail seq speed).getLsbD 3 = seq.isSome
      ∧ (statusTail seq speed).extractLsb' 0 3 = speed := by
  refine ⟨?_, ?_, ?_⟩
  · refine (BitVec.extractLsb'_append_eq_of_le (by omega)).trans ?_
    exact BitVec.extractLsb'_append_eq_left
  · simp only [statusTail, BitVec.getLsbD_append]
    simp
  · exact BitVec.extractLsb'_append_eq_right

/-- The last byte of a STATUS holds a sequence exactly where its mark says so; without one its sequence bits are 0. -/
theorem statusTail_eq {tail : Byte} {seq : Option (BitVec 4)} {speed : BitVec 3} : statusTail seq speed = tail
    ↔ seq = (if tail.getLsbD 3 then some (tail.extractLsb' 4 4) else none) ∧ speed = tail.extractLsb' 0 3
      ∧ (tail.getLsbD 3 = false → tail.extractLsb' 4 4 = 0) := by
  constructor
  · rintro rfl
    obtain ⟨high, mark, low⟩ := statusTail_fields seq speed
    rw [high, mark, low]
    cases seq <;> simp
  · rintro ⟨rfl, rfl, absent⟩
    have pieces : tail.extractLsb' 4 4 ++ tail.extractLsb' 3 1 ++ tail.extractLsb' 0 3 = tail := by
      rw [BitVec.extractLsb'_append_extractLsb'_eq_extractLsb' (by rfl)]
      exact BitVec.extractLsb'_append_extractLsb'
    have mark : BitVec.ofBool (tail.getLsbD 3) = tail.extractLsb' 3 1 := by
      ext i hi
      obtain rfl : i = 0 := by omega
      simp
    unfold statusTail
    cases h : tail.getLsbD 3 with
    | true =>
      rw [h] at mark
      simp only [if_true, Option.getD_some, Option.isSome_some, mark]
      exact pieces
    | false =>
      rw [h] at mark
      simp only [Bool.false_eq_true, if_false, Option.getD_none, Option.isSome_none, mark, ← absent h]
      exact pieces

/-- The two bytes of a cause set, whose seven highest bits are 0. -/
theorem causes_eq {hi lo : Byte} {c : CauseSet} :
    ((c.setWidth 16).extractLsb' 8 8 = hi ∧ (c.setWidth 16).extractLsb' 0 8 = lo)
      ↔ (hi ++ lo : BitVec 16).extractLsb' 9 7 = 0 ∧ c = (hi ++ lo : BitVec 16).setWidth 9 := by
  constructor
  · rintro ⟨rfl, rfl⟩
    rw [word_extract]
    constructor
    · ext i hi
      simp
    · ext i hi
      simp
  · rintro ⟨high, rfl⟩
    have whole : ((hi ++ lo : BitVec 16).setWidth 9).setWidth 16 = hi ++ lo := by
      have halves : (hi ++ lo : BitVec 16).extractLsb' 9 7 ++ (hi ++ lo : BitVec 16).extractLsb' 0 9 = hi ++ lo :=
        BitVec.extractLsb'_append_extractLsb'
      rw [high] at halves
      calc ((hi ++ lo : BitVec 16).setWidth 9).setWidth 16 = (0 : BitVec 7) ++ (hi ++ lo : BitVec 16).extractLsb' 0 9 := by
            rw [BitVec.setWidth_eq_append (by omega), BitVec.setWidth_eq_extractLsb' (by omega)]
            rfl
        _ = hi ++ lo := halves
    rw [whole]
    exact ⟨BitVec.extractLsb'_append_eq_left, BitVec.extractLsb'_append_eq_right⟩

/-! ## Bodies (01, Byte Layouts) -/

/-! ## Bodies (01, Byte Layouts) -/

theorem not_read {b : Body} {P : Prop} (h : (none : Option Body) = some b) : P := nomatch h

/-- A body and the bytes it was read from: it is of the kind asked for, and its bytes are those. -/
def ReadExactly (k : Kind) (bytes : List Byte) (b : Body) : Prop := bodyKind b = k ∧ bodyBytes b = bytes

theorem read_halt_exact : ∀ {bytes : List Byte} {b : Body}, bodyOfBytes .halt bytes = some b → ReadExactly .halt bytes b
  | [a, b, c, number, copy, relay], _, h => by
    change (flagOfCode relay).map _ = _ at h
    simp only [Option.map_eq_some_iff, flagOfCode_eq_some] at h
    obtain ⟨flag, rfl, rfl⟩ := h
    exact ⟨rfl, congrArg (· ++ _) (identityBytes_identityOf a b c)⟩
  | [], _, h | [_], _, h | [_, _], _, h | [_, _, _], _, h | [_, _, _, _], _, h | [_, _, _, _, _], _, h | _ :: _ :: _
    :: _ :: _ :: _ :: _ :: _, _, h => not_read h

theorem read_move_exact : ∀ {bytes : List Byte} {b : Body}, bodyOfBytes .move bytes = some b → ReadExactly .move bytes b
  | [a, b], _, h => by
    change (recordOfWord (a ++ b)).map _ = _ at h
    simp only [Option.map_eq_some_iff, recordOfWord_iff] at h
    obtain ⟨record, word, rfl⟩ := h
    refine ⟨rfl, ?_⟩
    rw [bodyBytes, word, show (a ++ b : BitVec 16).extractLsb' 8 8 = a from BitVec.extractLsb'_append_eq_left,
      show (a ++ b : BitVec 16).extractLsb' 0 8 = b from BitVec.extractLsb'_append_eq_right]
  | [], _, h | [_], _, h | _ :: _ :: _ :: _, _, h => not_read h

theorem read_check_exact : ∀ {bytes : List Byte} {b : Body}, bodyOfBytes .check bytes = some b → ReadExactly .check bytes b
  | [number, units], _, h => by
    obtain rfl := Option.some.inj h
    exact ⟨rfl, rfl⟩
  | [], _, h | [_], _, h | _ :: _ :: _ :: _, _, h => not_read h

theorem read_answer_exact : ∀ {bytes : List Byte} {b : Body}, bodyOfBytes .answer bytes = some b → ReadExactly .answer bytes b
  | [kind, seq, verdict], _, h => by
    change ((kindOfCode kind).bind fun k => (seqOfByte seq).bind fun q => (verdictOfCode verdict).bind fun v =>
      some (Body.answer k q v none)) = _ at h
    simp only [Option.bind_eq_some_iff, kindOfCode_eq_some, seqOfByte_eq_some, verdictOfCode_eq_some] at h
    obtain ⟨k, rfl, q, rfl, v, rfl, h⟩ := h
    obtain rfl := Option.some.inj h
    exact ⟨rfl, rfl⟩
  | [kind, seq, verdict, reason], _, h => by
    change ((kindOfCode kind).bind fun k => (seqOfByte seq).bind fun q => (verdictOfCode verdict).bind fun v =>
      (reasonOfCode reason).bind fun r => some (Body.answer k q v (some r))) = _ at h
    simp only [Option.bind_eq_some_iff, kindOfCode_eq_some, seqOfByte_eq_some, verdictOfCode_eq_some,
      reasonOfCode_eq_some] at h
    obtain ⟨k, rfl, q, rfl, v, rfl, r, rfl, h⟩ := h
    obtain rfl := Option.some.inj h
    exact ⟨rfl, rfl⟩
  | [], _, h | [_], _, h | [_, _], _, h | _ :: _ :: _ :: _ :: _ :: _, _, h => not_read h

/-- The reason of a BIND-REPLY: 00h where there is none. -/
def replyReason (b : Byte) : Option (Option Reason) := if b = 0 then some none else (reasonOfCode b).map some

theorem replyReason_eq_some {b : Byte} {r : Option Reason} :
    replyReason b = some r ↔ (r.map reasonCode).getD 0 = b := by
  unfold replyReason
  constructor
  · intro h
    split_ifs at h with h0
    · obtain rfl := Option.some.inj h
      exact h0.symm
    · simp only [Option.map_eq_some_iff, reasonOfCode_eq_some] at h
      obtain ⟨x, rfl, rfl⟩ := h
      rfl
  · rintro rfl
    cases r with
    | none => rfl
    | some x => cases x <;> rfl

theorem bindReply_read (verdict reason rate still controlled : Byte) :
    bodyOfBytes .bindReply [verdict, reason, rate, still, controlled]
      = (verdictOfCode verdict).bind fun v => (replyReason reason).bind fun r => (rateOfCode rate).bind fun p =>
          (flagOfCode still).bind fun x => (flagOfCode controlled).bind fun y => some (.bindReply v r p x y) := by
  unfold replyReason
  by_cases h : reason = 0
  · subst h
    rfl
  · rw [if_neg h]
    change ((verdictOfCode verdict).bind fun v => if reason = 0 then _ else _) = _
    simp only [if_neg h]
    rfl

theorem read_bindReply_exact : ∀ {bytes : List Byte} {b : Body}, bodyOfBytes .bindReply bytes = some b → ReadExactly .bindReply bytes b
  | [verdict, reason, rate, still, controlled], _, h => by
    rw [bindReply_read] at h
    simp only [Option.bind_eq_some_iff, verdictOfCode_eq_some, replyReason_eq_some, rateOfCode_eq_some,
      flagOfCode_eq_some] at h
    obtain ⟨v, rfl, r, rfl, p, rfl, x, rfl, y, rfl, h⟩ := h
    obtain rfl := Option.some.inj h
    exact ⟨rfl, rfl⟩
  | [], _, h | [_], _, h | [_, _], _, h | [_, _, _], _, h | [_, _, _, _], _, h | _ :: _ :: _ :: _ :: _ :: _ :: _, _, h
    => not_read h

theorem read_take_exact : ∀ {bytes : List Byte} {b : Body}, bodyOfBytes .take bytes = some b → ReadExactly .take bytes b
  | [units, byTransfer], _, h => by
    change (flagOfCode byTransfer).map _ = _ at h
    simp only [Option.map_eq_some_iff, flagOfCode_eq_some] at h
    obtain ⟨flag, rfl, rfl⟩ := h
    exact ⟨rfl, rfl⟩
  | [], _, h | [_], _, h | _ :: _ :: _ :: _, _, h => not_read h

theorem read_release_exact : ∀ {bytes : List Byte} {b : Body}, bodyOfBytes .release bytes = some b → ReadExactly .release bytes b
  | [unbind], _, h => by
    change (flagOfCode unbind).map _ = _ at h
    simp only [Option.map_eq_some_iff, flagOfCode_eq_some] at h
    obtain ⟨flag, rfl, rfl⟩ := h
    exact ⟨rfl, rfl⟩
  | [], _, h | _ :: _ :: _, _, h => not_read h

theorem read_handover_exact : ∀ {bytes : List Byte} {b : Body}, bodyOfBytes .handover bytes = some b → ReadExactly .handover bytes b
  | [a, b, c], _, h => by
    obtain rfl := Option.some.inj h
    exact ⟨rfl, identityBytes_identityOf a b c⟩
  | [], _, h | [_], _, h | [_, _], _, h | _ :: _ :: _ :: _ :: _, _, h => not_read h

theorem read_offer_exact : ∀ {bytes : List Byte} {b : Body}, bodyOfBytes .offer bytes = some b → ReadExactly .offer bytes b
  | [a, b, c, seconds], _, h => by
    obtain rfl := Option.some.inj h
    exact ⟨rfl, congrArg (· ++ _) (identityBytes_identityOf a b c)⟩
  | [], _, h | [_], _, h | [_, _], _, h | [_, _, _], _, h | _ :: _ :: _ :: _ :: _ :: _, _, h => not_read h

theorem read_settled_exact : ∀ {bytes : List Byte} {b : Body}, bodyOfBytes .settled bytes = some b → ReadExactly .settled bytes b
  | [outcome], _, h => by
    change (settledOfCode outcome).map _ = _ at h
    simp only [Option.map_eq_some_iff, settledOfCode_eq_some] at h
    obtain ⟨o, rfl, rfl⟩ := h
    exact ⟨rfl, rfl⟩
  | [], _, h | _ :: _ :: _, _, h => not_read h

theorem read_claim_exact : ∀ {bytes : List Byte} {b : Body}, bodyOfBytes .claim bytes = some b → ReadExactly .claim bytes b
  | [scope], _, h => by
    change (scopeOfCode scope).map _ = _ at h
    simp only [Option.map_eq_some_iff, scopeOfCode_eq_some] at h
    obtain ⟨x, rfl, rfl⟩ := h
    exact ⟨rfl, rfl⟩
  | [], _, h | _ :: _ :: _, _, h => not_read h

theorem read_clear_exact : ∀ {bytes : List Byte} {b : Body}, bodyOfBytes .clear bytes = some b → ReadExactly .clear bytes b
  | [sent], _, h => by
    obtain rfl := Option.some.inj h
    exact ⟨rfl, rfl⟩
  | [], _, h | _ :: _ :: _, _, h => not_read h

theorem read_voice_exact : ∀ {bytes : List Byte} {b : Body}, bodyOfBytes .voice bytes = some b → ReadExactly .voice bytes b
  | number :: rest, _, h => by
    change (codecFramesOf rest).map _ = _ at h
    simp only [Option.map_eq_some_iff, codecFramesOf_eq_some] at h
    obtain ⟨block, rfl, rfl⟩ := h
    exact ⟨rfl, rfl⟩
  | [], _, h => not_read h

theorem read_echo_exact : ∀ {bytes : List Byte} {b : Body}, bodyOfBytes .echo bytes = some b → ReadExactly .echo bytes b
  | quality :: rate :: pattern, _, h => by
    change (rateOfCode rate).map _ = _ at h
    simp only [Option.map_eq_some_iff, rateOfCode_eq_some] at h
    obtain ⟨r, rfl, rfl⟩ := h
    exact ⟨rfl, rfl⟩
  | [], _, h | [_], _, h => not_read h

theorem read_resume_exact : ∀ {bytes : List Byte} {b : Body}, bodyOfBytes .resume bytes = some b → ReadExactly .resume bytes b
  | [], _, h => by
    obtain rfl := Option.some.inj h
    exact ⟨rfl, rfl⟩
  | _ :: _, _, h => not_read h

theorem read_bindAsk_exact : ∀ {bytes : List Byte} {b : Body}, bodyOfBytes .bindAsk bytes = some b → ReadExactly .bindAsk bytes b
  | [], _, h => by
    obtain rfl := Option.some.inj h
    exact ⟨rfl, rfl⟩
  | _ :: _, _, h => not_read h

theorem read_present_exact : ∀ {bytes : List Byte} {b : Body}, bodyOfBytes .present bytes = some b → ReadExactly .present bytes b
  | [], _, h => by
    obtain rfl := Option.some.inj h
    exact ⟨rfl, rfl⟩
  | _ :: _, _, h => not_read h

theorem read_dormant_exact : ∀ {bytes : List Byte} {b : Body}, bodyOfBytes .dormant bytes = some b → ReadExactly .dormant bytes b
  | [], _, h => by
    obtain rfl := Option.some.inj h
    exact ⟨rfl, rfl⟩
  | _ :: _, _, h => not_read h

theorem status_read (check still stop failed pending hi lo tail : Byte) :
    bodyOfBytes .status [check, still, stop, failed, pending, hi, lo, tail]
      = (flagOfCode still).bind fun a => (flagOfCode stop).bind fun b => (flagOfCode failed).bind fun c =>
          (flagOfCode pending).bind fun d =>
            if (hi ++ lo : BitVec 16).extractLsb' 9 7 ≠ 0 then none
            else if (!tail.getLsbD 3 && tail.extractLsb' 4 4 != 0) = true then none
            else some (.status { check := check, standstill := a, stopAsserted := b, portFailed := c, transferPending := d
                                 causes := (hi ++ lo : BitVec 16).setWidth 9, speed := tail.extractLsb' 0 3
                                 lastSeq := if tail.getLsbD 3 then some (tail.extractLsb' 4 4) else none }) := rfl

theorem read_status_exact : ∀ {bytes : List Byte} {b : Body}, bodyOfBytes .status bytes = some b → ReadExactly .status bytes b
  | [check, still, stop, failed, pending, hi, lo, tail], _, h => by
    rw [status_read] at h
    simp only [Option.bind_eq_some_iff, flagOfCode_eq_some] at h
    obtain ⟨a, rfl, b, rfl, c, rfl, d, rfl, h⟩ := h
    by_cases hcauses : (hi ++ lo : BitVec 16).extractLsb' 9 7 = 0
    · rw [if_neg (not_not_intro hcauses)] at h
      by_cases htail : (!tail.getLsbD 3 && tail.extractLsb' 4 4 != 0) = true
      · rw [if_pos htail] at h
        exact not_read h
      · rw [if_neg htail] at h
        obtain rfl := Option.some.inj h
        obtain ⟨high, low⟩ := causes_eq.mpr ⟨hcauses, rfl⟩
        have absent : tail.getLsbD 3 = false → tail.extractLsb' 4 4 = 0 := by
          intro h3
          rw [h3] at htail
          simpa using htail
        refine ⟨rfl, ?_⟩
        rw [bodyBytes, high, low, statusTail_eq.mpr ⟨rfl, rfl, absent⟩]
    · rw [if_pos hcauses] at h
      exact not_read h
  | [], _, h | [_], _, h | [_, _], _, h | [_, _, _], _, h | [_, _, _, _], _, h | [_, _, _, _, _], _, h | [_, _, _, _,
    _, _], _, h | [_, _, _, _, _, _, _], _, h | _ :: _ :: _ :: _ :: _ :: _ :: _ :: _ :: _ :: _, _, h => not_read h

/-- A body read from bytes is of the kind asked for, and its bytes are those it was read from. -/
theorem bodyOfBytes_exact {k : Kind} {bytes : List Byte} {b : Body} (h : bodyOfBytes k bytes = some b) :
    ReadExactly k bytes b := by
  cases k with
  | halt => exact read_halt_exact h
  | move => exact read_move_exact h
  | check => exact read_check_exact h
  | status => exact read_status_exact h
  | answer => exact read_answer_exact h
  | resume => exact read_resume_exact h
  | bindAsk => exact read_bindAsk_exact h
  | bindReply => exact read_bindReply_exact h
  | take => exact read_take_exact h
  | release => exact read_release_exact h
  | handover => exact read_handover_exact h
  | offer => exact read_offer_exact h
  | settled => exact read_settled_exact h
  | claim => exact read_claim_exact h
  | clear => exact read_clear_exact h
  | voice => exact read_voice_exact h
  | note =>
    obtain rfl := Option.some.inj h
    exact ⟨rfl, rfl⟩
  | probe =>
    obtain rfl := Option.some.inj h
    exact ⟨rfl, rfl⟩
  | echo => exact read_echo_exact h
  | present => exact read_present_exact h
  | dormant => exact read_dormant_exact h

/-- A body is read back from its own bytes. -/
theorem bodyOfBytes_bodyBytes (b : Body) : bodyOfBytes (bodyKind b) (bodyBytes b) = some b := by
  cases b with
  | halt originator number copy relay =>
    change (flagOfCode (flagCode relay)).map _ = _
    rw [flagOfCode_eq_some.mpr rfl, Option.map_some, identityOf_extract]
  | move record =>
    change (recordOfWord ((recordWord record).extractLsb' 8 8 ++ (recordWord record).extractLsb' 0 8)).map _ = _
    rw [word_extract, recordOfWord_iff.mpr rfl, Option.map_some]
  | status f =>
    obtain ⟨check, still, stop, failed, pending, causes, speed, lastSeq⟩ := f
    obtain ⟨hcauses, ecauses⟩ := (causes_eq (c := causes)).mp ⟨rfl, rfl⟩
    obtain ⟨eseq, espeed, absent⟩ := statusTail_eq.mp (rfl : statusTail lastSeq speed = _)
    change bodyOfBytes .status [check, flagCode still, flagCode stop, flagCode failed, flagCode pending,
      (causes.setWidth 16).extractLsb' 8 8, (causes.setWidth 16).extractLsb' 0 8, statusTail lastSeq speed] = _
    rw [status_read, flagOfCode_eq_some.mpr rfl, flagOfCode_eq_some.mpr rfl, flagOfCode_eq_some.mpr rfl,
      flagOfCode_eq_some.mpr rfl]
    simp only [Option.bind_some]
    rw [if_neg (not_not_intro hcauses), if_neg (by
      cases h3 : (statusTail lastSeq speed).getLsbD 3 with
      | true => simp
      | false => simp [absent h3]), ← ecauses, ← eseq, ← espeed]
  | answer kind seq verdict reason =>
    have hk : kindOfCode (kindCode kind) = some kind := kindOfCode_eq_some.mpr rfl
    have hq : seqOfByte (seq.setWidth 8) = some seq := seqOfByte_eq_some.mpr rfl
    have hv : verdictOfCode (verdictCode verdict) = some verdict := verdictOfCode_eq_some.mpr rfl
    cases reason with
    | none =>
      change ((kindOfCode (kindCode kind)).bind fun k => (seqOfByte (seq.setWidth 8)).bind fun q =>
        (verdictOfCode (verdictCode verdict)).bind fun v => some (Body.answer k q v none)) = _
      rw [hk, hq, hv]
      rfl
    | some r =>
      have hr : reasonOfCode (reasonCode r) = some r := reasonOfCode_eq_some.mpr rfl
      change ((kindOfCode (kindCode kind)).bind fun k => (seqOfByte (seq.setWidth 8)).bind fun q =>
        (verdictOfCode (verdictCode verdict)).bind fun v => (reasonOfCode (reasonCode r)).bind fun r =>
          some (Body.answer k q v (some r))) = _
      rw [hk, hq, hv, hr]
      rfl
  | bindReply verdict reason rate standstill controlled =>
    change bodyOfBytes .bindReply [verdictCode verdict, (reason.map reasonCode).getD 0, rateCode rate, flagCode standstill,
      flagCode controlled] = _
    rw [bindReply_read, verdictOfCode_eq_some.mpr rfl, replyReason_eq_some.mpr rfl, rateOfCode_eq_some.mpr rfl,
      flagOfCode_eq_some.mpr rfl, flagOfCode_eq_some.mpr rfl]
    rfl
  | take units byTransfer => cases byTransfer <;> rfl
  | release unbind => cases unbind <;> rfl
  | handover target => exact congrArg (fun i => some (Body.handover i)) (identityOf_extract target)
  | offer controller seconds => exact congrArg (fun i => some (Body.offer i seconds)) (identityOf_extract controller)
  | settled outcome => cases outcome <;> rfl
  | claim scope => cases scope <;> rfl
  | voice number block =>
    change (codecFramesOf (blockBytes block)).map _ = _
    rw [codecFramesOf_eq_some.mpr rfl, Option.map_some]
  | echo quality rate pattern => cases rate <;> rfl
  | check | resume | bindAsk | clear | note | probe | present | dormant => rfl

/-! ## Frames (01, Byte Layouts; R9, R12) -/

/-- The body of a well-formed frame has fewer bytes than its length field can tell. -/
theorem bodyBytes_length_lt {f : Frame} (h : frameWellFormed f = true) : (bodyBytes f.body).length < 128 := by
  simp only [frameWellFormed, Bool.and_eq_true] at h
  have valid := h.2
  cases hb : f.body with
  | voice number block =>
    have codec (c : CodecFrame) : (codecBytes c).length = 6 := rfl
    rw [hb] at valid
    simp only [bodyValid, beq_iff_eq] at valid
    simp [bodyBytes, blockBytes, codec, valid]
  | note text =>
    rw [hb] at valid
    simp only [bodyValid, Bool.and_eq_true, decide_eq_true_eq] at valid
    simp only [bodyBytes]
    omega
  | probe pattern =>
    rw [hb] at valid
    simp only [bodyValid, decide_eq_true_eq] at valid
    simp only [bodyBytes]
    omega
  | echo quality rate pattern =>
    rw [hb] at valid
    simp only [bodyValid, Bool.and_eq_true, decide_eq_true_eq] at valid
    simp only [bodyBytes, List.length_cons]
    omega
  | answer kind seq verdict reason => cases reason <;> simp [bodyBytes]
  | _ => simp [bodyBytes, identityBytes]

/-- The second header byte: sequence, destination mode and role. -/
theorem modeByte_eq {seq : BitVec 4} {mode role : BitVec 2} {b : Byte} : (seq ++ mode ++ role : Byte) = b
    ↔ seq = b.extractLsb' 4 4 ∧ mode = b.extractLsb' 2 2 ∧ role = b.extractLsb' 0 2 := by
  constructor
  · rintro rfl
    refine ⟨?_, ?_, ?_⟩
    · refine ((BitVec.extractLsb'_append_eq_of_le (by omega)).trans ?_).symm
      exact BitVec.extractLsb'_append_eq_left
    · refine ((BitVec.extractLsb'_append_eq_of_le (by omega)).trans ?_).symm
      exact BitVec.extractLsb'_append_eq_right
    · exact BitVec.extractLsb'_append_eq_right.symm
  · rintro ⟨rfl, rfl, rfl⟩
    rw [BitVec.extractLsb'_append_extractLsb'_eq_extractLsb' (by rfl)]
    exact BitVec.extractLsb'_append_extractLsb'

/-- The last header byte: authority and the length of the body. -/
theorem lengthByte_eq {authority : Bool} {n : Nat} {b : Byte} (hn : n < 128) :
    (BitVec.ofBool authority ++ BitVec.ofNat 7 n : Byte) = b
      ↔ authority = b.getLsbD 7 ∧ (b.extractLsb' 0 7).toNat = n := by
  constructor
  · rintro rfl
    constructor
    · simp only [BitVec.getLsbD_append]
      simp
    · rw [show (BitVec.ofBool authority ++ BitVec.ofNat 7 n : Byte).extractLsb' 0 7 = BitVec.ofNat 7 n from
        BitVec.extractLsb'_append_eq_right, BitVec.toNat_ofNat]
      omega
  · rintro ⟨rfl, rfl⟩
    have mark : BitVec.ofBool (b.getLsbD 7) = b.extractLsb' 7 1 := by
      ext i hi
      obtain rfl : i = 0 := by omega
      simp
    rw [mark, BitVec.ofNat_toNat, BitVec.setWidth_eq]
    exact BitVec.extractLsb'_append_extractLsb'

/-- What a frame read from ten header bytes and a body is. -/
theorem frameOfBytes_eq_some {kind b1 s2 s1 s0 crew d2 d1 d0 b9 : Byte} {body : List Byte} {f : Frame} :
    frameOfBytes (kind :: b1 :: s2 :: s1 :: s0 :: crew :: d2 :: d1 :: d0 :: b9 :: body) = some f
      ↔ ∃ k mode role b, kindCode k = kind ∧ modeCode mode = b1.extractLsb' 2 2 ∧ roleCode role = b1.extractLsb' 0 2
          ∧ (b9.extractLsb' 0 7).toNat = body.length ∧ bodyOfBytes k body = some b ∧ frameWellFormed f = true
          ∧ f = { header := { sender := identityOf s2 s1 s0, role := role, authority := b9.getLsbD 7
                              seq := b1.extractLsb' 4 4, crew := crew, mode := mode, dest := identityOf d2 d1 d0 }
                  body := b } := by
  have read : frameOfBytes (kind :: b1 :: s2 :: s1 :: s0 :: crew :: d2 :: d1 :: d0 :: b9 :: body)
      = (kindOfCode kind).bind fun k => (modeOfCode (b1.extractLsb' 2 2)).bind fun mode =>
          (roleOfCode (b1.extractLsb' 0 2)).bind fun role => if (b9.extractLsb' 0 7).toNat ≠ body.length then none else
            (bodyOfBytes k body).bind fun b =>
              let g : Frame :=
                { header := { sender := identityOf s2 s1 s0, role := role, authority := b9.getLsbD 7
                              seq := b1.extractLsb' 4 4, crew := crew, mode := mode, dest := identityOf d2 d1 d0 }
                  body := b }
              if frameWellFormed g then some g else none := rfl
  rw [read]
  by_cases hn : (b9.extractLsb' 0 7).toNat = body.length
  · simp only [Option.bind_eq_some_iff, kindOfCode_eq_some, modeOfCode_eq_some, roleOfCode_eq_some, hn, ne_eq,
      not_true_eq_false, if_false, Option.ite_none_right_eq_some, Option.some.injEq, true_and]
    constructor
    · rintro ⟨k, hk, mode, hm, role, hr, b, hb, hw, rfl⟩
      exact ⟨k, mode, role, b, hk, hm, hr, hb, hw, rfl⟩
    · rintro ⟨k, mode, role, b, hk, hm, hr, hb, hw, rfl⟩
      exact ⟨k, hk, mode, hm, role, hr, b, hb, hw, rfl⟩
  · simp only [hn, ne_eq, not_false_eq_true, if_true, false_and, and_false, exists_false, Option.bind_eq_some_iff,
      reduceCtorEq]

/-- Settles O10: each header field and the body are read back from their own bits. -/
theorem frameBytesReadBack : Obligations.FrameBytesReadBack := by
  intro f hw
  obtain ⟨hseq, hmode, hrole⟩ := modeByte_eq.mp (rfl : f.header.seq ++ modeCode f.header.mode ++ roleCode f.header.role = _)
  obtain ⟨hauthority, hlength⟩ := (lengthByte_eq (authority := f.header.authority) (bodyBytes_length_lt hw)).mp rfl
  refine frameOfBytes_eq_some.mpr ⟨frameKind f, f.header.mode, f.header.role, f.body, rfl, hmode, hrole, hlength,
    bodyOfBytes_bodyBytes f.body, hw, ?_⟩
  rw [identityOf_extract, identityOf_extract, ← hseq, ← hauthority]

/-- The bytes of a frame read from ten header bytes and a body. -/
theorem frameOfBytes_exact : ∀ {bytes : List Byte} {f : Frame}, frameOfBytes bytes = some f →
    frameWellFormed f = true ∧ frameBytes f = bytes
  | kind :: b1 :: s2 :: s1 :: s0 :: crew :: d2 :: d1 :: d0 :: b9 :: body, f, h => by
    obtain ⟨k, mode, role, b, hk, hm, hr, hn, hb, hw, rfl⟩ := frameOfBytes_eq_some.mp h
    obtain ⟨ekind, ebody⟩ := bodyOfBytes_exact hb
    refine ⟨hw, ?_⟩
    have second := modeByte_eq.mpr ⟨rfl, hm, hr⟩
    have short : body.length < 128 := ebody ▸ bodyBytes_length_lt hw
    have last := (lengthByte_eq (authority := b9.getLsbD 7) short).mpr ⟨rfl, hn⟩
    simp only [frameBytes, headerBytes, frameKind, ekind, hk, second, identityBytes_identityOf, ebody, last]
    rfl
  | [], _, h | [_], _, h | [_, _], _, h | [_, _, _], _, h | [_, _, _, _], _, h | [_, _, _, _, _], _, h
    | [_, _, _, _, _, _], _, h | [_, _, _, _, _, _, _], _, h | [_, _, _, _, _, _, _, _], _, h
    | [_, _, _, _, _, _, _, _, _], _, h => nomatch h

/-- Settles O11: `frameOfBytes_exact`, the header field by field and the body by `bodyOfBytes_exact`. -/
theorem frameOfBytesIsExact : Obligations.FrameOfBytesIsExact := fun _ _ h => frameOfBytes_exact h

end Sys2Proof.Machine
end

section
/-! PROOFS. Air times and the tones on TXB (O12), and what becomes of an offered frame (O13). -/

namespace Sys2Proof.Machine

/-! ## Air times (R2) -/

theorem wireBytes_length (f : Frame) : (wireBytes f).length = 12 + (bodyBytes f.body).length := by
  simp [wireBytes, frameBytes, headerBytes, identityBytes]
  omega

theorem blockBytes_length (block : List CodecFrame) : (blockBytes block).length = 6 * block.length := by
  have codec (c : CodecFrame) : (codecBytes c).length = 6 := rfl
  simp [blockBytes, codec, Nat.mul_comm]

theorem airMs_of_length {f : Frame} {n : Nat} (r : Rate) (h : (wireBytes f).length = n) :
    airMs f r false = 5 + bitsMs r (8 * n + 32) := by
  simp [airMs, leadMs, h]

theorem bitUnits_eq (r : Rate) : bitUnits r = match r with | .full => 5 | .half => 10 | .quarter => 20 := by
  cases r <;> rfl

theorem toneOf_alternating (bit : Nat) : toneOf (bit % 2 == 0) = if bit % 2 = 0 then .one else .zero := by
  by_cases h : bit % 2 = 0 <;> simp [h, toneOf]

/-- Settles O12: the air times by the lengths of the bodies, and each tone by the bit it stands for. -/
theorem airTimesAreThoseOfTheTable : Obligations.AirTimesAreThoseOfTheTable := by
  refine ⟨fun h number units record status kind seq originator copy relay block hblock => ?_, fun s u hair => txb_none hair u,
    fun s a u bit into ha => ?_⟩
  · have lengths : (∀ b, b = Body.check number units ∨ b = Body.move record → (wireBytes ⟨h, b⟩).length = 14)
        ∧ (wireBytes ⟨h, .answer kind seq .accepted none⟩).length = 15 ∧ (wireBytes ⟨h, .status status⟩).length = 20
        ∧ (wireBytes ⟨h, .halt originator number copy relay⟩).length = 18
        ∧ (wireBytes ⟨h, .voice number block⟩).length = 73 := by
      simp [wireBytes_length, bodyBytes, identityBytes, blockBytes_length, hblock]
    obtain ⟨short, answer, fields, halt, voice⟩ := lengths
    refine ⟨fun b hb => ⟨short b hb, ?_, ?_, ?_⟩, answer, ?_, ?_, ?_, fields, ?_, ?_, ?_, halt, ?_, voice, ?_⟩
    · exact airMs_of_length _ (short b hb)
    · exact airMs_of_length _ (short b hb)
    · exact airMs_of_length _ (short b hb)
    · exact airMs_of_length _ answer
    · exact airMs_of_length _ answer
    · exact airMs_of_length _ answer
    · exact airMs_of_length _ fields
    · exact airMs_of_length _ fields
    · exact airMs_of_length _ fields
    · exact airMs_of_length _ halt
    · exact airMs_of_length _ voice
  · intro period preamble bytes at_
    have hperiod : period = bitUnits a.rate := (bitUnits_eq a.rate).symm
    have hpreamble : preamble = preambleLength a.rate a.wake := by
      simp only [preamble, hperiod, preambleLength, wakeMs]
    refine ⟨fun h => txb_lead ha h, fun h hi => ?_⟩
    have tone : s.txb u = (frameBits a.frame a.rate a.wake)[bit]?.map toneOf :=
      txb_bit ha (hperiod ▸ h) (hperiod ▸ hi)
    rw [tone, hpreamble]
    refine ⟨fun hb => ?_, fun hlow hhigh => ?_, fun n byte k hb hk hn => ?_, fun hb => ?_⟩
    · rw [frameBits_preamble _ _ _ _ hb, Option.map_some, toneOf_alternating]
    · obtain ⟨k, rfl⟩ := Nat.exists_eq_add_of_le hlow
      rw [frameBits_sync _ _ _ _ (by omega), Option.map_some, Nat.add_sub_cancel_left]
    · rw [hb, frameBits_byte _ _ _ _ _ _ hk hn, Option.map_some]
    · rw [List.getElem?_eq_none (by rw [frameBits_length]; exact hb), Option.map_none]

/-! ## The entry that gives up its place (R34) -/

theorem takeLast_eq_none {p : QEntry → Bool} {q : List QEntry} (h : ∀ x ∈ q, p x = false) : takeLast p q = none := by
  induction q with
  | nil => rfl
  | cons x xs ih => simp [takeLast, ih fun y hy => h y (by simp [hy]), h x (by simp)]

theorem takeLast_last {p : QEntry → Bool} {pre post : List QEntry} {e : QEntry} (he : p e = true)
    (hpost : ∀ x ∈ post, p x = false) : takeLast p (pre ++ e :: post) = some (e, pre ++ post) := by
  induction pre with
  | nil => simp [takeLast, takeLast_eq_none hpost, he]
  | cons x xs ih => simp [takeLast, ih]

theorem waits_eq_false {c : AccessClass} {x : QEntry} (h : x.onAir = false → x.cls ≠ c) : waits c x = false := by
  cases hx : x.onAir <;> simp_all [waits]

/-- The newest of the greatest class number among the waiting entries gives up its place to a frame of a class below. -/
theorem displaced_newest {c : AccessClass} {pre post : List QEntry} {e : QEntry} (he : e.onAir = false)
    (hc : classNum c < classNum e.cls) (hpre : ∀ x ∈ pre, x.onAir = false → classNum x.cls ≤ classNum e.cls)
    (hpost : ∀ x ∈ post, x.onAir = false → classNum x.cls < classNum e.cls) :
    displaced c (pre ++ e :: post) = some (e, pre ++ post) := by
  have own : takeLast (waits e.cls) (pre ++ e :: post) = some (e, pre ++ post) :=
    takeLast_last (by simp [waits, he]) fun x hx => waits_eq_false fun hair hcls => by
      have := hpost x hx hair
      rw [hcls] at this
      omega
  have greater (hcls : e.cls = .c1) : takeLast (waits .c2) (pre ++ e :: post) = none := by
    refine takeLast_eq_none fun x hx => waits_eq_false fun hair h2 => ?_
    rw [List.mem_append, List.mem_cons] at hx
    rcases hx with hx | rfl | hx
    · have := hpre x hx hair
      rw [h2, hcls] at this
      simp [classNum] at this
    · rw [hcls] at h2
      cases h2
    · have := hpost x hx hair
      rw [h2, hcls] at this
      simp [classNum] at this
  cases c with
  | c0 =>
    cases hcls : e.cls with
    | c0 => simp [hcls] at hc
    | c1 => simp [displaced, greater hcls, hcls ▸ own]
    | c2 => simp [displaced, hcls ▸ own]
  | c1 =>
    cases hcls : e.cls with
    | c0 => simp [hcls, classNum] at hc
    | c1 => simp [hcls] at hc
    | c2 => simp [displaced, hcls ▸ own]
  | c2 => cases hcls : e.cls <;> simp [hcls, classNum] at hc

theorem displaced_eq_none {c : AccessClass} {q : List QEntry}
    (h : ∀ x ∈ q, x.onAir = true ∨ classNum x.cls ≤ classNum c) : displaced c q = none := by
  have none_ {d : AccessClass} (hd : classNum c < classNum d) : takeLast (waits d) q = none :=
    takeLast_eq_none fun x hx => waits_eq_false fun hair hcls => by
      have := (h x hx).resolve_left (by simp [hair])
      rw [hcls] at this
      omega
  cases c with
  | c0 => simp [displaced, none_ (d := .c2) (by decide), none_ (d := .c1) (by decide)]
  | c1 => simp [displaced, none_ (d := .c2) (by decide)]
  | c2 => rfl

/-! ## Offering (R21, R31, R34, R35) -/

/-- An arrival that is not of class 0, must wait, or finds no burst to cut is all that happens (R31). -/
theorem afterArrival_of_not {f : Frame} {nb : Option Nat} {s : State}
    (h : kindClass (frameKind f) ≠ .c0 ∨ nb ≠ none ∨ s.cuttable = false) : afterArrival f nb s = s := by
  unfold afterArrival classZeroArrival
  split_ifs with urgent cut
  · rcases h with h | h | h
    · exact absurd urgent.1 h
    · exact absurd urgent.2 h
    · rw [h] at cut
      cases cut
  · rfl
  · rfl

theorem cuttable_congr {s t : State} (h : t.chan.onAir = s.chan.onAir) : t.cuttable = s.cuttable := by
  simp only [State.cuttable, h]

theorem onAir_of_queued {f : Frame} {nb : Option Nat} {tag : OwnerTag} {s t : State} (h : Queued f nb tag s t) :
    t.chan.onAir = s.chan.onAir := by rw [h]

/-- A frame offered to a queue with room is queued, unless it is one that can cut a wake burst. -/
theorem offer_room_of_not {f : Frame} {nb : Option Nat} {tag : OwnerTag} {s : State} (hr : Room s)
    (h : kindClass (frameKind f) ≠ .c0 ∨ nb ≠ none ∨ s.cuttable = false) :
    offer f nb tag s = some (enqueue s.chan.queue f nb tag s) := by
  have calm := onAir_of_queued (enqueue_queued f nb tag s)
  simp only [offer, makeRoom_room hr, Option.map_some, tellDropped, arrive]
  rw [afterArrival_of_not (h.imp_right (Or.imp_right fun hc => (cuttable_congr calm).trans hc))]

/-- Settles O13: with room by `offer_room_of_not`, at a full queue by the entry `displaced` gives up; removals by the tags
they name. -/
theorem offeredFrameIsQueuedDisplacesOrIsRefused : Obligations.OfferedFrameIsQueuedDisplacesOrIsRefused := by
  refine ⟨fun f nb tag s => ⟨fun hr h => ⟨_, offer_room_of_not hr h, enqueue_queued ..⟩, fun hr h => ?_,
    fun hr pre post e hq he hc hpre hpost => ?_⟩, fun tag s => ⟨withdraw_waiting, withdraw_airing⟩, fun i s => ⟨rfl, ?_⟩⟩
  · simp only [offer, makeRoom_full hr, displaced_eq_none h, Option.map_none]
  · intro told
    have room : makeRoom (kindClass (frameKind f)) s = some (s.setQueue (pre ++ post), some e.tag) := by
      rw [makeRoom_full hr, hq, displaced_newest he hc hpre hpost, Option.map_some]
    have taken : offer f nb tag s = some (afterArrival f nb (arrive f nb tag told)) := by
      simp only [offer, room, Option.map_some]
      rfl
    refine ⟨arrive f nb tag told, enqueue_queued .., fun h => ?_, fun h => ?_⟩
    · rw [taken, afterArrival_of_not h]
    · rcases h with h | h | h | h | h | h | h | ⟨i, h⟩ <;> simp only [told, h, ownerDropped]
  · have own : (fun e : QEntry => tagOfSlot i e.tag) = fun e => match e.tag with
        | .check j | .request j _ _ => j == i
        | _ => false := by
      funext e
      cases e.tag <;> rfl
    exact congrArg (fun own : QEntry → Bool => ({ s with chan := { s.chan with
      queue := (s.chan.queue.filter (fun e => !(own e && !e.onAir))).map (fun e =>
        if own e && e.onAir then { e with withdrawn := true } else e) } } : State)) own

end Sys2Proof.Machine
end

section
/-! PROOFS. The commands on bonds: BIND (O24), the requests (O25), where a command is turned away (O26), TAKE and ACCEPT (O27),
HANDOVER and DECLINE (O28), a MOVE over a MOVE (O29). -/

namespace Sys2Proof.Machine

/-! ## The order a command on a bond is judged in -/

/-- A command that comes to its own rule answers as the rule does in the state it finds. -/
theorem takeCommand_eq {b : Bool} {k : Command} {s u t : State} {a : Prepared} (hu : taken b s = some u)
    (hk : k u = (t, a)) : takeCommand b k s = prepare a t := by
  rw [takeCommand_of_taken k hu, runCommand, hk]

section order

variable {traction : Identity} {rule : Fin 4 → OpEntry → Command} {u : State}

theorem withBond_bad (h : u.badIdentity traction = true) : withBond traction rule u = (u, badAnswer) := by
  simp [withBond, h]

theorem withBond_role (h : u.badIdentity traction = false) (hr : u.isOperator = false) :
    withBond traction rule u = (u, refusedAnswer .role) := by
  simp [withBond, h, hr]

theorem withBond_notBound (h : u.badIdentity traction = false) (hr : u.isOperator = true) (hf : u.findOp traction = none) :
    withBond traction rule u = (u, refusedAnswer .notBound) := by
  simp [withBond, h, hr, hf]

theorem withBond_onBond {i : Fin 4} {e : OpEntry} (h : OnBond traction i e u) : withBond traction rule u = rule i e u := by
  obtain ⟨hr, hb, hf⟩ := h
  simp [withBond, hb, hr, hf]

theorem moveCommand_eq {word : BitVec 16} {record : MoveRecord} (h : recordOfWord word = some record) :
    moveCommand traction word u = withBond traction (moveRule record) u := by
  simp [moveCommand, h]

theorem handoverCommand_eq {target : Identity} (h : u.badIdentity target = false) (hn : traction ≠ target) :
    handoverCommand traction target u = withBond traction (handoverRule target) u := by
  simp [handoverCommand, h, hn]

end order

/-- An entry in control is CONTROLLING or SILENT. -/
theorem commands_iff (e : OpEntry) : commands e = true ↔ e.st = .controlling ∨ e.st = .silent := by
  simp [commands]

/-- A frame of class 2 offered to a queue with room is queued, and nothing else happens. -/
theorem offer_room_class2 {f : Frame} {nb : Option Nat} {tag : OwnerTag} {s : State} (hr : Room s)
    (hc : kindClass (frameKind f) = .c2) : offer f nb tag s = some (enqueue s.chan.queue f nb tag s) :=
  offer_room hr (by rw [hc]; decide)

/-! ## BIND (R53, R55) -/

/-- Settles O24: the rule of BIND case by case; the BIND-ASK by the queue's room. -/
theorem bindMakesAnAskingEntry : Obligations.BindMakesAnAskingEntry := by
  intro traction s u hu
  refine ⟨fun hb => ?_, fun hb hr => ?_, fun hb hr => ⟨fun ho => ?_, fun ho hf => ?_, fun i ho hf => ?_⟩⟩
  · exact congrArg _ (takeCommand_eq hu (by simp [bindCommand, hb]))
  · exact congrArg _ (takeCommand_eq hu (by simp [bindCommand, hb, hr]))
  · exact congrArg _ (takeCommand_eq hu (by simp [bindCommand, hb, hr, ho]))
  · exact congrArg _ (takeCommand_eq hu (by simp [bindCommand, hb, hr, ho, hf]))
  · intro entry w
    have rule : bindCommand traction u
        = okOrBusy (offer (w.unitFrame traction 0 .bindAsk) none (.request i .bindAsk 0) w) (ensurePeer traction u) := by
      simp only [bindCommand, hb, hr, ho, hf, Bool.false_eq_true, Bool.not_true, if_false, Option.isSome_none]
      rfl
    have queue : w.chan = u.chan := by simp [w]
    refine ⟨fun room => ⟨_, enqueue_queued _ _ _ w, ?_⟩, fun full => ?_⟩
    · have roomy : Room w := by rwa [Room, queue]
      exact congrArg _ (takeCommand_eq hu (by rw [rule, offer_room_class2 roomy rfl, okOrBusy]))
    · have none_ : ¬ Room w := by rwa [Room, queue]
      exact congrArg _ (takeCommand_eq hu (by rw [rule, offer_full none_ rfl, okOrBusy]))

/-! ## A request queued (R66) -/

/-- A request that the queue takes, and the entry changed further, is queued with the entry as changed. -/
theorem asked_modOp {i : Fin 4} {e after : OpEntry} {body : ReqBody} {f : OpEntry → OpEntry} {s t : State}
    (h : Asked i e body after s t) : Asked i e body (f after) s (modOp i f t) := by
  obtain ⟨v, hv, rfl⟩ := h
  exact ⟨v, hv, modOp_putEntry ..⟩

/-- A full queue refuses a request of class 2, and nothing changes. -/
theorem sendRequest_full {i : Fin 4} {e : OpEntry} {body : ReqBody} {s : State} (hr : ¬ Room s)
    (hc : kindClass (reqKind body) = .c2) : sendRequest offer i e body s = none := by
  have refused := offer_full (f := s.requestFrame e.traction e.nextSeq body) (nb := none)
    (tag := requestTag i e.nextSeq body) hr (by rw [frameKind_requestFrame, hc])
  simp [sendRequest, refused]

/-- Settles O25: each rule comes to `sendRequest`, which finds room. -/
theorem requestCommandsQueueOneRequest : Obligations.RequestCommandsQueueOneRequest := by
  intro traction i e s u hu hb hq hr
  have entry : u.opEntry i = some e := opEntry_of_findOp hb.2.2
  refine ⟨fun hs => ?_, fun hs => ?_, fun hs word record hw => ?_, fun hs => ?_⟩
  · obtain ⟨t, asked, sent⟩ := sendRequest_room (body := .release true) entry hr
    refine ⟨t, asked, congrArg _ (takeCommand_eq hu ?_)⟩
    have unoffered : e.st ≠ .offered := by
      rintro h
      simp [h] at hs
    rw [withBond_onBond hb]
    simp [unbindRule, unoffered, hq, sent, okOrBusy]
  · obtain ⟨t, asked, sent⟩ := sendRequest_room (body := .release false) entry hr
    refine ⟨t, asked, congrArg _ (takeCommand_eq hu ?_)⟩
    rw [withBond_onBond hb]
    simp [releaseRule, (commands_iff e).mpr hs, hq, sent, okOrBusy]
  · obtain ⟨t, asked, sent⟩ := sendRequest_room (body := .move record) entry hr
    refine ⟨t, asked, congrArg _ (takeCommand_eq hu ?_)⟩
    rw [moveCommand_eq hw, withBond_onBond hb]
    simp [moveRule, (commands_iff e).mpr hs, hq, sent, okOrBusy]
  · obtain ⟨t, asked, sent⟩ := sendRequest_room (body := .resume) entry hr
    refine ⟨t, asked, congrArg _ (takeCommand_eq hu ?_)⟩
    rw [withBond_onBond hb]
    simp [resumeRule, (commands_iff e).mpr hs, hq, sent, okOrBusy]

/-! ## Turned away (R35, R61, R78, R81, R84, R87, R98, R103) -/

/-- The commands on a bond whose operands may be judged go through `withBond` with a rule of their own. -/
theorem bondCommand_rule {c : Instr} {traction target : Identity} {word : BitVec 16} {s u : State}
    (hu : taken false s = some u)
    (hc : c = .unbind traction ∨ c = .take traction ∨ c = .release traction ∨ c = .resume traction ∨ c = .accept traction
      ∨ c = .decline traction ∨ (c = .move traction word ∧ (recordOfWord word).isSome = true)
      ∨ (c = .handover traction target ∧ u.badIdentity target = false ∧ traction ≠ target)) :
    ∃ rule, exec c s = .next (runCommand (withBond traction rule) u) := by
  have run (k : Command) : takeCommand false k s = runCommand k u := takeCommand_of_taken k hu
  rcases hc with rfl | rfl | rfl | rfl | rfl | rfl | ⟨rfl, hw⟩ | ⟨rfl, ht, hn⟩
  · exact ⟨unbindRule, congrArg _ (run _)⟩
  · exact ⟨takeRule, congrArg _ (run _)⟩
  · exact ⟨releaseRule, congrArg _ (run _)⟩
  · exact ⟨resumeRule, congrArg _ (run _)⟩
  · exact ⟨acceptRule, congrArg _ (run _)⟩
  · exact ⟨declineRule, congrArg _ (run _)⟩
  · obtain ⟨record, hr⟩ := Option.isSome_iff_exists.mp hw
    refine ⟨moveRule record, congrArg _ ((run _).trans ?_)⟩
    rw [runCommand, runCommand, moveCommand_eq hr]
  · refine ⟨handoverRule target, congrArg _ ((run _).trans ?_)⟩
    rw [runCommand, runCommand, handoverCommand_eq ht hn]

/-- Settles O26: the common order by `withBond`, then each rule by its own first case that applies. -/
theorem bondCommandsAreTurnedAwayInOrder : Obligations.BondCommandsAreTurnedAwayInOrder := by
  intro c traction target word s u hu hc
  obtain ⟨rule, hrule⟩ := bondCommand_rule hu hc
  have answered {k : Command} {a : Prepared} (hk : k u = (u, a)) : takeCommand false k s = prepare a u :=
    takeCommand_eq hu hk
  refine ⟨fun hb => ?_, fun hb hr => ?_, fun hb hr hf => ?_, fun hw => ?_, fun ht => ?_, fun i e hb => ?_⟩
  · rw [hrule, runCommand, withBond_bad hb]
  · rw [hrule, runCommand, withBond_role hb hr]
  · rw [hrule, runCommand, withBond_notBound hb hr hf]
  · exact congrArg _ (answered (by simp [moveCommand, hw]))
  · refine congrArg _ (answered ?_)
    have bad : (u.badIdentity target || traction == target) = true := by simpa using ht
    simp only [handoverCommand, bad, if_true]
  · intro state busy commanding mayMove mayHand
    have onBond (rule : Fin 4 → OpEntry → Command) {a : Prepared} (hk : rule i e u = (u, a)) :
        takeCommand false (withBond traction rule) s = prepare a u := answered (by rw [withBond_onBond hb, hk])
    have onMove {a : Prepared} (hm : mayMove) (hk : ∀ record, moveRule record i e u = (u, a)) :
        takeCommand false (moveCommand traction word) s = prepare a u := by
      obtain ⟨record, hr⟩ := Option.isSome_iff_exists.mp hm
      exact answered (by rw [moveCommand_eq hr, withBond_onBond hb, hk])
    have onHand {a : Prepared} (hm : mayHand) (hk : handoverRule target i e u = (u, a)) :
        takeCommand false (handoverCommand traction target) s = prepare a u :=
      answered (by rw [handoverCommand_eq hm.1 hm.2, withBond_onBond hb, hk])
    have notInControl (h : ¬ commanding) : commands e = false := by
      rw [Bool.eq_false_iff]
      exact fun hc => h ((commands_iff e).mp hc)
    have inControl (h : commanding) : commands e = true := (commands_iff e).mpr h
    refine ⟨fun h => ?_, fun h => ?_, fun h => ⟨?_, ?_⟩, fun h => ⟨?_, ?_, fun hm => ?_⟩, fun h hm => ?_,
      fun hq => ⟨fun h => ?_, fun h => ?_, fun h => ⟨?_, ?_⟩, fun h hm hk => ?_, fun h hn hm => ?_⟩, fun h hq hn => ?_, fun h hn => ?_,
      fun full hq => ⟨fun h => ?_, fun h hn => ?_, fun h => ?_, fun h hn hm => ?_⟩⟩
    · exact congrArg _ (onBond unbindRule (by simp [unbindRule, h]))
    · exact congrArg _ (onBond takeRule (by simp [takeRule, h]))
    · exact congrArg _ (onBond acceptRule (by simp [acceptRule, h]))
    · exact congrArg _ (onBond declineRule (by simp [declineRule, h]))
    · exact congrArg _ (onBond releaseRule (by simp [releaseRule, notInControl h]))
    · exact congrArg _ (onBond resumeRule (by simp [resumeRule, notInControl h]))
    · exact congrArg _ (onMove hm fun record => by simp [moveRule, notInControl h])
    · exact congrArg _ (onHand hm (by simp only [handoverRule, h, if_true]))
    · exact congrArg _ (onBond unbindRule (by simp [unbindRule, h, hq]))
    · exact congrArg _ (onBond takeRule (by simp [takeRule, h, hq]))
    · exact congrArg _ (onBond releaseRule (by simp [releaseRule, inControl h, hq]))
    · exact congrArg _ (onBond resumeRule (by simp [resumeRule, inControl h, hq]))
    · obtain ⟨q, eq⟩ := Option.isSome_iff_exists.mp hq
      exact congrArg _ (onMove hm fun record => by simp [moveRule, inControl h, eq, hk q eq])
    · exact congrArg _ (onHand hm (by simp [handoverRule, h, hn, hq]))
    · exact congrArg _ (onBond takeRule (by simp [takeRule, h, hq, takenLimit, hn]))
    · exact congrArg _ (onBond acceptRule (by simp [acceptRule, h, takenLimit, hn]))
    · exact congrArg _ (onBond unbindRule (by simp [unbindRule, h, hq, sendRequest_full (body := .release true) full rfl, okOrBusy]))
    · exact congrArg _ (onBond takeRule (by
        simp [takeRule, h, hq, takenLimit, Nat.not_le.mpr hn, sendTake,
          sendRequest_full (body := .take false (u.opPeriod e.traction)) full rfl, okOrBusy]))
    · exact congrArg _ (onBond releaseRule (by
        simp [releaseRule, inControl h, hq, sendRequest_full (body := .release false) full rfl, okOrBusy]))
    · have stillFull : ¬ Room (ensurePeer target u) := by simpa [Room] using full
      exact congrArg _ (onHand hm (by 
        simp [handoverRule, h, hn, hq, sendRequest_full (body := .handover target) stillFull rfl, okOrBusy]))

/-! ## TAKE, ACCEPT, HANDOVER, DECLINE (R77, R78, R98, R103) -/

/-- A TAKE finds room and its entry becomes TAKING. -/
theorem sendTake_room {i : Fin 4} {e : OpEntry} {byTransfer : Bool} {s : State} (he : s.opEntry i = some e) (hr : Room s) :
    ∃ t, Asked i e (.take byTransfer (s.opPeriod e.traction)) { requested e (.take byTransfer (s.opPeriod e.traction)) with
        st := .taking, link := some { check := 0, period := s.opPeriod e.traction }, offer := none } s t
      ∧ sendTake i e byTransfer s = some t := by
  obtain ⟨t, asked, sent⟩ := sendRequest_room (body := .take byTransfer (s.opPeriod e.traction)) he hr
  exact ⟨_, asked_modOp (f := fun x => { x with st := .taking, link := some { check := 0, period := s.opPeriod e.traction }
                                                offer := none }) asked, by simp only [sendTake, sent, Option.map_some]⟩

/-- Settles O27: both rules come to `sendTake`, which finds room. -/
theorem takeAndAcceptSendATake : Obligations.TakeAndAcceptSendATake := by
  intro traction i e s u hu hb hr hn period taking
  have entry : u.opEntry i = some e := opEntry_of_findOp hb.2.2
  have below : ¬ takenLimit ≤ u.takenCount := Nat.not_le.mpr hn
  refine ⟨fun hs hq => ?_, fun hs => ?_⟩
  · obtain ⟨t, asked, sent⟩ := sendTake_room (byTransfer := false) entry hr
    refine ⟨t, asked, congrArg _ (takeCommand_eq hu ?_)⟩
    rw [withBond_onBond hb]
    simp [takeRule, hs, hq, below, sent, okOrBusy]
  · obtain ⟨t, asked, sent⟩ := sendTake_room (byTransfer := true) entry hr
    refine ⟨t, asked, congrArg _ (takeCommand_eq hu ?_)⟩
    rw [withBond_onBond hb]
    simp [acceptRule, hs, below, sent, okOrBusy]

theorem modOp_of_opEntry {i : Fin 4} {e : OpEntry} {f : OpEntry → OpEntry} {s : State} (h : s.opEntry i = some e) :
    modOp i f s = putEntry i (some (.op (f e))) s := by
  simp only [modOp, h]

/-- Settles O28: HANDOVER by `sendRequest`, DECLINE by the end of the offer in the state with its ANSWER queued. -/
theorem handoverAndDeclineEffects : Obligations.HandoverAndDeclineEffects := by
  intro traction target i e s u hu hb hr
  have entry : u.opEntry i = some e := opEntry_of_findOp hb.2.2
  refine ⟨fun ht hne hs hh hq => ?_, fun o hs ho => ?_⟩
  · have entry' : (ensurePeer target u).opEntry i = some e := by rw [opEntry_of_bond (ensurePeer_bond target u), entry]
    have room : Room (ensurePeer target u) := by simpa [Room] using hr
    obtain ⟨t, asked, sent⟩ := sendRequest_room (body := .handover target) entry' room
    refine ⟨_, asked_modOp (f := fun x => { x with handing := some target }) asked, congrArg _ (takeCommand_eq hu ?_)⟩
    rw [handoverCommand_eq ht hne, withBond_onBond hb]
    simp [handoverRule, hs, hh, hq, sent, okOrBusy]
  · have answered := enqueue_queued (u.unitFrame e.traction 0 (.answer .offer 0 .refused (some .declined))) none .answer u
    refine ⟨_, answered, congrArg _ (takeCommand_eq hu ?_)⟩
    have after := modOp_of_opEntry (f := fun x => { x with st := .standby, offer := none })
      ((opEntry_of_bond (bond_of_queued answered) i).trans entry)
    have class1 : kindClass (frameKind (u.unitFrame e.traction 0 (.answer .offer 0 .refused (some .declined)))) ≠ .c0 := by
      rw [show kindClass _ = .c1 from rfl]
      decide
    rw [withBond_onBond hb]
    simp only [declineRule, hs, ne_eq, not_true_eq_false, if_false, offer_room hr class1, Option.map_some, okOrBusy, endOffer,
      ho, Option.getD_some, after]
    split_ifs <;> rfl

/-! ## A MOVE over a MOVE (R33, R85) -/

/-- The waiting entry of a tag carries another frame. -/
theorem replaceFrame_waiting {tag : OwnerTag} {f : Frame} {s : State} (h : ∃ x ∈ s.chan.queue, waitsTagged tag x = true) :
    replaceFrame tag f s = some { s with chan := { s.chan with queue := s.chan.queue.map (fun x =>
      if waitsTagged tag x then { x with frame := f, needsWake := x.needsWake || s.wakeNeeded f } else x) } } :=
  if_pos (List.any_eq_true.mpr h)

theorem replaceFrame_none {tag : OwnerTag} {f : Frame} {s : State} (h : ¬ ∃ x ∈ s.chan.queue, waitsTagged tag x = true) :
    replaceFrame tag f s = none :=
  if_neg (fun hq => h (List.any_eq_true.mp hq))

/-- Settles O29: in place by `replaceFrame_waiting`, and otherwise by a new request and the withdrawal of the old one. -/
theorem moveSupersedesAnOutstandingMove : Obligations.MoveSupersedesAnOutstandingMove := by
  intro traction i e q old record word s u hu hb hs hq hbody hw waits inPlace frame superseded
  have entry : u.opEntry i = some e := opEntry_of_findOp hb.2.2
  have rule : moveCommand traction word u = supersede i e q record u := by
    rw [moveCommand_eq hw, withBond_onBond hb]
    simp [moveRule, (commands_iff e).mpr hs, hq, hbody, reqKind]
  have tag : requestTag i q.seq q.body = .request i .move q.seq := by rw [hbody]; rfl
  refine ⟨fun h => congrArg _ (takeCommand_eq hu (rule.trans ?_)), fun h hr => ?_⟩
  · obtain ⟨hphase, hresends, hwaits⟩ := h
    let t : State := { u with chan := { u.chan with queue := u.chan.queue.map (fun x =>
      if waits x then { x with frame := frame, needsWake := x.needsWake || u.wakeNeeded frame } else x) } }
    have replaced : replaceFrame (requestTag i q.seq q.body) (u.requestFrame e.traction q.seq (.move record)) u = some t := by
      rw [tag]
      exact replaceFrame_waiting hwaits
    have changed : modReq i (fun r => { r with body := .move record }) t
        = putEntry i (some (.op { e with req := some { q with body := .move record } })) t := by
      have same : t.opEntry i = some e := entry
      rw [modReq, modOp_of_opEntry same, hq]
      rfl
    simp only [supersede, hphase, hresends, and_self, if_true, replaced, changed]
    rfl
  · obtain ⟨t, asked, sent⟩ := sendRequest_room (body := .move record) entry hr
    refine ⟨t, asked, congrArg _ (takeCommand_eq hu (rule.trans ?_))⟩
    have stays : (if q.phase = .queued ∧ q.resends = 0 then
        replaceFrame (.request i .move q.seq) (u.requestFrame e.traction q.seq (.move record)) u else none) = none := by
      split_ifs with first
      · exact replaceFrame_none fun hwaits => h ⟨first.1, first.2, hwaits⟩
      · rfl
    simp only [supersede, tag, stays, sent, withdrawWaiting_eq]
    rfl

end Sys2Proof.Machine
end

section
/-! PROOFS. The other host commands: HALT, LOCAL-STOP and LOCAL-CLEAR (O30), TALK and TALK-END (O31), NOTE and PROBE (O32),
TEST and CLEAR-TEST (O33). -/

namespace Sys2Proof.Machine

/-! ## HALT, LOCAL-STOP, LOCAL-CLEAR (R118, R120, R121) -/

/-- Withdrawing the own copy changes the queue alone. -/
theorem withdrawCopy_frame (s : State) : withdrawCopy s = { s with chan := (withdrawCopy s).chan } := by
  unfold withdrawCopy
  split
  · exact withdraw_frame _ _
  · rfl

/-- Entering a pair changes the halt memory, and the queue where the pair that makes room had a relay waiting. -/
theorem enterPair_life (originator : Identity) (number : Byte) (s : State) :
    (enterPair originator number s).life = s.life := by
  have forget (e : HaltEntry) (t : State) : (forgetPair e t).life = t.life := by
    unfold forgetPair
    split_ifs <;> simp
  have room : (roomForPair s).life = s.life := by
    unfold roomForPair
    split_ifs
    · rfl
    · split
      · exact forget _ _
      · rfl
  unfold enterPair
  split_ifs
  · rfl
  · simp [room]

/-- Settles O30: the rule of HALT case by case, its copy 0 queued where there is room. -/
theorem stopCommandsSendAndChangeCauses : Obligations.StopCommandsSendAndChangeCauses := by
  intro code scope s u hu
  refine ⟨fun hs => ?_, fun hs ha => ?_, fun hs ha => ?_, fun ht => ⟨?_, ?_⟩, fun ht => ⟨?_, ?_⟩⟩
  · exact congrArg _ (takeCommand_eq hu (by simp [haltCommand, hs]))
  · exact congrArg _ (takeCommand_eq hu (by simp [haltCommand, hs, ha]))
  · intro n w room calm
    have next : u.nextHaltNumber = n := rfl
    have hw : (withdrawCopy u).setHalt { (withdrawCopy u).halt with own := .sending n scope 0, counter := some n } = w := by
      simp only [w]
      rw [withdrawCopy_frame]
      rfl
    have unit : (withdrawCopy u).unitId = u.unitId := by rw [withdrawCopy_frame]
    have frame : w.haltFrame scope n 0 = w.scopeFrame scope (.halt u.unitId n 0 false) := by
      rw [State.haltFrame, show w.unitId = u.unitId from unit]
      rfl
    have allowed : ¬ (scope = .yard ∧ u.cfg.authority = false) := by
      rintro ⟨rfl, hf⟩
      simp [hf] at ha
    have queued := enqueue_queued (w.scopeFrame scope (.halt u.unitId n 0 false)) none (.haltCopy n 0) w
    have taken_ := offer_room_of_not (tag := .haltCopy n 0) (f := w.scopeFrame scope (.halt u.unitId n 0 false))
      (nb := none) room (.inr (.inr calm))
    generalize enqueue w.chan.queue _ none (.haltCopy n 0) w = v at queued taken_
    refine ⟨v, queued, congrArg _ (takeCommand_eq hu ?_)⟩
    have unit_v : v.unitId = u.unitId := by rw [queued, ← unit]
    have life_v : (enterPair u.unitId n v).life = u.life := by
      rw [enterPair_life, queued]
      simp only [w]
      rw [withdrawCopy_frame]
    simp only [haltCommand, hs, allowed, if_false, next, hw, frame, taken_, Option.map_some, okOrBusy, haltTaken, unit_v,
      addHaltCause, isTraction_of_life life_v]
    cases scope <;> rfl
  · exact congrArg _ (takeCommand_eq hu (by simp [ht, addCause]))
  · exact congrArg _ (takeCommand_eq hu (by simp [ht, removeCause]))
  · exact congrArg _ (takeCommand_eq hu (by simp [ht]))
  · exact congrArg _ (takeCommand_eq hu (by simp [ht]))

/-! ## TALK and TALK-END (R141, R143, R153) -/

/-- A frame is queued alike whatever the floor. -/
theorem enqueue_setFloor (q : List QEntry) (f : Frame) (nb : Option Nat) (tag : OwnerTag) (x : Floor) (s : State) :
    enqueue q f nb tag (s.setFloor x) = (enqueue q f nb tag s).setFloor x := by
  unfold enqueue
  dsimp only
  split_ifs <;> rfl

theorem frameKind_scopeFrame (s : State) (scope : Scope) (b : Body) : frameKind (s.scopeFrame scope b) = bodyKind b := by
  cases scope <;> rfl

/-- With room the CLEAR of a spurt is queued and told of. -/
theorem sendClear_room {s : State} {sp : Spurt} {cause : SpurtEnd} {left : Nat} (hf : s.floor.st = .own sp)
    (hp : sp.phase = .clearing cause false left) (hr : Room s) : sendClear offer s
      = raiseSpurtEnd cause sp left noSubject
          ((enqueue s.chan.queue (s.scopeFrame sp.scope (.clear (BitVec.ofNat 8 sp.sent))) none .clear s).setFloorState
            (.own { sp with phase := .clearing cause true left })) := by
  have class2 : kindClass (frameKind (s.scopeFrame sp.scope (.clear (BitVec.ofNat 8 sp.sent)))) = .c2 := by
    rw [frameKind_scopeFrame]
    rfl
  simp only [sendClear, hf, hp, offer_room_class2 hr class2]

/-- A spurt that ends with no block on air has its CLEAR queued at once, where there is room. -/
theorem endSpurt_room {s : State} {sp : Spurt} (cause : SpurtEnd) (hf : s.floor.st = .own sp) (hv : s.voiceOnAir = false)
    (hr : Room s) : endSpurt offer cause s
      = raiseSpurtEnd cause { sp with phase := .clearing cause false s.floor.outlet.length, assembly := [] }
          s.floor.outlet.length noSubject
          ((enqueue s.chan.queue (s.scopeFrame sp.scope (.clear (BitVec.ofNat 8 sp.sent))) none .clear s).setFloor
            { s.floor with
              st := .own { sp with phase := .clearing cause true s.floor.outlet.length, assembly := [] }, outlet := [] }) := by
  let w := s.setFloor { s.floor with
    st := .own { sp with phase := .clearing cause false s.floor.outlet.length, assembly := [] }, outlet := [] }
  have silent : w.voiceOnAir = false := hv
  have ended : endSpurt offer cause s = sendClear offer w := by
    simp only [endSpurt, hf]
    exact if_neg (by rw [silent]; decide)
  rw [ended, sendClear_room (s := w) rfl rfl hr]
  simp only [w]
  rw [enqueue_setFloor]
  rfl

/-- Settles O31: TALK by the queue's room, TALK-END by the floor's state and the answer to the claim's removal. -/
theorem talkClaimsAndTalkEndEnds : Obligations.TalkClaimsAndTalkEndEnds := by
  intro code scope s u hu
  refine ⟨fun hs => ?_, fun hs hr => ?_, fun hs hr hf room => ⟨_, enqueue_queued .., ?_⟩, fun sp hf hp hv room =>
    ⟨_, enqueue_queued .., ?_⟩, fun hf hw => ?_, fun hf ha hw => ?_, fun hf => ?_⟩
  · exact congrArg _ (takeCommand_eq hu (by simp [talkCommand, hs]))
  · exact congrArg _ (takeCommand_eq hu (by simp [talkCommand, hs, hr]))
  · refine congrArg _ (takeCommand_eq hu ?_)
    have claimed := offer_room_class2 (f := u.scopeFrame scope (.claim scope)) (nb := none) (tag := .claim) room
      (by rw [frameKind_scopeFrame]; rfl)
    simp only [talkCommand, hs, hr, ne_eq, not_true_eq_false, if_false, hf, claimed, Option.map_some, okOrBusy]
    rw [enqueue_frame]
    rfl
  · refine congrArg _ (takeCommand_eq hu ?_)
    simp only [talkEndCommand, hf, hp, if_true, endSpurt_room .talkEnd hf hv room]
    rfl
  · refine congrArg _ (takeCommand_eq hu ?_)
    simp only [talkEndCommand, hf, removalAnswer_removed.mpr hw, withdraw_waiting hw]
    rfl
  · refine congrArg _ (takeCommand_eq hu ?_)
    simp only [talkEndCommand, hf, removalAnswer_onAir ha hw, withdraw_airing hw]
    rfl
  · refine congrArg _ (takeCommand_eq hu ?_)
    rcases hf with hf | ⟨h, hf⟩ <;> simp only [talkEndCommand, hf]

/-! ## NOTE and PROBE (R49, R184) -/

theorem modeOfByte_code (m : DestMode) : modeOfByte ((modeCode m).setWidth 8) = some m := by
  cases m <;> rfl

theorem modeOfByte_none {b : Byte} (h : 2 < b.toNat) : modeOfByte b = none := by
  unfold modeOfByte
  split_ifs with h4
  · have hb : b = 3 := by bv_omega
    subst hb
    rfl
  · rfl

/-- Settles O32: each rule case by case, its frame by the queue's room. -/
theorem noteAndProbeQueueTheirFrames : Obligations.NoteAndProbeQueueTheirFrames := by
  intro mode code dest text pattern target s u hu hleast hmost hpattern
  have note {t : State} {a : Prepared} (hk : noteCommand code dest text u = (t, a)) :
      exec (.note code dest text) s = .next (prepare a t) := by
    have known : packetKnown 0x40 (4 + text.length) = true := by
      simp [packetKnown, commandCounts]
      omega
    exact congrArg _ ((if_pos known).trans (takeCommand_eq hu hk))
  have probe {t : State} {a : Prepared} (hk : probeCommand target pattern u = (t, a)) :
      exec (.probe target pattern) s = .next (prepare a t) := by
    have known : packetKnown 0x41 (3 + pattern.length) = true := by
      simp [packetKnown, commandCounts]
      omega
    exact congrArg _ ((if_pos known).trans (takeCommand_eq hu hk))
  refine ⟨fun hc hd hn => ?_, fun h => note ?_, fun hb => probe ?_, fun hb hp => probe ?_, fun hb hp => ?_⟩
  · have fit : (!destValid mode dest || (mode == .unit && dest == u.unitId)) = false := by
      rcases hn with hn | hn <;> simp [hd, hn]
    have rule : noteCommand code dest text u = okOrBusy (offer (u.frameTo mode dest 0 (.note text)) none .note u) u := by
      simp only [noteCommand, hc, modeOfByte_code, fit, Bool.false_eq_true, if_false]
    refine ⟨fun room => ⟨_, enqueue_queued .., note ?_⟩, fun full => note ?_⟩
    · rw [rule, offer_room_class2 room rfl, okOrBusy]
    · rw [rule, offer_full full rfl, okOrBusy]
  · rcases h with h | ⟨hc, h⟩
    · simp only [noteCommand, modeOfByte_none h]
    · have unfit : (!destValid mode dest || (mode == .unit && dest == u.unitId)) = true := by
        rcases h with h | ⟨hm, hd⟩
        · simp [h]
        · simp [hm, hd]
      simp only [noteCommand, hc, modeOfByte_code, unfit, if_true]
  · simp [probeCommand, hb]
  · have running : u.noProbe = false := by
      unfold State.noProbe
      split
      · contradiction
      · rfl
    simp [probeCommand, hb, running]
  · have idle_ : u.noProbe = true := by simp [State.noProbe, hp]
    have rule : probeCommand target pattern u = okOrBusy ((offer (u.unitFrame target 0 (.probe pattern)) none .probe u).map
        (State.setProbe (.queued target pattern))) u := by
      simp [probeCommand, hb, idle_]
    refine ⟨fun room => ⟨_, enqueue_queued .., probe ?_⟩, fun full => probe ?_⟩
    · rw [rule, offer_room_class2 room rfl, Option.map_some, okOrBusy, enqueue_frame]
      rfl
    · rw [rule, offer_full full rfl, Option.map_none, okOrBusy]

/-! ## TEST and CLEAR-TEST (R175 to R179) -/

/-- Settles O33: the rules of TEST and CLEAR-TEST case by case. -/
theorem testStartsTheNamedTest : Obligations.TestStartsTheNamedTest := by
  intro s u hu hidle
  have answered {k : Command} {t : State} {a : Prepared} (hk : k u = (t, a)) : takeCommand true k s = prepare a t :=
    takeCommand_eq hu hk
  refine ⟨fun code hc => ?_, fun hcfg => ⟨fun hl => ?_, fun hl => ?_, fun ht hs hstill => ?_, fun ht h => ?_, fun ht => ?_, ?_⟩,
    fun hcfg => ?_, ?_⟩
  · exact congrArg _ (answered (by simp only [testCommand, hc, if_true]))
  · refine congrArg _ (answered (t := startLoop u) (a := okAnswer) ?_)
    simp [testCommand, Option.isSome_iff_ne_none.mp hcfg, hidle, hl]
  · refine congrArg _ (answered ?_)
    simp [testCommand, Option.isSome_iff_ne_none.mp hcfg, hidle, hl]
  · have may : u.mayStopline = true := by
      rw [State.mayStopline, hstill, Bool.and_true]
      exact bne_iff_ne.mpr hs
    refine congrArg _ (answered (t := u.setRunning (some (.stopline u.now 0 none))) (a := okAnswer) ?_)
    simp [testCommand, Option.isSome_iff_ne_none.mp hcfg, hidle, ht, may]
  · have may : u.mayStopline = false := by
      rcases h with h | h <;> simp [State.mayStopline, h]
    refine congrArg _ (answered ?_)
    simp [testCommand, Option.isSome_iff_ne_none.mp hcfg, hidle, ht, may]
  · refine congrArg _ (answered ?_)
    simp [testCommand, Option.isSome_iff_ne_none.mp hcfg, hidle, ht]
  · refine congrArg _ (answered (t := u.setRunning (some (.timer u.now u.supTimer))) (a := okAnswer) ?_)
    simp [testCommand, Option.isSome_iff_ne_none.mp hcfg, hidle]
  · refine congrArg _ (answered ?_)
    simp [testCommand, hcfg]
  · refine congrArg _ (answered ?_)
    simp only [clearTestCommand, hidle, Option.isSome_none, Bool.false_eq_true, if_false]
    rfl

end Sys2Proof.Machine
end

section
/-! PROOFS. The view of the channel: what judging it keeps and sets, and the edges of CDET (R19, R24, R36). -/

namespace Sys2Proof.Machine

/-! ## The redraw (R24) -/

/-- A redraw changes no field of an entry but k. -/
theorem redrawAll_map_noK (unit : Identity) : ∀ (n : Nat) (q : List QEntry),
    (redrawAll unit n q).1.map (fun e => { e with k := none }) = q.map (fun e => { e with k := none })
  | _, [] => rfl
  | n, e :: es => by
    cases hc : e.cls <;> simp [redrawAll, hc, redrawAll_map_noK unit _ es]

/-- A class has a positive range of k. -/
theorem kBound_pos (c : AccessClass) : 0 < kBound c := by cases c <;> decide

/-- After a redraw every entry of class 1 or 2 has a k of its class's range. -/
theorem redrawAll_drawn (unit : Identity) : ∀ (n : Nat) (q : List QEntry),
    ∀ e ∈ (redrawAll unit n q).1, e.cls ≠ .c0 → ∃ k, e.k = some k ∧ k < kBound e.cls
  | _, [] => fun _ h => absurd h List.not_mem_nil
  | n, x :: es => by
    intro e he hc
    cases hx : x.cls <;> rw [redrawAll] at he <;> simp only [hx, List.mem_cons] at he
    case c0 =>
      rcases he with rfl | he
      · exact absurd hx hc
      · exact redrawAll_drawn unit _ es e he hc
    case c1 | c2 =>
      rcases he with rfl | he
      · exact ⟨_, rfl, Nat.mod_lt _ (kBound_pos _)⟩
      · exact redrawAll_drawn unit _ es e he hc

/-! ## The view (R19, R20) -/

theorem viewNow_init {s : State} (h : s.life.st = .init) : viewNow s = .busy := by simp [viewNow, h]

theorem viewNow_own {s : State} (h : s.life.st ≠ .init) (ha : s.chan.onAir.isSome = true) : viewNow s = .own := by
  simp [viewNow, h, ha]

theorem viewNow_busy {s : State} (h : s.life.st ≠ .init) (ha : s.chan.onAir = none)
    (hb : s.pins.cdet = true ∨ s.inFrame = true) : viewNow s = .busy := by
  simp [viewNow, h, ha, hb]

theorem viewNow_stays_free {s : State} {since : Nat} (h : s.life.st ≠ .init) (ha : s.chan.onAir = none)
    (hc : s.pins.cdet = false) (hf : s.inFrame = false) (hv : s.chan.view = .free since) : viewNow s = .free since := by
  simp [viewNow, h, ha, hc, hf, hv]

theorem viewNow_turns_free {s : State} (h : s.life.st ≠ .init) (ha : s.chan.onAir = none)
    (hc : s.pins.cdet = false) (hf : s.inFrame = false) (hv : ∀ since, s.chan.view ≠ .free since) :
    viewNow s = .free s.now := by
  cases hw : s.chan.view
  case free t => exact absurd hw (hv t)
  all_goals simp [viewNow, h, ha, hc, hf, hw]

theorem isFree_iff {v : ChanView} : isFree v = true ↔ ∃ since, v = .free since := by
  cases v <;> simp [isFree]

/-- The judged view is the one that KEY, CDET and the receive state call for. -/
theorem judgeView_view (s : State) : (judgeView s).chan.view = viewNow s := by
  by_cases h : s.chan.view = .busy ∧ isFree (viewNow s) = true
  · exact congrArg (fun t : State => t.chan.view) (if_pos h)
  · exact congrArg (fun t : State => t.chan.view) (if_neg h)

theorem judgeView_of_redraw {s : State} (hb : s.chan.view = .busy) (hf : isFree (viewNow s) = true) :
    judgeView s = redraw (s.setChan { s.chan with view := viewNow s }) := if_pos ⟨hb, hf⟩

theorem judgeView_of_no_redraw {s : State} (h : ¬(s.chan.view = .busy ∧ isFree (viewNow s) = true)) :
    judgeView s = s.setChan { s.chan with view := viewNow s } := if_neg h

/-- Of the channel, judging the view changes the view and the queue only. -/
theorem judgeView_chan (s : State) :
    (judgeView s).chan = { s.chan with view := (judgeView s).chan.view, queue := (judgeView s).chan.queue } := by
  by_cases h : s.chan.view = .busy ∧ isFree (viewNow s) = true
  · rw [judgeView_of_redraw h.1 h.2]; rfl
  · rw [judgeView_of_no_redraw h]; rfl

/-- Judging the view changes the view, the queue and the count of draws only. -/
theorem judgeView_chan_frame (s : State) :
    judgeView s = { s with chan := { s.chan with view := (judgeView s).chan.view, queue := (judgeView s).chan.queue }
                           draws := (judgeView s).draws } := by
  rw [← judgeView_chan]
  exact judgeView_frame s

/-- Judging the view changes no field of an entry but k. -/
theorem judgeView_queue_noK (s : State) :
    (judgeView s).chan.queue.map (fun e => { e with k := none }) = s.chan.queue.map (fun e => { e with k := none }) := by
  by_cases h : s.chan.view = .busy ∧ isFree (viewNow s) = true
  · rw [judgeView_of_redraw h.1 h.2]
    exact redrawAll_map_noK _ _ _
  · rw [judgeView_of_no_redraw h]
    rfl

/-- Only a turn from BUSY to FREE redraws. -/
theorem judgeView_keeps_queue {s : State} (h : ¬(s.chan.view = .busy ∧ isFree (viewNow s) = true)) :
    (judgeView s).chan.queue = s.chan.queue ∧ (judgeView s).draws = s.draws := by
  rw [judgeView_of_no_redraw h]
  exact ⟨rfl, rfl⟩

/-- A turn from BUSY to FREE gives every entry of class 1 or 2 a k of its class's range. -/
theorem judgeView_drawn {s : State} (hb : s.chan.view = .busy) (hf : isFree (viewNow s) = true) :
    ∀ e ∈ (judgeView s).chan.queue, e.cls ≠ .c0 → ∃ k, e.k = some k ∧ k < kBound e.cls := by
  rw [judgeView_of_redraw hb hf]
  exact redrawAll_drawn _ _ _

/-- A channel that stays FREE is judged without a change. -/
theorem judgeView_of_stays_free {s : State} {since : Nat} (hv : s.chan.view = .free since)
    (hw : viewNow s = .free since) : judgeView s = s := by
  rw [judgeView_of_no_redraw (by simp [hv]), hw, ← hv]
  rfl

/-! ## The edges of CDET (R19, R36) -/

theorem exec_cdetActive {s : State} (h : s.pins.cdet = false) :
    exec .cdetActive s = .next (judgeView
      { s with pins := { s.pins with cdet := true }
               chan := { s.chan with spell :=
                 if s.chan.onAir.isNone && s.life.st != .init then some { start := s.now, jam := false }
                 else s.chan.spell } }) := by
  change execCdetActive s = _
  unfold execCdetActive carrierUp
  simp only [h, Bool.false_eq_true, if_false]
  change Host.Outcome.next (judgeView (if (s.chan.onAir.isNone && s.life.st != .init) = true then _ else _)) = _
  by_cases hc : (s.chan.onAir.isNone && s.life.st != .init) = true
  · rw [if_pos hc, if_pos hc]; rfl
  · rw [if_neg hc, if_neg hc]; rfl

/-- JAM's end, written out (R172). -/
theorem jamEnded_eq (s : State) : jamEnded s =
    if s.started && s.cfg.jamStops then changeCauses 0 causeJamStop noSubject (faultEnd .jam noSubject s)
    else faultEnd .jam noSubject s := rfl

theorem jammed_iff {s : State} : s.jammed = true ↔ s.chan.spell.map Spell.jam = some true := by
  unfold State.jammed
  cases s.chan.spell <;> simp

theorem exec_cdetInactive {s : State} (h : s.pins.cdet = true) :
    let t := judgeView { s with pins := { s.pins with cdet := false }, modem := .hunting
                                chan := { s.chan with spell := none } }
    exec .cdetInactive s = .next (if s.chan.spell.map Spell.jam = some true then jamEnded t else t) := by
  intro t
  change execCdetInactive s = _
  unfold execCdetInactive carrierDown
  rw [if_pos h]
  by_cases hj : s.jammed = true
  · rw [if_pos (jammed_iff.mp hj)]
    simp only [hj, if_true]; rfl
  · rw [if_neg (fun h' => hj (jammed_iff.mpr h'))]
    simp only [hj]; rfl

/-- Settles O35: by the cases of the view that KEY, CDET and the receive state call for. -/
theorem channelViewFollowsKeyCarrierAndFrames : Obligations.ChannelViewFollowsKeyCarrierAndFrames := by
  intro s
  refine ⟨⟨_, rfl, judgeView_chan_frame s, ?_, ?_, ?_, ?_, judgeView_queue_noK s, ?_, ?_⟩, exec_cdetActive, ?_⟩
  · intro h
    rw [judgeView_view, viewNow_init h]
  · intro h ha
    rw [judgeView_view, viewNow_own h ha]
  · intro h ha hb
    rw [judgeView_view, viewNow_busy h ha hb]
  · intro h ha hc hf
    refine ⟨fun since hv => judgeView_of_stays_free hv (viewNow_stays_free h ha hc hf hv), fun hv => ?_⟩
    rw [judgeView_view, viewNow_turns_free h ha hc hf hv]
  · intro h
    refine judgeView_keeps_queue ?_
    rintro ⟨hb, hf⟩
    obtain ⟨since, hw⟩ := isFree_iff.mp hf
    rw [judgeView_view] at h
    simp [hb, hw] at h
  · intro hb hw e he
    rw [judgeView_view] at hw
    have hk := judgeView_drawn hb (isFree_iff.mpr hw) e he
    constructor <;> intro hc <;> simpa [hc, kBound] using hk
  · intro hc t
    have hlife : t.life = s.life := by simp [t]
    rw [exec_cdetInactive hc, jamEnded_eq, started_of_life hlife, cfg_of_life hlife]

end Sys2Proof.Machine
end

section
/-! PROOFS. The rate hunter (R3 to R7), entries that become eligible, and JAM (R23, R31, R36). -/

namespace Sys2Proof.Machine

/-! ## The rate hunter -/

/-- A bit not longer than the greatest of all steps the entry no further than it must (R4). -/
theorem steppedEntry_of_le {entry : Rate} {us : Nat} (h : us ≤ 1040) :
    steppedEntry entry us
      = some (if us ≤ 260 ∧ entry = .full then .full else if us ≤ 520 ∧ entry ≠ .quarter then .half else .quarter) := by
  by_cases fast : us ≤ 260
  · have mid : us ≤ 520 := by omega
    cases entry <;> simp [steppedEntry, slowness, mostBit, fast, mid, h]
  · by_cases mid : us ≤ 520 <;> cases entry <;> simp [steppedEntry, slowness, mostBit, List.find?, fast, mid, h]

/-- A bit longer than the greatest of all steps to no entry (R4). -/
theorem steppedEntry_of_gt {entry : Rate} {us : Nat} (h : 1040 < us) : steppedEntry entry us = none := by
  have fast : ¬ us ≤ 260 := by omega
  have mid : ¬ us ≤ 520 := by omega
  have slow : ¬ us ≤ 1040 := by omega
  cases entry <;> simp [steppedEntry, slowness, mostBit, fast, mid, slow]

theorem leastBit_eq (entry : Rate) :
    leastBit entry = (match entry with | .full => 156 | .half => 261 | .quarter => 521) := by
  cases entry <;> rfl

/-- A measured bit of a hunt that has not locked: it steps the entry, and counts unless it is too short for it (R4). -/
theorem measureBit_of_stepped {entry e : Rate} {bits us : Nat} (hb : bits < 8) (h : steppedEntry entry us = some e) :
    measureBit entry bits us = .locking e (if us < leastBit e then 0 else bits + 1) := by
  have hb' : ¬ lockBits ≤ bits := by simp only [lockBits]; omega
  simp only [measureBit, if_neg hb', h]

theorem measureBit_of_long {entry : Rate} {bits us : Nat} (hb : bits < 8) (h : 1040 < us) :
    measureBit entry bits us = .hunting := by
  have hb' : ¬ lockBits ≤ bits := by simp only [lockBits]; omega
  simp only [measureBit, if_neg hb', steppedEntry_of_gt h]

theorem exec_preambleBitMeasured {s : State} {us : Nat} (h : s.hunts = true) :
    exec (.preambleBitMeasured us) s = .next (s.setModem (huntStep s.modem us)) :=
  congrArg Host.Outcome.next (if_pos h)

theorem exec_rateLock {s : State} {entry : Rate} {bits : Nat} (hm : s.modem = .locking entry bits) (hb : 8 ≤ bits) :
    exec .rateLock s = .next (wake offer wakeByPreamble (s.setModem (.locked entry bits))) := by
  change execRateLock s = _
  simp only [execRateLock, hm, lockBits, hb, if_true]

theorem exec_syncWordFound {s : State} {entry : Rate} {bits : Nat} {samples : BitVec 16}
    (hm : s.modem = .locked entry bits) : exec (.syncWordFound samples) s
      = .next (if samples = syncWord then judgeView (s.setModem (.inFrame entry bits s.now)) else s) := by
  change execSyncWordFound samples s = _
  simp only [execSyncWordFound, hm]

/-- A station in another life state is not woken (R165). -/
theorem wake_of_ne {cause : Byte} {s : State} (h : s.life.st ≠ .dormant) : wake offer cause s = s := if_neg h

/-- A DORMANT station whose queue has room wakes with the PRESENT queued (R165). -/
theorem wake_room {s : State} (cause : Byte) (hs : s.life.st = .dormant) (hr : Room s) :
    ∃ v, Queued (s.crewFrame .present) none .present
        { s with life := { s.life with st := .active, sniff := none, window := none, activity := some s.now } } v
      ∧ wake offer cause s = raise .dormancy false 0 [2, cause] v := by
  have class2 (x : State) : kindClass (frameKind (x.crewFrame .present)) = .c2 := rfl
  have hr' : Room (s.setLife { s.life with st := .active, sniff := none, window := none, activity := some s.now }) := hr
  refine ⟨_, enqueue_queued _ _ _ _, ?_⟩
  simp only [wake, hs, if_true, sendPresent, offerOr]
  rw [offer_room_class2 hr' (class2 _)]
  rfl

/-- A frame being read ends, and the view is judged (R6). -/
theorem endReading_eq (s : State) : endReading s = judgeView { s with modem := .hunting } := rfl

/-- Settles O36: event by event, by the state of the hunter. -/
theorem rateHunterMovesThroughItsStates : Obligations.RateHunterMovesThroughItsStates := by
  intro s us bits entry samples
  refine ⟨fun hh hm => ?_, fun hh hm hb hu => ?_, fun hh hm hb hu => ?_, fun hm hb hs => ?_, fun hm hb hs hr => ?_,
    fun hm hu => ?_, fun hm passed hp => ?_, fun hm => ?_, fun hm hne => ?_, fun hf cause bytes => ⟨?_, fun hb => ?_⟩⟩
  · rw [exec_preambleBitMeasured hh, hm]; rfl
  · intro stepped least
    rw [exec_preambleBitMeasured hh, hm, huntStep, measureBit_of_stepped hb (steppedEntry_of_le hu), leastBit_eq]
    rfl
  · rw [exec_preambleBitMeasured hh, hm, huntStep, measureBit_of_long hb hu]; rfl
  · rw [exec_rateLock hm hb, wake_of_ne (s := s.setModem (.locked entry bits)) hs]; rfl
  · obtain ⟨v, hv, hw⟩ := wake_room (s := s.setModem (.locked entry bits)) wakeByPreamble hs hr
    exact ⟨v, hv, (exec_rateLock hm hb).trans (congrArg _ hw)⟩
  · change execHuntFailed (.longBit us) s = _
    simp only [execHuntFailed, hm, mostBit, hu, if_true]; rfl
  · change execHuntFailed (.windowPassed passed) s = _
    simp only [execHuntFailed, hm, syncWindowBits, hp, if_true]; rfl
  · exact (exec_syncWordFound hm).trans (congrArg _ (if_pos rfl))
  · exact (exec_syncWordFound hm).trans (congrArg _ (if_neg hne))
  · exact congrArg Host.Outcome.next (if_pos hf)
  · exact congrArg Host.Outcome.next (if_pos (by rw [hf, hb]; rfl))

/-! ## Eligibility (R23, R31) -/

/-- An entry that becomes eligible, marked so. -/
def markEligible (s : State) (e : QEntry) : QEntry := if newlyEligible s e then { e with eligibleTaken := true } else e

theorem entryEligibleDue_of_mem {s : State} (h : ∃ e ∈ s.chan.queue, newlyEligible s e = true) :
    entryEligibleDue s = true := List.any_eq_true.mpr h

/-- The class 0 entries among those that become eligible are a class 0 arrival. -/
theorem becomeEligible_eq (s : State) : becomeEligible s =
    if s.chan.queue.any (fun e => newlyEligible s e && e.cls == .c0) then
      classZeroArrival (s.setQueue (s.chan.queue.map (markEligible s)))
    else s.setQueue (s.chan.queue.map (markEligible s)) := rfl

theorem exec_entryEligible {s : State} (h : ∃ e ∈ s.chan.queue, newlyEligible s e = true) :
    exec .entryEligible s = .next (becomeEligible s) :=
  congrArg Host.Outcome.next (if_pos (entryEligibleDue_of_mem h))

/-- A cut of a burst whose entry no owner has asked back puts it among the waiting entries again (R31). -/
theorem queueAfterCut_of_kept {q : List QEntry} (h : ∀ e ∈ q, e.withdrawn = false) :
    queueAfterCut q = q.map (fun e => { e with onAir := false }) := by
  have keeps : q.filter (fun e => !(e.onAir && e.withdrawn)) = q :=
    List.filter_eq_self.mpr fun e he => by simp [h e he]
  rw [queueAfterCut, keeps]

theorem withdrawnOnAir_of_kept {s : State} (h : ∀ e ∈ s.chan.queue, e.withdrawn = false) : s.withdrawnOnAir = none := by
  have none_ : s.chan.queue.find? (fun e => e.onAir && e.withdrawn) = none :=
    List.find?_eq_none.mpr fun e he => by simp [h e he]
  simp only [State.withdrawnOnAir, none_, Option.map_none]

/-- A class 0 arrival cuts the wake burst, and no owner is told when none has asked for the entry back (R31, R32). -/
theorem classZeroArrival_cuts {s : State} (hc : s.cuttable = true) (h : ∀ e ∈ s.chan.queue, e.withdrawn = false) :
    classZeroArrival s = releaseKey (s.setQueue (s.chan.queue.map (fun e => { e with onAir := false }))) := by
  simp only [classZeroArrival, hc, if_true, cutBurst, withdrawnOnAir_of_kept h, tellDropped, queueAfterCut_of_kept h]

theorem classZeroArrival_of_not {s : State} (hc : s.cuttable = false) : classZeroArrival s = s := by
  simp only [classZeroArrival, hc, Bool.false_eq_true, if_false]

theorem markEligible_withdrawn (s : State) (e : QEntry) : (markEligible s e).withdrawn = e.withdrawn := by
  unfold markEligible; split <;> rfl

/-- Settles O38: the entries by whether a class 0 entry among them finds a burst to cut; JAM by its own rule. -/
theorem entriesBecomeEligibleAndSpellsBecomeJam : Obligations.EntriesBecomeEligibleAndSpellsBecomeJam := by
  intro s new mark
  refine ⟨fun some_ calm => ?_, fun urgent hc kept => ?_, fun start hsp hover => ?_⟩
  · rw [exec_entryEligible some_, becomeEligible_eq]
    by_cases hu : s.chan.queue.any (fun e => newlyEligible s e && e.cls == .c0) = true
    · obtain ⟨e, he, hn⟩ := List.any_eq_true.mp hu
      obtain ⟨hnew, h0⟩ := Bool.and_eq_true_iff.mp hn
      have hc : s.cuttable = false := calm.resolve_right fun h => h e he hnew (beq_iff_eq.mp h0)
      rw [if_pos hu, classZeroArrival_of_not (s := s.setQueue (s.chan.queue.map (markEligible s))) hc]
      rfl
    · rw [if_neg hu]
      rfl
  · obtain ⟨e, he, hnew, h0⟩ := urgent
    have hu : s.chan.queue.any (fun e => newlyEligible s e && e.cls == .c0) = true :=
      List.any_eq_true.mpr ⟨e, he, Bool.and_eq_true_iff.mpr ⟨hnew, beq_iff_eq.mpr h0⟩⟩
    have kept' : ∀ x ∈ (s.setQueue (s.chan.queue.map (markEligible s))).chan.queue, x.withdrawn = false := by
      intro x hx
      obtain ⟨y, hy, rfl⟩ := List.mem_map.mp hx
      rw [markEligible_withdrawn, kept y hy]
    rw [exec_entryEligible ⟨e, he, hnew⟩, becomeEligible_eq, if_pos hu,
      classZeroArrival_cuts (s := s.setQueue (s.chan.queue.map (markEligible s))) hc kept']
    change Host.Outcome.next (releaseKey (s.setQueue ((s.chan.queue.map (markEligible s)).map fun e =>
      { e with onAir := false }))) = _
    rw [List.map_map]
    rfl
  · have due : jamDue s = true := by simp [jamDue, hsp, State.reached, jamMs, hover]
    change execJamDetected s = _
    simp only [execJamDetected, hsp, if_pos due]
    rfl

end Sys2Proof.Machine
end

section
/-! PROOFS. The end of a frame on air: what its owner does when told "sent" (R29, R49, R72, R100, R121, R127, R142, R152 to
R154, R162, R163). The rules are about a state `g` that a frame has left and the unit's record in it. -/

namespace Sys2Proof.Machine

/-- A frame in a scope comes from the identity and the configuration. -/
theorem scopeFrame_congr {s t : State} (hu : t.unitId = s.unitId) (hl : t.life = s.life) (scope : Scope) (b : Body) :
    t.scopeFrame scope b = s.scopeFrame scope b := by
  cases scope <;> simp [State.scopeFrame, State.crewFrame, State.yardFrame, frameTo_congr hu hl, cfg_of_life hl]

/-! ## The frame leaves the air (R29) -/

theorem frameSentDue_of {s : State} {a : OnAir} (ha : s.chan.onAir = some a)
    (hp : a.phase = .preamble ∨ a.phase = .frame) (ht : a.keyedAt + airMs a.frame a.rate a.wake ≤ s.now) :
    frameSentDue s = true := by
  rcases hp with hp | hp <;> simp [frameSentDue, ha, hp, State.reached, ht]

theorem exec_frameSent {s : State} {a : OnAir} (ha : s.chan.onAir = some a)
    (hp : a.phase = .preamble ∨ a.phase = .frame) (ht : a.keyedAt + airMs a.frame a.rate a.wake ≤ s.now) :
    exec .frameSent s = .next (tellSent a s.airTag (leaveAir s)) := by
  change execFrameSent s = _
  simp only [execFrameSent, ha, frameSentDue_of ha hp ht, if_true]

theorem tellSent_owner {a : OnAir} {tag : OwnerTag} {g : State} (hv : a.voice = none) :
    tellSent a (some tag) g = ownerSent offer tag g := by
  simp only [tellSent, hv]

theorem tellSent_voice {a : OnAir} {number : Byte} {tag : Option OwnerTag} {g : State} (hv : a.voice = some number) :
    tellSent a tag g = voiceSent offer g := by
  simp only [tellSent, hv]

theorem tellSent_none {a : OnAir} {g : State} (hv : a.voice = none) : tellSent a none g = g := by
  simp only [tellSent, hv]

/-- KEY is released: nothing is on air, so no block is. -/
theorem leaveAir_onAir (s : State) : (leaveAir s).chan.onAir = none := by
  change (judgeView _).chan.onAir = none
  exact congrArg (fun c => c.onAir) (judgeView_chan _)

theorem leaveAir_voiceOnAir (s : State) : (leaveAir s).voiceOnAir = false := by
  rw [State.voiceOnAir, leaveAir_onAir]

/-! ## The operator's request, the probe and the transfer (R49, R72, R100) -/

/-- The request that the tag names begins its answer wait. -/
theorem requestSent_awaits {i : Fin 4} {e : OpEntry} {q : Request} {g : State} (he : g.opEntry i = some e)
    (hq : e.req = some q) (hp : q.phase = .queued) : requestSent i (reqKind q.body) q.seq g
      = putEntry i (some (.op { e with req := some { q with phase := .awaiting (g.now + 300) } })) g := by
  have is : g.requestIs i (reqKind q.body) q.seq = true := by simp [State.requestIs, he, hq]
  have queued : g.requestQueued i = true := by simp [State.requestQueued, he, hq, hp]
  simp only [requestSent, is, queued, Bool.and_self, if_true, modReq, modOp_of_opEntry he, hq, Option.map_some]
  rfl

theorem attached_of_bond {s t : State} (h : t.bond = s.bond) : t.attached = s.attached := by
  simp only [State.attached, trEntry_of_bond h]

theorem pendingTransfer_of_bond {s t : State} (h : t.bond = s.bond) : t.pendingTransfer = s.pendingTransfer := by
  simp only [State.pendingTransfer, attached_of_bond h, h]

theorem probeSent_awaits {g : State} {p : PeerTable} {target : Identity} {pattern : List Byte} (hg : g.peers = p)
    (hq : p.probe = .queued target pattern) :
    probeSent g = { g with peers := { p with probe := .awaiting target pattern g.now } } := by
  subst hg
  simp only [probeSent, hq]
  rfl

/-! ## The floor (R142, R152 to R154) -/

/-- The spurt ends in a state whose floor is OWN and whose air is silent: its CLEAR is queued, with room. -/
theorem endSpurt_floor_room {g : State} {x : Floor} {sp : Spurt} (cause : SpurtEnd) (hx : x.st = .own sp)
    (hv : g.voiceOnAir = false) (hr : Room g) : endSpurt offer cause (g.setFloor x)
      = raiseSpurtEnd cause sp x.outlet.length noSubject
          ((enqueue g.chan.queue (g.scopeFrame sp.scope (.clear (BitVec.ofNat 8 sp.sent))) none .clear g).setFloor
            { x with st := .own { sp with phase := .clearing cause true x.outlet.length, assembly := [] }, outlet := [] }) := by
  rw [endSpurt_room (s := g.setFloor x) cause hx hv hr, enqueue_setFloor]
  rfl

/-- The CLEAR of a spurt that was waiting for its block to leave the air is queued, with room. -/
theorem sendClear_floor_room {g : State} {x : Floor} {sp : Spurt} {cause : SpurtEnd} {left : Nat} (hx : x.st = .own sp)
    (hp : sp.phase = .clearing cause false left) (hr : Room g) : sendClear offer (g.setFloor x)
      = raiseSpurtEnd cause sp left noSubject
          ((enqueue g.chan.queue (g.scopeFrame sp.scope (.clear (BitVec.ofNat 8 sp.sent))) none .clear g).setFloor
            { x with st := .own { sp with phase := .clearing cause true left } }) := by
  rw [sendClear_room (s := g.setFloor x) hx hp hr, enqueue_setFloor]
  rfl

/-- A spurt whose CLEAR is already queued has nothing more to send. -/
theorem sendClear_offered {g : State} {x : Floor} {sp : Spurt} {cause : SpurtEnd} {left : Nat} (hx : x.st = .own sp)
    (hp : sp.phase = .clearing cause true left) : sendClear offer (g.setFloor x) = g.setFloor x := by
  simp only [sendClear, State.setFloor_floor, hx, hp]

theorem claimSent_opens {g : State} {x : Floor} {scope : Scope} (hg : g.floor = x) (h : x.st = .claiming scope none) :
    claimSent offer g = { g with floor := { x with st := .own (openSpurt scope) } } := by
  subst hg
  simp only [claimSent, h]
  rfl

theorem claimSent_ends {g : State} {x : Floor} {scope : Scope} {cause : SpurtEnd} (hg : g.floor = x)
    (h : x.st = .claiming scope (some cause)) :
    claimSent offer g = endSpurt offer cause (g.setFloor { x with st := .own (openSpurt scope) }) := by
  subst hg
  simp only [claimSent, h]
  rfl

theorem clearGone_frees {g : State} {x : Floor} {sp : Spurt} {cause : SpurtEnd} {offered : Bool} {left : Nat}
    (hg : g.floor = x) (h : x.st = .own sp) (hp : sp.phase = .clearing cause offered left) :
    clearGone g = { g with floor := { x with st := .free } } := by
  subst hg
  simp only [clearGone, h, hp]
  rfl

/-- A voice block that has left the air is counted, and then ends the spurt or sends its CLEAR where it must. -/
theorem voiceSent_talking {g : State} {x : Floor} {sp : Spurt} (hg : g.floor = x) (h : x.st = .own sp)
    (hp : sp.phase = .talking) : voiceSent offer g =
      let counted := g.setFloor { x with st := .own { sp with sent := sp.sent + 1 } }
      if sp.sent + 1 = g.cfg.talkLimit then endSpurt offer .limit counted else counted := by
  subst hg
  simp only [voiceSent, h, hp]
  rfl

theorem voiceSent_clearing {g : State} {x : Floor} {sp : Spurt} {cause : SpurtEnd} {offered : Bool} {left : Nat}
    (hg : g.floor = x) (h : x.st = .own sp) (hp : sp.phase = .clearing cause offered left) :
    voiceSent offer g = sendClear offer (g.setFloor { x with st := .own { sp with sent := sp.sent + 1 } }) := by
  subst hg
  simp only [voiceSent, h, hp]
  rfl

/-! ## The halt unit (R121, R127) -/

/-- With room, the next copy of the own halt is queued, not before 80 ms later. -/
theorem haltCopyGone_next {g : State} {x : HaltUnit} {number : Byte} {scope : Scope} {copy : Nat} (hg : g.halt = x)
    (h : x.own = .sending number scope copy) (hc : copy < 2) (hr : Room g) :
    haltCopyGone offer haltCopies number copy g =
      let t := g.setHalt { x with own := .sending number scope (copy + 1) }
      enqueue t.chan.queue (g.scopeFrame scope (.halt g.unitId number (BitVec.ofNat 8 (copy + 1)) false))
        (some (g.now + 80)) (.haltCopy number (copy + 1)) t := by
  subst hg
  have room : Room (g.setOwnHalt (.sending number scope (copy + 1))) := hr
  simp only [haltCopies, haltCopyGone, h, hc, and_self, if_true]
  rw [offer_room_of_not room (.inr (.inl (Option.some_ne_none _)))]
  rfl

/-- The last copy ends the own halt. -/
theorem haltCopyGone_last {g : State} {x : HaltUnit} {number : Byte} {scope : Scope} (hg : g.halt = x)
    (h : x.own = .sending number scope 2) :
    haltCopyGone offer haltCopies number 2 g = { g with halt := { x with own := .idle } } := by
  subst hg
  simp [haltCopies, haltCopyGone, h]
  rfl

theorem setRelay_eq {g : State} {x : HaltUnit} (originator : Identity) (number : Byte) (queued : Bool) (hg : g.halt = x) :
    setRelay originator number queued g = { g with halt := { x with memory := x.memory.map (fun e =>
      if e.originator == originator && e.number == number then { e with relayQueued := queued } else e) } } := by
  subst hg
  rfl

/-! ## The DORMANT notice (R162, R163) -/

theorem noticeSent_queued {g : State} {l : Life} {x : Floor} (hl : g.life = l) (hx : g.floor = x) (h : l.notice = .queued) :
    noticeSent offer g = raise .dormancy false noSubject [1, 0] { g with
      life := { l with st := .dormant, notice := .idle, sniff := some (g.now + 1000), window := none }
      floor := { x with playout := [], playPos := 0 } } := by
  subst hl hx
  simp only [noticeSent, h]
  rfl

/-- A withdrawn notice that was sent all the same is followed by a PRESENT, with room. -/
theorem noticeSent_withdrawing {g : State} {l : Life} (hl : g.life = l) (h : l.notice = .withdrawing) (hr : Room g) :
    noticeSent offer g =
      let t := g.setLife { l with notice := .idle }
      raise .dormancy false noSubject [3, 0] (enqueue t.chan.queue (g.crewFrame .present) none .present t) := by
  subst hl
  have room : Room (g.setNotice .idle) := hr
  simp only [noticeSent, h, sendPresent, offerOr]
  rw [offer_room_class2 room rfl]
  rfl


/-! ## The obligation -/

/-- What the CLEAR of a spurt that ends in the state `g` comes to, its report included. -/
theorem raiseSpurtEnd_eq (cause : SpurtEnd) (sp : Spurt) (left : Nat) (subject : Identity) (g : State) :
    raiseSpurtEnd cause sp left subject g = raise .spurtEnd false subject
      [match cause with | .talkEnd => 1 | .limit => 2 | .overridden => 3 | .lost => 4, scopeCode sp.scope,
       BitVec.ofNat 8 sp.sent, BitVec.ofNat 8 sp.discarded, BitVec.ofNat 8 left] g := by
  cases cause <;> rfl

/-- Settles O37: the owner's own rule in the state that the frame has left. -/
theorem frameSentLeavesTheAirAndTellsItsOwner : Obligations.FrameSentLeavesTheAirAndTellsItsOwner := by
  intro s a ha hp ht gone cleared opened
  have told : exec .frameSent s = .next (tellSent a s.airTag gone) := exec_frameSent ha hp ht
  have owner {tag : OwnerTag} {t : State} (hv : a.voice = none) (htag : s.airTag = some tag)
      (h : ownerSent offer tag gone = t) : exec .frameSent s = .next t := by
    rw [told, htag, tellSent_owner hv, h]
  have voiced {number : Byte} {t : State} (hv : a.voice = some number) (h : voiceSent offer gone = t) :
      exec .frameSent s = .next t := by
    rw [told, tellSent_voice hv, h]
  have floor : gone.floor = s.floor := leaveAir_floor s
  have halt : gone.halt = s.halt := leaveAir_halt s
  have life : gone.life = s.life := leaveAir_life s
  have peers : gone.peers = s.peers := leaveAir_peers s
  have bond : gone.bond = s.bond := leaveAir_bond s
  have now : gone.now = s.now := leaveAir_now s
  have unitId : gone.unitId = s.unitId := leaveAir_unitId s
  have framed (scope : Scope) (b : Body) : gone.scopeFrame scope b = s.scopeFrame scope b :=
    scopeFrame_congr unitId life scope b
  have silent : gone.voiceOnAir = false := leaveAir_voiceOnAir s
  have ends {sp : Spurt} {assembly : List CodecFrame} {cause : SpurtEnd} {left : Nat} {outlet : List VoiceBlock}
      (h : exec .frameSent s = .next (raiseSpurtEnd cause sp left noSubject
        ((enqueue gone.chan.queue (gone.scopeFrame sp.scope (.clear (BitVec.ofNat 8 sp.sent))) none .clear gone).setFloor
          { s.floor with
            st := .own { sp with phase := .clearing cause true left, assembly := assembly }, outlet := outlet }))) :
      cleared { sp with assembly := assembly } cause left outlet := by
    rw [framed, raiseSpurtEnd_eq] at h
    exact ⟨_, enqueue_queued .., h⟩
  refine ⟨fun hv hn => ?_, fun hv tag htag => ⟨?_, ?_, ?_, ?_, ?_, ?_, ?_, ?_, ?_, ?_, ?_, ?_⟩, ?_⟩
  · rw [told, hn, tellSent_none hv]
  · rintro (rfl | rfl | rfl | rfl | rfl | rfl | rfl | ⟨i, rfl⟩) <;> exact owner hv htag rfl
  · rintro i kind seq e q rfl he hq rfl rfl hph
    refine owner hv htag ?_
    have he' : gone.opEntry i = some e := (opEntry_of_bond bond i).trans he
    rw [ownerSent, requestSent_awaits he' hq hph, now]
  · rintro target pattern rfl hq
    refine owner hv htag ?_
    rw [ownerSent, probeSent_awaits peers hq, now]
  · rintro x rfl hx
    refine owner hv htag ?_
    have hx' : gone.pendingTransfer = some x := (pendingTransfer_of_bond bond).trans hx
    rw [ownerSent, offerGone, modTransfer_eq hx', now]
    rfl
  · rintro scope rfl hf
    exact owner hv htag (claimSent_opens floor hf)
  · rintro scope cause rfl hf hr
    have hs := owner hv htag ((claimSent_ends floor hf).trans (endSpurt_floor_room cause rfl silent hr))
    exact ends hs
  · rintro sp cause offered left rfl hf hph
    exact owner hv htag (clearGone_frees floor hf hph)
  · rintro number scope copy rfl hown hc hr
    have next := haltCopyGone_next halt hown hc hr
    rw [framed, now, unitId] at next
    exact ⟨_, enqueue_queued .., owner hv htag next⟩
  · rintro number scope rfl hown
    exact owner hv htag (haltCopyGone_last halt hown)
  · rintro originator number rfl
    exact owner hv htag (setRelay_eq originator number false halt)
  · rintro rfl hn
    refine owner hv htag ?_
    rw [ownerSent, noticeSent_queued life floor hn, now]
  · rintro rfl hn hr
    have present : gone.crewFrame .present = s.crewFrame .present := framed .crew _
    have withdrawn := noticeSent_withdrawing life hn hr
    rw [present] at withdrawn
    exact ⟨_, enqueue_queued .., owner hv htag withdrawn⟩
  · intro number sp hv hf counted
    refine ⟨fun hph hne => ?_, fun hph he hr => ?_, fun cause left hph hr => ?_, fun cause left hph => ?_⟩
    · refine voiced hv ?_
      rw [voiceSent_talking floor hf hph, cfg_of_life life]
      exact if_neg hne
    · have hs := voiced hv ((voiceSent_talking floor hf hph).trans ((if_pos (by rw [cfg_of_life life]; exact he)).trans
        (endSpurt_floor_room .limit rfl silent hr)))
      exact ends hs
    · have hs := voiced hv ((voiceSent_clearing floor hf hph).trans (sendClear_floor_room rfl hph hr))
      exact ends hs
    · exact voiced hv ((voiceSent_clearing floor hf hph).trans (sendClear_offered rfl hph))

end Sys2Proof.Machine
end

section
/-! PROOFS. Received frames: where one ends, what it teaches the peer table, and the conflict over an identity (R6, R7, R9 to
R11, R22, R40, R41, R46, R47). -/

namespace Sys2Proof.Machine

/-! ## A received-frame event -/

/-- Every received-frame event is a frame received for some owner. -/
theorem exec_frame {c : Instr} {f : Frame} (h : c.frame? = some f) :
    ∃ (dev : Nat) (owner : Owner), ∀ s, exec c s = .next (receive dev f owner s) := by
  cases c <;> cases h <;> exact ⟨_, _, fun s => rfl⟩

theorem inFrame_iff {s : State} : s.inFrame = true ↔ ∃ rate bits stamp, s.modem = .inFrame rate bits stamp := by
  unfold State.inFrame
  cases s.modem <;> simp

/-- A frame read to its end is taken with the rate and the stamp of its reading. -/
theorem receive_inFrame {dev : Nat} {f : Frame} {owner : Owner} {s : State} {rate : Rate} {bits stamp : Nat}
    (h : s.modem = .inFrame rate bits stamp) :
    receive dev f owner s = acceptFrame f rate stamp (qualityClass dev) owner (endReading s) := by
  simp only [receive, h]

/-- Outside ACTIVE, and malformed, a frame ends unheard (R7, R9). -/
theorem acceptFrame_unheard {f : Frame} {rate : Rate} {stamp quality : Nat} {owner : Owner} {s : State}
    (h : s.life.st ≠ .active ∨ frameWellFormed f = false) : acceptFrame f rate stamp quality owner s = s := by
  refine if_neg fun heard => ?_
  rcases h with h | h
  · exact h heard.1
  · exact absurd heard.2 (by simp [h])

/-- A frame of the own identity shows a conflict (R10). -/
theorem acceptFrame_own {f : Frame} {rate : Rate} {stamp quality : Nat} {owner : Owner} {s : State}
    (hl : s.life.st = .active) (hw : frameWellFormed f = true) (hs : f.header.sender = s.unitId) :
    acceptFrame f rate stamp quality owner s = showConflict s.unitId stamp s := by
  rw [acceptFrame, if_pos ⟨hl, hw⟩, if_pos hs]

theorem acceptFrame_other {f : Frame} {rate : Rate} {stamp quality : Nat} {owner : Owner} {s : State}
    (hl : s.life.st = .active) (hw : frameWellFormed f = true) (hs : f.header.sender ≠ s.unitId) :
    acceptFrame f rate stamp quality owner s = deliver f rate stamp quality owner s := by
  rw [acceptFrame, if_pos ⟨hl, hw⟩, if_neg hs]

/-! ## Conflicts (R10, R47) -/

theorem showConflict_new {id : Identity} {stamp : Nat} {s : State} (h : s.peers.conflict = none) :
    showConflict id stamp s
      = faultLive .idConflict id { s with peers := { s.peers with conflict := some { deadline := stamp + 30000, id := id } } } := by
  simp only [showConflict, h]
  rfl

theorem showConflict_again {id : Identity} {stamp : Nat} {x : Conflict} {s : State} (h : s.peers.conflict = some x) :
    showConflict id stamp s
      = { s with peers := { s.peers with conflict := some { deadline := stamp + 30000, id := x.id } } } := by
  simp only [showConflict, h]
  rfl

/-- A conflict shown has its deadline 30 s after the stamp. -/
theorem showConflict_deadline (id : Identity) (stamp : Nat) (s : State) :
    (showConflict id stamp s).peers.conflict.map Conflict.deadline = some (stamp + 30000) := by
  cases h : s.peers.conflict with
  | none => rw [showConflict_new h, faultLive_peers]; rfl
  | some x => rw [showConflict_again h]; rfl

theorem showConflict_entries (id : Identity) (stamp : Nat) (s : State) :
    (showConflict id stamp s).peers.entries = s.peers.entries := by
  cases h : s.peers.conflict with
  | none => rw [showConflict_new h, faultLive_peers]
  | some x => rw [showConflict_again h]

/-- Settles O39: by whether a deadline stands, and whether the clock has reached it. -/
theorem ownIdentityFrameShowsAConflict : Obligations.OwnIdentityFrameShowsAConflict := by
  intro c f rate bits stamp s hc hm hl hw hs read
  obtain ⟨dev, owner, he⟩ := exec_frame hc
  have unitId : read.unitId = s.unitId := endReading_unitId s
  have peers : read.peers = s.peers := endReading_peers s
  have life : read.life = s.life := endReading_life s
  have shown : exec c s = .next (showConflict s.unitId stamp read) := by
    rw [he, receive_inFrame hm]
    exact congrArg _ ((acceptFrame_own (by rw [← hl]; exact congrArg (fun l => l.st) life) hw (hs.trans unitId.symm)).trans
      (congrArg (fun i => showConflict i stamp read) unitId))
  refine ⟨fun hn => ?_, fun hn => ?_, fun t x hx => ⟨fun hr => ⟨x.id, ?_⟩, fun hr => ?_⟩⟩
  · rw [shown, showConflict_new (by rw [peers, hn]), peers]
  · obtain ⟨x, hx⟩ := Option.isSome_iff_exists.mp hn
    exact ⟨x.id, by rw [shown, showConflict_again (by rw [peers, hx]), peers]⟩
  · change execConflictDeadline t = _
    simp only [execConflictDeadline, conflictDue, hx, State.reached, hr, decide_true, if_true]
    rfl
  · change execConflictDeadline t = _
    simp only [execConflictDeadline, conflictDue, hx, State.reached, Nat.not_le.mpr hr, decide_false, Bool.false_eq_true,
      if_false]

/-! ## Learning (R22, R40, R41, R46, R47) -/

/-- The peer table after a frame, before the waiting entries' flags are judged again. -/
def learnEntries (f : Frame) (rate : Rate) (stamp quality : Nat) (s : State) : State :=
  match s.peer f.header.sender with
  | some p =>
    let t := s.setEntries (s.peers.entries.map fun q => if q.id = p.id then updatePeer q f rate stamp quality else q)
    if conflicts p f.header then showConflict p.id stamp t else t
  | none => addPeer (newPeer f rate stamp quality s.now) s

/-- A frame changes the dormant mark of its sender. -/
def marksChange (f : Frame) (s : State) : Bool :=
  match s.peer f.header.sender with
  | some p => p.dormant != isDormant f.body
  | none => isDormant f.body

/-- Learning is the change of the table, and after a change of a mark the judgement of the flags. -/
theorem learn_eq (f : Frame) (rate : Rate) (stamp quality : Nat) (s : State) : learn f rate stamp quality s =
    if marksChange f s then refreshWake (learnEntries f rate stamp quality s) else learnEntries f rate stamp quality s := by
  unfold learn learnEntries marksChange
  cases s.peer f.header.sender with
  | none => rfl
  | some p => by_cases hd : p.dormant = isDormant f.body <;> simp [hd]

theorem learnEntries_frame (f : Frame) (rate : Rate) (stamp quality : Nat) (s : State) :
    learnEntries f rate stamp quality s = { s with
      peers := (learnEntries f rate stamp quality s).peers, fault := (learnEntries f rate stamp quality s).fault
      host := (learnEntries f rate stamp quality s).host } := by
  unfold learnEntries
  dsimp only
  split
  · split
    · rw [showConflict_frame]; rfl
    · rfl
  · rw [addPeer_frame]

theorem learnEntries_chan (f : Frame) (rate : Rate) (stamp quality : Nat) (s : State) :
    (learnEntries f rate stamp quality s).chan = s.chan := by rw [learnEntries_frame]

/-- Only the flags of the waiting entries depend on a change of a mark. -/
theorem learn_peers (f : Frame) (rate : Rate) (stamp quality : Nat) (s : State) :
    (learn f rate stamp quality s).peers = (learnEntries f rate stamp quality s).peers
      ∧ (learn f rate stamp quality s).fault = (learnEntries f rate stamp quality s).fault
      ∧ (learn f rate stamp quality s).host = (learnEntries f rate stamp quality s).host := by
  rw [learn_eq]
  split <;> exact ⟨rfl, rfl, rfl⟩

theorem learn_chan_of_same {f : Frame} {rate : Rate} {stamp quality : Nat} {s : State} (h : marksChange f s = false) :
    (learn f rate stamp quality s).chan = s.chan := by
  rw [learn_eq, h]
  exact learnEntries_chan ..

/-- Whether a wake burst is needed is judged by the peer table alone (R22). -/
theorem wakeNeeded_congr {s t : State} (h : t.peers = s.peers) (f : Frame) : t.wakeNeeded f = s.wakeNeeded f := by
  simp only [State.wakeNeeded, State.marked, State.peer, h]

theorem refreshWake_chan (s : State) : (refreshWake s).chan = { s.chan with queue := s.chan.queue.map (fun e =>
    if e.onAir then e else { e with needsWake := e.needsWake || s.wakeNeeded e.frame }) } := rfl

theorem learn_queue_of_change {f : Frame} {rate : Rate} {stamp quality : Nat} {s : State} (h : marksChange f s = true) :
    (learn f rate stamp quality s).chan = { s.chan with queue := s.chan.queue.map (fun e =>
      if e.onAir then e
      else { e with needsWake := e.needsWake || (learn f rate stamp quality s).wakeNeeded e.frame }) } := by
  simp only [wakeNeeded_congr (learn_peers f rate stamp quality s).1]
  rw [learn_eq, if_pos h, refreshWake_chan, learnEntries_chan]

/-- Of the channel, learning changes the queue alone. -/
theorem learn_chan (f : Frame) (rate : Rate) (stamp quality : Nat) (s : State) :
    (learn f rate stamp quality s).chan = { s.chan with queue := (learn f rate stamp quality s).chan.queue } := by
  cases h : marksChange f s with
  | false => rw [learn_chan_of_same h]
  | true =>
    have after := learn_queue_of_change (rate := rate) (stamp := stamp) (quality := quality) h
    rw [congrArg (fun c => c.queue) after]
    exact after

/-- A known sender's entry takes what the frame states; a header that differs shows a conflict. -/
theorem learnEntries_known {f : Frame} {rate : Rate} {stamp quality : Nat} {s : State} {p : PeerEntry}
    (h : s.peer f.header.sender = some p) : learnEntries f rate stamp quality s =
      let t := s.setEntries (s.peers.entries.map fun q => if q.id = p.id then updatePeer q f rate stamp quality else q)
      if conflicts p f.header then showConflict p.id stamp t else t := by
  simp only [learnEntries, h]

theorem learnEntries_new {f : Frame} {rate : Rate} {stamp quality : Nat} {s : State}
    (h : s.peer f.header.sender = none) :
    learnEntries f rate stamp quality s = addPeer (newPeer f rate stamp quality s.now) s := by
  simp only [learnEntries, h]

theorem conflicts_of_differs {p : PeerEntry} {h : Header} {r : Role} {c : Byte} (hr : p.role = some r)
    (hc : p.crew = some c) (hd : r ≠ h.role ∨ c ≠ h.crew) : conflicts p h = true := by
  simp [conflicts, hr, hc, hd]

theorem conflicts_of_agrees {p : PeerEntry} {h : Header}
    (ha : p.role = none ∨ p.crew = none ∨ (p.role = some h.role ∧ p.crew = some h.crew)) : conflicts p h = false := by
  rcases ha with ha | ha | ⟨hr, hc⟩
  · simp [conflicts, ha]
  · cases hr : p.role <;> simp [conflicts, ha, hr]
  · simp [conflicts, hr, hc]

/-- The first of the entries heard least recently: those before it were heard later, those after it no earlier. -/
theorem leastRecent_of_first {pre post : List PeerEntry} {q : PeerEntry} (hpre : ∀ r ∈ pre, heardBase q < heardBase r)
    (hpost : ∀ r ∈ post, heardBase q ≤ heardBase r) : leastRecent (pre ++ q :: post) = some q := by
  induction pre with
  | nil =>
    simp only [List.nil_append, leastRecent]
    cases h : leastRecent post with
    | none => rfl
    | some x => exact if_pos (hpost x (leastRecent_mem h))
  | cons p pre ih =>
    have later := hpre p List.mem_cons_self
    simp only [List.cons_append, leastRecent, ih fun r hr => hpre r (List.mem_cons_of_mem p hr)]
    exact if_neg (Nat.not_le.mpr later)

theorem roomFor_of_lt {s : State} (h : s.peers.entries.length < 32) : s.roomFor = some s.peers.entries := if_pos h

/-- In a full table the first of the unpinned entries heard least recently gives up its place. -/
theorem roomFor_full {s : State} {pre post : List PeerEntry} {q : PeerEntry} (h : 32 ≤ s.peers.entries.length)
    (he : s.peers.entries = pre ++ q :: post) (hq : s.pinned q.id = false)
    (hpre : ∀ r ∈ pre, s.pinned r.id = false → heardBase q < heardBase r)
    (hpost : ∀ r ∈ post, s.pinned r.id = false → heardBase q ≤ heardBase r) :
    s.roomFor = some (s.peers.entries.filter (fun r => r.id != q.id)) := by
  have unpinned : s.peers.entries.filter (fun p => !s.pinned p.id)
      = pre.filter (fun p => !s.pinned p.id) ++ q :: post.filter (fun p => !s.pinned p.id) := by
    rw [he, List.filter_append, List.filter_cons_of_pos (by simp [hq])]
  have least : leastRecent (s.peers.entries.filter (fun p => !s.pinned p.id)) = some q := by
    rw [unpinned]
    refine leastRecent_of_first (fun r hr => ?_) (fun r hr => ?_) <;>
      obtain ⟨hm, hp⟩ := List.mem_filter.mp hr
    · exact hpre r hm (by simpa using hp)
    · exact hpost r hm (by simpa using hp)
  have full : ¬ s.peers.entries.length < peerCapacity := Nat.not_lt.mpr h
  rw [State.roomFor, if_neg full, least]

theorem addPeer_entries {p : PeerEntry} {s : State} {es : List PeerEntry} (h : s.roomFor = some es) :
    (addPeer p s).peers.entries = es ++ [p] := by
  simp only [addPeer, h]
  rfl

/-- The rate learned from a body: the rate it states, or else the faster of the known and the frame's. -/
theorem learnedRate_eq (known rate : Rate) (b : Body) : learnedRate known rate b =
    (match b with
     | .bindReply _ _ r _ _ => r
     | .echo _ r _ => r
     | _ => faster known rate) := by
  cases b <;> rfl

/-- Settles O40: a frame by its reading, its well-formedness and its owner; learning by whether the sender is known and
the table has room. -/
theorem framesEndOrTeachThePeerTable : Obligations.FramesEndOrTeachThePeerTable := by
  refine ⟨fun c f s hc => ?_, fun f rate stamp quality s => ?_⟩
  · obtain ⟨dev, owner, he⟩ := exec_frame hc
    refine ⟨fun hf => ?_, fun hf hu => ?_, ?_⟩
    · rw [he, receive_not_inFrame hf]
    · obtain ⟨rate, bits, stamp, hm⟩ := inFrame_iff.mp hf
      rw [he, receive_inFrame hm, acceptFrame_unheard (by simpa using hu)]
      rfl
    · rintro rate stamp ⟨⟨bits, hm⟩, hl, hw, hs⟩ hfor hfloor
      refine ⟨qualityClass dev, by unfold qualityClass; omega, ?_⟩
      rw [he, receive_inFrame hm, acceptFrame_other (by simpa using hl) hw (by simpa using hs)]
      have unowned : ((learn f rate stamp (qualityClass dev) (endReading s)).forMe f.header
          || floorKind (frameKind f)) = false := by
        simpa [State.forMe, State.cfg, hfloor] using hfor
      rw [deliver]
      exact congrArg _ (if_neg (by rw [unowned]; decide))
  · intro stated dormant new
    have hstated : ∀ known, stated known = learnedRate known rate f.body := fun known => (learnedRate_eq ..).symm
    have hdormant : dormant = isDormant f.body := by
      simp only [dormant]; cases f.body <;> rfl
    have hnew : new = newPeer f rate stamp quality s.now := by
      simp only [new, hstated, hdormant]; rfl
    obtain ⟨hpeers, hfault, hhost⟩ := learn_peers f rate stamp quality s
    refine ⟨_, rfl, ?_, ?_, fun p hp => ⟨?_, fun r c hr hcr hd => ?_, fun ha => ?_⟩, fun hn hlt => ?_,
      fun hn hfull pre q post hsplit hq hpre hpost => ?_⟩
    · rw [← learn_chan]
      exact learn_frame f rate stamp quality s
    · intro changes
      have hch : changes = marksChange f s := by
        simp only [changes, hdormant, marksChange] <;> rfl
      rw [hch]
      exact ⟨fun h => learn_chan_of_same h, fun h => congrArg (fun c => c.queue) (learn_queue_of_change h)⟩
    · rw [hpeers, learnEntries_known hp]
      have after : ∀ t : State, (if conflicts p f.header then showConflict p.id stamp t else t).peers.entries
          = t.peers.entries := by
        intro t; split
        · exact showConflict_entries ..
        · rfl
      rw [after]
      simp only [hstated, hdormant]
      rfl
    · rw [hpeers, learnEntries_known hp, conflicts_of_differs hr hcr hd]
      exact showConflict_deadline ..
    · rw [hpeers, hfault, hhost, learnEntries_known hp, conflicts_of_agrees ha]
      exact ⟨rfl, rfl, rfl⟩
    · rw [hpeers, learnEntries_new hn, addPeer_entries (roomFor_of_lt hlt), hnew]
    · rw [hpeers, learnEntries_new hn, addPeer_entries (roomFor_full hfull hsplit hq hpre hpost), hnew]

end Sys2Proof.Machine
end

section
/-! PROOFS. Request frames at a traction: other roles, duplicates, MOVE and RESUME (R17, R67, R68, R76, R86, R88, R92, R119).
-/

namespace Sys2Proof.Machine

/-! ## Contact (R92) -/

/-- Contact changes the entry, the faults and the reports only. -/
theorem contacted_frame (i : Fin 4) (e : TrEntry) (s : State) :
    contacted i e s = { s with bond := (contacted i e s).bond, fault := (contacted i e s).fault
                               host := (contacted i e s).host } := by
  unfold contacted
  split
  · rfl
  · rfl
  · dsimp only
    split
    · rw [raise_frame]; rfl
    · rw [faultEnd_frame, raise_frame]; rfl

theorem contacted_standby {i : Fin 4} {e : TrEntry} {s : State} (h : e.st = .standby) : contacted i e s = s := by
  simp only [contacted, h]

theorem contacted_room {i : Fin 4} {e : TrEntry} {s : State} (h : Room s) : Room (contacted i e s) := by
  rwa [Room, contacted_chan]

theorem contactEntry_controlling {e : TrEntry} (h : e.st = .controlling ∨ e.st = .lost) :
    (contactEntry e).st = .controlling := by
  rcases h with h | h <;> simp [contactEntry, h, heardPeriod]

theorem contactEntry_standby {e : TrEntry} (h : e.st = .standby) : contactEntry e = e := by simp [contactEntry, h]

/-! ## The sender's standing (R86, R88) -/

theorem controls_of_findTr {s : State} {id : Identity} {i : Fin 4} {e : TrEntry} (h : s.findTr id = some (i, e)) :
    s.controls id = (e.st == .controlling) := by
  simp only [State.controls, h]

/-- Contact from an operator in control leaves it CONTROLLING. -/
theorem contacted_controls {id : Identity} {i : Fin 4} {e : TrEntry} {s : State} (hf : s.findTr id = some (i, e))
    (h : e.st = .controlling ∨ e.st = .lost) : (contacted i e s).controls id = true := by
  rw [controls_of_findTr (contacted_findTr hf), contactEntry_controlling h, beq_self_eq_true]

theorem not_controls_of_none {s : State} {id : Identity} (h : s.findTr id = none) : s.controls id = false := by
  simp only [State.controls, h]

theorem notInControl_standby {s : State} {id : Identity} {i : Fin 4} {e : TrEntry} (h : s.findTr id = some (i, e)) :
    s.notInControl id = if s.heldByOther id then .held else .state := by
  simp [State.notInControl, trSlot_of_findTr h]

theorem notInControl_none {s : State} {id : Identity} (h : s.findTr id = none) :
    s.notInControl id = if s.heldByOther id then .held else .notBound := by
  simp [State.notInControl, trSlot_of_findTr_none h]

/-! ## A request frame heard (R76) -/

/-- The five request frames of a traction are taken by `takeRequest`; a HANDOVER alone is no contact. -/
theorem exec_request {c : Instr} {dev stamp : Nat} {h : Header} {b : Body} {s u : State}
    (hc : (∃ r, b = .move r ∧ c = .moveFrame dev h r) ∨ (b = .resume ∧ c = .resumeFrame dev h)
      ∨ (∃ n t, b = .take n t ∧ c = .takeFrame dev h n t) ∨ (∃ x, b = .release x ∧ c = .releaseFrame dev h x)
      ∨ (∃ x, b = .handover x ∧ c = .handoverFrame dev h x)) (hu : HeardAt ⟨h, b⟩ dev stamp s u) :
    ∃ judge, exec c s
      = .next (judgeNotice (takeRequest h (bodyKind b) (bodyKind b != .handover) judge u)) := by
  rcases hc with ⟨r, rfl, rfl⟩ | ⟨rfl, rfl⟩ | ⟨n, t, rfl, rfl⟩ | ⟨x, rfl, rfl⟩ | ⟨x, rfl, rfl⟩ <;>
    exact ⟨_, congrArg Host.Outcome.next (receive_heard _ hu)⟩

/-- A request frame at another role is refused ROLE. -/
theorem takeRequest_role {h : Header} {kind : Kind} {isContact : Bool} {judge : State → Judged} {s : State}
    (ht : s.isTraction = false) :
    takeRequest h kind isContact judge s = sendAnswer h.sender kind h.seq .refused (some .role) s := by
  simp [takeRequest, ht]

/-- A duplicate is answered as recorded, after its contact. -/
theorem takeRequest_duplicate {h : Header} {kind : Kind} {isContact : Bool} {judge : State → Judged} {i : Fin 4}
    {e : TrEntry} {verdict : Verdict} {reason : Option Reason} {s : State} (ht : s.isTraction = true)
    (hf : s.findTr h.sender = some (i, e))
    (hl : e.last = some { kind := kind, seq := h.seq, verdict := verdict, reason := reason }) :
    takeRequest h kind isContact judge s
      = sendAnswer h.sender kind h.seq verdict reason (if isContact then contacted i e s else s) := by
  have hlast : (contactEntry e).last = e.last := by unfold contactEntry heardPeriod; split <;> rfl
  have recorded {w : State} {e' : TrEntry} (hw : w.findTr h.sender = some (i, e')) (he : e'.last = e.last) :
      w.duplicate h.sender kind h.seq = some { kind := kind, seq := h.seq, verdict := verdict, reason := reason } := by
    simp [State.duplicate, hw, he, hl]
  cases isContact with
  | false => simp [takeRequest, ht, recorded hf rfl]
  | true => simp [takeRequest, ht, contact_eq hf, recorded (contacted_findTr hf) hlast]

/-- Settles O41: another role refuses; a duplicate is answered from the record. -/
theorem requestFramesAtOtherRolesAndDuplicates : Obligations.RequestFramesAtOtherRolesAndDuplicates := by
  rintro c kind dev stamp h b s u hc rfl hu hr
  obtain ⟨judge, he⟩ := exec_request hc hu
  refine ⟨fun ht => ⟨_, sendAnswer_room hr, ?_⟩, fun ht i e verdict reason hf hl => ⟨_, sendAnswer_room ?_, ?_⟩⟩
  · rw [he, takeRequest_role ht]
  · split
    · exact hr
    · exact contacted_room hr
  · rw [he, takeRequest_duplicate ht hf hl]
    by_cases hk : bodyKind b = .handover <;> simp [hk]

/-! ## MOVE (R86, R131, R133) -/

theorem exec_moveFrame {dev stamp : Nat} {h : Header} {record : MoveRecord} {s u : State}
    (hu : HeardAt ⟨h, .move record⟩ dev stamp s u) : exec (.moveFrame dev h record) s
      = .next (judgeNotice (takeRequest h .move true (judgeMove h.sender record) u)) :=
  congrArg Host.Outcome.next (receive_heard _ hu)

/-- A record offered to an empty slot: presented at once by an idle port, and waiting otherwise (R131, R133). -/
theorem offerRecord_empty {r : MoveRecord} {p : Port} {n : Nat} {s : State} (hp : s.port = p) (hn : s.now = n)
    (h : p.slot = none) : offerRecord r s = some { s with port :=
      if p.st = .idle then { p with st := .setup (n + 2), slot := none, last := r } else { p with slot := some r } } := by
  subst hp hn
  simp only [offerRecord, h, Option.isSome_none, Bool.false_eq_true, if_false]
  by_cases hi : s.port.st = .idle
  · rw [beginPresentation_idle (s := s.setPort { s.port with slot := some r }) hi rfl, if_pos hi]
    rfl
  · rw [beginPresentation_of_ne (s := s.setPort { s.port with slot := some r }) hi, if_neg hi]
    rfl

theorem offerRecord_full {r : MoveRecord} {s : State} (h : s.port.slot.isSome = true) : offerRecord r s = none := by
  simp [offerRecord, h]

theorem judgeMove_refused {sender : Identity} {record : MoveRecord} {s : State} (h : s.controls sender = false) :
    judgeMove sender record s = refuse (s.notInControl sender) s := by
  simp [judgeMove, h]

theorem judgeMove_stopped {sender : Identity} {record : MoveRecord} {s : State} (h : s.controls sender = true)
    (hc : s.stop.causes ≠ 0) : judgeMove sender record s = refuse .stopped s := by
  rw [judgeMove, h, if_neg (by decide), if_pos hc]

theorem judgeMove_running {sender : Identity} {record : MoveRecord} {s : State} (h : s.controls sender = true)
    (hc : s.stop.causes = 0) : judgeMove sender record s
      = (match offerRecord record s with
         | some t => accept t
         | none => busy s) := by
  rw [judgeMove, h, if_neg (by decide), if_neg (by simp [hc])] <;> rfl

/-- A request frame refused in the state after contact is answered and recorded there. -/
theorem answerRequest_refused {h : Header} {kind : Kind} {i : Fin 4} {e : TrEntry} {r : Reason} {s : State}
    (hr : Room s) (he : s.trEntry i = some e) : ∃ t, Recorded i e h kind .refused (some r) s t
      ∧ answerRequest h kind (some i) (refuse r s) = t :=
  answerRequest_recorded (j := refuse r s) hr he (fun hb => nomatch hb)

/-- A request frame accepted is answered and recorded in the state the acceptance leaves. -/
theorem answerRequest_accepted {h : Header} {kind : Kind} {i : Fin 4} {e : TrEntry} {s : State}
    (hr : Room s) (he : s.trEntry i = some e) : ∃ t, Recorded i e h kind .accepted none s t
      ∧ answerRequest h kind (some i) (accept s) = t :=
  answerRequest_recorded (j := accept s) hr he (fun hb => nomatch hb)

/-- A request frame that no entry of the sender stands for is answered only. -/
theorem answerRequest_unbound {h : Header} {kind : Kind} {r : Reason} {s : State} (hr : Room s) :
    ∃ t, Answered h kind .refused (some r) s t ∧ answerRequest h kind none (refuse r s) = t :=
  answerRequest_answered (j := refuse r s) hr nofun

/-- Settles O42: the judgement in the state after contact, then the answer and its record. -/
theorem moveFrameIsJudgedAndAnswered : Obligations.MoveFrameIsJudgedAndAnswered := by
  intro dev stamp h record s u hu ht hr
  refine ⟨fun i e hf hl => ?_, fun hf => ?_⟩
  · intro w
    have taken : exec (.moveFrame dev h record) s
        = .next (judgeNotice (answerRequest h .move (some i) (judgeMove h.sender record w))) := by
      rw [exec_moveFrame hu, takeRequest_new ht hf hl]
      rfl
    have room : Room w := contacted_room hr
    have entry : w.trEntry i = some (contactEntry e) := trEntry_of_findTr (contacted_findTr hf)
    have stop : w.stop = u.stop := by simp only [w]; rw [contacted_frame]
    have port : w.port = u.port := by simp only [w]; rw [contacted_frame]
    have now : w.now = u.now := by simp only [w]; rw [contacted_frame]
    refine ⟨fun hst => ?_, fun hst => ?_⟩
    · have control : w.controls h.sender = true := contacted_controls hf hst
      refine ⟨fun hc hs => ?_, fun hc hs => ?_, fun hc => ?_⟩
      · rw [taken, judgeMove_running control (by rw [stop, hc]), offerRecord_empty port now hs]
        obtain ⟨t, hrec, ht'⟩ := answerRequest_accepted (h := h) (kind := .move) (i := i) (e := contactEntry e)
          (s := { w with port :=
            if u.port.st = .idle then { u.port with st := .setup (u.now + 2), slot := none, last := record }
            else { u.port with slot := some record } }) room entry
        exact ⟨t, hrec, congrArg (fun t => Host.Outcome.next (judgeNotice t)) ht'⟩
      · rw [taken, judgeMove_running control (by rw [stop, hc]), offerRecord_full (by rw [port, hs])]
        obtain ⟨t, hans, ht'⟩ := answerRequest_busy (h := h) (kind := .move) (slot := some i) (j := busy w) room rfl
        exact ⟨t, hans, congrArg (fun t => Host.Outcome.next (judgeNotice t)) ht'⟩
      · rw [taken, judgeMove_stopped control (by rwa [stop])]
        obtain ⟨t, hrec, ht'⟩ := answerRequest_refused (h := h) (kind := .move) (r := .stopped) room entry
        exact ⟨t, hrec, by rw [ht']⟩
    · have same : w = u := contacted_standby hst
      have idle : u.controls h.sender = false := by rw [controls_of_findTr hf, hst]; rfl
      rw [taken, same, judgeMove_refused idle, notInControl_standby hf]
      obtain ⟨t, hrec, ht'⟩ := answerRequest_refused (h := h) (kind := .move)
        (r := if u.heldByOther h.sender then .held else .state) hr (trEntry_of_findTr hf)
      exact ⟨t, hrec, by rw [ht']⟩
  · rw [exec_moveFrame hu, takeRequest_unbound ht hf, judgeMove_refused (not_controls_of_none hf), notInControl_none hf]
    obtain ⟨t, hans, ht'⟩ := answerRequest_unbound (h := h) (kind := .move)
      (r := if u.heldByOther h.sender then .held else .notBound) hr
    exact ⟨t, hans, by rw [ht']⟩

/-! ## RESUME (R88, R119) -/

theorem exec_resumeFrame {dev stamp : Nat} {h : Header} {s u : State}
    (hu : HeardAt ⟨h, .resume⟩ dev stamp s u) : exec (.resumeFrame dev h) s
      = .next (judgeNotice (takeRequest h .resume true (judgeResumeOf h.sender) u)) :=
  congrArg Host.Outcome.next (receive_heard _ hu)

theorem judgeResumeOf_refused {sender : Identity} {s : State} (h : s.controls sender = false) :
    judgeResumeOf sender s = refuse (s.notInControl sender) s := by
  simp [judgeResumeOf, h]

/-- The stop unit's judgement of an operator in control (R119). -/
theorem judgeResumeOf_controls {sender : Identity} {s : State} (h : s.controls sender = true) :
    judgeResumeOf sender s =
      if s.still = false then refuse .moving s
      else if s.ready = false then refuse .state s
      else if s.stop.causes &&& 0x1C1 ≠ 0 then refuse .stopped s
      else accept (changeCauses 0 0x03E sender s) := by
  rw [judgeResumeOf, h, if_neg (by decide)]
  simp only [judgeResume, holdingCauses]
  cases s.still with
  | false => rfl
  | true =>
    cases s.ready with
    | false => rfl
    | true =>
      by_cases hc : s.stop.causes &&& 0x1C1 = 0 <;>
        simp only [hc, ne_eq, not_true_eq_false, not_false_eq_true, if_true, if_false] <;> rfl

/-- Settles O43: the judgement in the state after contact, then the answer and its record. -/
theorem resumeFrameIsJudgedAndAnswered : Obligations.ResumeFrameIsJudgedAndAnswered := by
  intro dev stamp h s u hu ht hr
  refine ⟨fun i e hf hst hl => ?_, fun hf => ?_, fun i e hf hst hl => ?_⟩
  · intro w refusal
    have room : Room w := contacted_room hr
    have entry : w.trEntry i = some (contactEntry e) := trEntry_of_findTr (contacted_findTr hf)
    have stop : w.stop = u.stop := by simp only [w]; rw [contacted_frame]
    have still : w.still = u.still := by simp only [w]; rw [contacted_frame]; rfl
    have ready : w.ready = u.ready := by simp only [w]; rw [contacted_frame]; rfl
    have taken : exec (.resumeFrame dev h) s
        = .next (judgeNotice (answerRequest h .resume (some i) (judgeResumeOf h.sender w))) := by
      rw [exec_resumeFrame hu, takeRequest_new ht hf hl]
      rfl
    rw [judgeResumeOf_controls (contacted_controls hf hst), still, ready, stop] at taken
    have refused {r : Reason} (hj : exec (.resumeFrame dev h) s
        = .next (judgeNotice (answerRequest h .resume (some i) (refuse r w)))) : refusal r := by
      obtain ⟨t, hrec, ht'⟩ := answerRequest_refused (h := h) (kind := .resume) (r := r) room entry
      exact ⟨t, hrec, by rw [hj, ht']⟩
    refine ⟨fun hm => ?_, fun hs hn => ?_, fun hs hn hc => ?_, fun hs hn hc => ?_⟩
    · exact refused (by rw [taken, if_pos hm])
    · exact refused (by rw [taken, if_neg (by simp [hs]), if_pos hn])
    · exact refused (by rw [taken, if_neg (by simp [hs]), if_neg (by simp [hn]), if_pos hc])
    · rw [if_neg (by simp [hs]), if_neg (by simp [hn]), if_neg (not_not_intro hc)] at taken
      have after : (changeCauses 0 0x03E h.sender w).bond = w.bond := by simp
      obtain ⟨t, hrec, ht'⟩ := answerRequest_accepted (h := h) (kind := .resume) (i := i) (e := contactEntry e)
        (s := changeCauses 0 0x03E h.sender w) (by simpa [Room] using room) ((trEntry_of_bond after i).trans entry)
      exact ⟨t, hrec, by rw [taken, ht']⟩
  · rw [exec_resumeFrame hu, takeRequest_unbound ht hf, judgeResumeOf_refused (not_controls_of_none hf),
      notInControl_none hf]
    obtain ⟨t, hans, ht'⟩ := answerRequest_unbound (h := h) (kind := .resume)
      (r := if u.heldByOther h.sender then .held else .notBound) hr
    exact ⟨t, hans, by rw [ht']⟩
  · have idle : u.controls h.sender = false := by rw [controls_of_findTr hf, hst]; rfl
    rw [exec_resumeFrame hu, takeRequest_new ht hf hl, if_pos rfl, contacted_standby hst, judgeResumeOf_refused idle,
      notInControl_standby hf]
    obtain ⟨t, hrec, ht'⟩ := answerRequest_refused (h := h) (kind := .resume)
      (r := if u.heldByOther h.sender then .held else .state) hr (trEntry_of_findTr hf)
    exact ⟨t, hrec, by rw [ht']⟩

end Sys2Proof.Machine
end

section
/-! PROOFS. CHECK and STATUS: the supervision of a bond from both sides (R18, R72, R75, R77, R90, R92, R93). -/

namespace Sys2Proof.Machine

/-! ## Entries and frames -/

theorem modTr_of_trEntry {i : Fin 4} {e : TrEntry} {f : TrEntry → TrEntry} {s : State} (h : s.trEntry i = some e) :
    modTr i f s = putEntry i (some (.tr (f e))) s := by
  simp only [modTr, h]

/-- The entry that a slot holds, written again, changes nothing. -/
theorem putEntry_self {i : Fin 4} {e : Option BondEntry} {s : State} (h : s.entry i = e) : putEntry i e s = s := by
  subst h
  have same (t : Slots) : slotSet t i (slotGet t i) = t := by fin_cases i <;> rfl
  simp only [putEntry, State.entry, same]
  rfl

theorem entry_of_opEntry {i : Fin 4} {e : OpEntry} {s : State} (h : s.opEntry i = some e) :
    s.entry i = some (.op e) := by
  unfold State.opEntry at h
  split at h
  · rename_i x hx
    rw [hx, Option.some.inj h]
  · cases h

/-- A unicast frame comes from the identity and the configuration. -/
theorem unitFrame_congr {s t : State} (hu : t.unitId = s.unitId) (hl : t.life = s.life) (d : Identity) (n : BitVec 4)
    (b : Body) : t.unitFrame d n b = s.unitFrame d n b := frameTo_congr hu hl ..

/-! ## CHECK (R18, R77, R93) -/

theorem exec_checkFrame {dev stamp : Nat} {h : Header} {number units : Byte} {s u : State}
    (hu : HeardAt ⟨h, .check number units⟩ dev stamp s u) : exec (.checkFrame dev h number units) s
      = .next (judgeNotice (takeCheck h.sender number units u)) :=
  congrArg Host.Outcome.next (receive_heard _ hu)

theorem takeCheck_discarded {sender : Identity} {number units : Byte} {i : Fin 4} {s : State}
    (h : s.isTraction = false ∨ s.findTr sender = none ∨ ∃ e, s.findTr sender = some (i, e) ∧ e.st = .standby) :
    takeCheck sender number units s = s := by
  rcases h with h | h | ⟨e, h, hst⟩
  · simp [takeCheck, h]
  · cases ht : s.isTraction <;> simp [takeCheck, ht, h]
  · cases ht : s.isTraction <;> simp [takeCheck, ht, h, inControl, hst]

/-- The carried period is taken from the next period on (R77). -/
theorem takePeriod_eq {i : Fin 4} {e : TrEntry} {units : Byte} {s : State} (h : s.trEntry i = some e) :
    takePeriod i units s = putEntry i (some (.tr (withPeriod (carriedPeriod units s) e))) s := modTr_of_trEntry h

/-- A CHECK of an operator in control: contact, the period, and a STATUS of the state they leave (R93). -/
theorem takeCheck_eq {sender : Identity} {number units : Byte} {i : Fin 4} {e : TrEntry} {s : State}
    (ht : s.isTraction = true) (hf : s.findTr sender = some (i, e)) (hst : e.st = .controlling ∨ e.st = .lost) :
    takeCheck sender number units s =
      let after := withPeriod (carriedPeriod units s) (contactEntry e)
      let w := putEntry i (some (.tr after)) (contacted i e s)
      offerAnyway (w.unitFrame sender 0 (.status (statusBody number after w))) .status w := by
  have control : inControl e = true := by rcases hst with h | h <;> simp [inControl, h]
  have period : carriedPeriod units (contacted i e s) = carriedPeriod units s := by
    simp only [carriedPeriod, cfg_of_life (contacted_life i e s)]
  simp only [takeCheck, ht, if_true, hf, control, contact_eq hf,
    takePeriod_eq (trEntry_of_findTr (contacted_findTr hf)), period, trEntry_putEntry]

/-- The STATUS after contact describes the traction as it was before it. -/
theorem statusBody_contacted (number : Byte) (i : Fin 4) (e after : TrEntry) (s : State)
    (ht : after.transfer = e.transfer) (hl : after.last = e.last) :
    statusBody number after (putEntry i (some (.tr after)) (contacted i e s)) = statusBody number e s := by
  rw [contacted_frame]
  simp only [statusBody, ht, hl]
  rfl

/-! ## A request sent again (R72) -/

theorem frameClass_requestFrame (s : State) (t : Identity) (n : BitVec 4) (b : ReqBody) :
    kindClass (frameKind (s.requestFrame t n b)) ≠ .c0 := by
  rw [frameKind_requestFrame]
  cases b <;> exact nofun

/-- With room in the queue an outstanding request whose count is below 2 is sent again (R72). -/
theorem noAnswerYet_resends {i : Fin 4} {e : OpEntry} {q : Request} {s : State} (he : s.opEntry i = some e)
    (hq : e.req = some q) (hlt : q.resends < 2) (hr : Room s) :
    ∃ t, Resent i e q s t ∧ noAnswerYet offer i s = t := by
  let again := putEntry i (some (.op { e with req := some { q with resends := q.resends + 1, phase := .queued } })) s
  have room : Room again := hr
  have queued := offer_room (nb := none) (tag := requestTag i q.seq q.body) room
    (frameClass_requestFrame again e.traction q.seq q.body)
  have counted : modReq i (fun r => { r with resends := r.resends + 1, phase := .queued }) s = again := by
    simp only [modReq, modOp_of_opEntry he, hq, Option.map_some, again]
  refine ⟨_, enqueue_queued .., ?_⟩
  simp only [noAnswerYet, resendOrEnd, he, hq, maxResends, hlt, if_true, counted, queued]
  rfl

/-! ## STATUS (R75, R90) -/

theorem exec_statusFrame {dev stamp : Nat} {h : Header} {f : StatusBody} {s u : State}
    (hu : HeardAt ⟨h, .status f⟩ dev stamp s u) :
    exec (.statusFrame dev h f) s = .next (judgeNotice (takeStatus h.sender f u)) :=
  congrArg Host.Outcome.next (receive_heard _ hu)

theorem takeStatus_discarded {sender : Identity} {f : StatusBody} {i : Fin 4} {s : State}
    (h : s.isOperator = false ∨ s.findOp sender = none
      ∨ ∃ e, s.findOp sender = some (i, e) ∧ e.st ≠ .taking ∧ e.st ≠ .controlling ∧ e.st ≠ .silent) :
    takeStatus sender f s = s := by
  rcases h with h | h | ⟨e, h, ht, hc, hs⟩
  · simp [takeStatus, h]
  · cases ho : s.isOperator <;> simp [takeStatus, ho, h]
  · cases ho : s.isOperator <;> simp [takeStatus, ho, h, commands, ht, hc, hs]

/-- The request is in AWAITING, may be sent again, and is the last that the traction has accepted (R75). -/
def lastHeard (lastSeq : Option (BitVec 4)) (q : Request) : Prop :=
  lastSeq = some q.seq ∧ q.resends < 2 ∧ ∃ t, q.phase = .awaiting t

/-- A STATUS that does not name the outstanding request leaves it. -/
theorem statusResend_of_not {i : Fin 4} {e : OpEntry} {lastSeq : Option (BitVec 4)} {s : State}
    (he : s.opEntry i = some e) (h : ∀ q, e.req = some q → ¬ lastHeard lastSeq q) : statusResend i lastSeq s = s := by
  unfold statusResend
  cases hq : e.req with
  | none => simp [he, hq]
  | some q =>
    cases hp : q.phase with
    | awaiting t =>
      have unnamed : ¬(lastSeq = some q.seq ∧ q.resends < maxResends) := fun hm => h q hq ⟨hm.1, hm.2, t, hp⟩
      simp only [he, hq, hp, if_neg unnamed]
    | queued => simp [he, hq, hp]
    | retry t => simp [he, hq, hp]

theorem statusResend_resends {i : Fin 4} {e : OpEntry} {q : Request} {lastSeq : Option (BitVec 4)} {s : State}
    (he : s.opEntry i = some e) (hq : e.req = some q) (h : lastHeard lastSeq q) (hr : Room s) :
    ∃ t, Resent i e q s t ∧ statusResend i lastSeq s = t := by
  obtain ⟨hs, hlt, until_, hp⟩ := h
  obtain ⟨t, hres, ht⟩ := noAnswerYet_resends he hq hlt hr
  refine ⟨t, hres, ?_⟩
  simp only [statusResend, he, hq, hp]
  exact (if_pos ⟨hs, hlt⟩).trans ht

/-- The supervision of an entry that a STATUS with a check number reaches (R90). -/
def markedSup (check : Byte) (e : OpEntry) : Option OpSup :=
  e.sup.map (fun p => if e.link.map OpLink.check = some check then { p with heard := true } else p)

theorem statusHeard_eq {i : Fin 4} {e : OpEntry} {check : Byte} {s : State} (he : s.opEntry i = some e) :
    statusHeard i e check s = putEntry i (some (.op { e with sup := markedSup check e })) s := by
  unfold statusHeard markedSup
  split_ifs with hc
  · rw [modOp_of_opEntry he]
  · rw [Option.map_id']
    exact (putEntry_self (entry_of_opEntry he)).symm

/-- The entry of a bond that a STATUS reaches (R90). -/
def statusEntry (check : Byte) (e : OpEntry) : OpEntry :=
  { e with
    st := if e.st = .silent then .controlling else e.st
    sup := if e.st = .silent then (markedSup check e).map (fun p => { p with history := List.replicate 8 .heard })
           else if e.st = .controlling then markedSup check e else e.sup }

/-- The state that a STATUS leaves before it is held against the outstanding request (R90). -/
def statusTaken (i : Fin 4) (e : OpEntry) (check : Byte) (s : State) : State :=
  let heard := putEntry i (some (.op (statusEntry check e))) s
  let told := raise .bond false e.traction [BitVec.ofNat 8 i.val, 4, 8] heard
  if e.st = .silent then
    (if s.otherOp i (fun x => x.st == .silent) then told else faultEnd .link e.traction told)
  else heard

/-- A STATUS leaves a CONTROLLING or TAKING entry's state, and brings a SILENT one back to CONTROLLING (R90). -/
theorem takeStatus_eq {sender : Identity} {f : StatusBody} {i : Fin 4} {e : OpEntry} {s : State}
    (ho : s.isOperator = true) (hf : s.findOp sender = some (i, e))
    (hst : e.st = .taking ∨ e.st = .controlling ∨ e.st = .silent) :
    takeStatus sender f s = statusResend i f.lastSeq (statusTaken i e f.check s) := by
  have entry : s.opEntry i = some e := opEntry_of_findOp hf
  simp only [takeStatus, ho, if_true, hf]
  rcases hst with hst | hst | hst
  · have same : statusTaken i e f.check s = s := by
      have after : statusEntry f.check e = e := by
        have loud : e.st ≠ .silent := by simp [hst]
        have idle : e.st ≠ .controlling := by simp [hst]
        simp only [statusEntry, if_neg loud, if_neg idle]
      simp only [statusTaken, hst, after]
      exact putEntry_self (entry_of_opEntry entry)
    simp [commands, hst, same]
  · simp only [commands, hst, statusHeard_eq entry, regainOp]
    simp [statusTaken, statusEntry, hst]
  · simp only [commands, hst, statusHeard_eq entry, regainOp]
    simp only [modOp_putEntry, statusTaken, statusEntry, hst, if_true]
    rw [endLinkIfSilent_eq (s := s) (fun p => ?_)]
    · cases hl : s.otherOp i (fun x => x.st == .silent) <;> simp [hst] <;> rfl
    · rw [otherOp_of_bond (raiseBond_bond ..), otherOp_putEntry]

theorem statusTaken_chan (i : Fin 4) (e : OpEntry) (check : Byte) (s : State) :
    (statusTaken i e check s).chan = s.chan := by
  simp only [statusTaken]
  split_ifs <;> simp

theorem statusTaken_opEntry (i : Fin 4) (e : OpEntry) (check : Byte) (s : State) :
    (statusTaken i e check s).opEntry i = some (statusEntry check e) := by
  have same : (statusTaken i e check s).bond = (putEntry i (some (.op (statusEntry check e))) s).bond := by
    simp only [statusTaken]
    split_ifs <;> simp
  rw [opEntry_of_bond same, opEntry_putEntry]

/-- Settles O44: a CHECK by the sender's standing; a STATUS by the entry's state and the outstanding request. -/
theorem checkAndStatusFrames : Obligations.CheckAndStatusFrames := by
  intro dev stamp h number units f i s u
  refine ⟨fun hu => ⟨fun e ht hf hst hr => ?_, fun hd => ?_⟩, fun hu => ⟨fun hd => ?_, fun ho e hf => ?_⟩⟩
  · intro w
    have room : Room w := contacted_room hr
    have frame : w.unitFrame h.sender 0 (.status (statusBody number (withPeriod (carriedPeriod units u) (contactEntry e)) w))
        = u.unitFrame h.sender 0 (.status (statusBody number e u)) := by
      have unitId : w.unitId = u.unitId := by
        change (contacted i e u).unitId = _
        rw [contacted_frame]
      have kept : (contactEntry e).transfer = e.transfer ∧ (contactEntry e).last = e.last := by
        unfold contactEntry heardPeriod
        split <;> exact ⟨rfl, rfl⟩
      rw [unitFrame_congr unitId (contacted_life i e u),
        statusBody_contacted number i e (withPeriod (carriedPeriod units u) (contactEntry e)) u kept.1 kept.2]
    refine ⟨_, enqueue_queued .., ?_⟩
    rw [exec_checkFrame hu, takeCheck_eq ht hf hst]
    exact congrArg (fun t => Host.Outcome.next (judgeNotice t))
      ((congrArg (fun f => offerAnyway f .status w) frame).trans (offerAnyway_room room nofun))
  · rw [exec_checkFrame hu, takeCheck_discarded hd]
  · rw [exec_statusFrame hu, takeStatus_discarded hd]
  · intro matches_ marked after heard told w hst
    have taken : exec (.statusFrame dev h f) s = .next (judgeNotice (statusResend i f.lastSeq w)) := by
      rw [exec_statusFrame hu, takeStatus_eq ho hf hst]
      rfl
    have entry : w.opEntry i = some after := statusTaken_opEntry i e f.check u
    refine ⟨fun hn => ?_, fun q hq hm hr => ?_⟩
    · rw [taken, statusResend_of_not entry hn]
    · have room : Room w := by
        rw [Room]
        exact (congrArg (fun c => c.queue.length < queueCapacity) (statusTaken_chan i e f.check u)).mpr hr
      obtain ⟨t, hres, ht⟩ := statusResend_resends entry hq hm room
      exact ⟨t, hres, by rw [taken, ht]⟩

end Sys2Proof.Machine
end

section
/-! PROOFS. ANSWER, BIND-ASK and BIND-REPLY: how requests end and bonds begin (R57, R59, R60, R63, R65, R69, R71, R73, R80,
R104). -/

namespace Sys2Proof.Machine

/-! ## A traction's ANSWER (R104) -/

theorem exec_answerFrame {dev stamp : Nat} {h : Header} {kind : Kind} {seq : BitVec 4} {verdict : Verdict}
    {reason : Option Reason} {s u : State} (hu : HeardAt ⟨h, .answer kind seq verdict reason⟩ dev stamp s u) :
    exec (.answerFrame dev h kind seq verdict reason) s = .next (judgeNotice
      (if u.isTraction then answerToOffer h.sender kind verdict u
       else answerToRequest h.sender kind seq verdict reason u)) :=
  congrArg Host.Outcome.next (receive_heard _ hu)

/-- The clearing of the transfer leaves the configuration. -/
theorem transferGone_life (s : State) : (transferGone s).life = s.life ∧ (transferGone s).unitId = s.unitId := by
  unfold transferGone
  rw [withdraw_life, withdraw_unitId]
  cases s.attached with
  | none => exact ⟨rfl, rfl⟩
  | some r => cases hr : s.trEntry r.1 <;> simp [hr]

theorem transferGone_room {s : State} (h : Room s) : Room (transferGone s) := by
  rw [← clearTransfer_eq]
  exact room_of_queue (clearTransfer_queue_le s) h

/-- A SETTLED is queued where there is room. -/
theorem sendSettled_room {outcome : SettledOutcome} {handing : Identity} {s : State} (hr : Room s) :
    Queued (s.unitFrame handing 0 (.settled outcome)) none .settled s (sendSettled offer outcome handing s) := by
  have sent : sendSettled offer outcome handing s = _ :=
    offerAnyway_room (f := s.unitFrame handing 0 (.settled outcome)) (tag := .settled) hr nofun
  rw [sent]
  exact enqueue_queued ..

/-- A refusal of the OFFER by the transfer's target clears it (R104). -/
theorem answerToOffer_refused {sender : Identity} {x : Transfer} {s : State} (hx : s.pendingTransfer = some x)
    (ht : x.target = sender) : answerToOffer sender .offer .refused s
      = targetGone sender 13 (sendSettled offer .declined x.handing (transferGone s)) := by
  simp only [answerToOffer, hx, ht, and_self, if_true, removeOffered_eq, clearTransfer_eq]
  rfl

theorem answerToOffer_discarded {sender : Identity} {kind : Kind} {verdict : Verdict} {s : State}
    (h : kind ≠ .offer ∨ verdict ≠ .refused ∨ ∀ x, s.pendingTransfer = some x → x.target ≠ sender) :
    answerToOffer sender kind verdict s = s := by
  unfold answerToOffer
  split
  · rename_i x hx
    refine if_neg fun hall => ?_
    obtain ⟨hk, hv, ht⟩ := hall
    rcases h with h | h | h
    · exact h hk
    · exact h hv
    · exact h x hx ht
  · rfl

/-! ## An operator's ANSWER (R71, R73, R80) -/

theorem answerToRequest_unbound {sender : Identity} {kind : Kind} {seq : BitVec 4} {verdict : Verdict}
    {reason : Option Reason} {s : State} (h : s.findOp sender = none) :
    answerToRequest sender kind seq verdict reason s = s := by
  simp only [answerToRequest, h]

theorem answerMatches_iff {q : Request} {kind : Kind} {seq : BitVec 4} :
    answerMatches q kind seq = true ↔ reqKind q.body = kind ∧ q.seq = seq ∧ kind ≠ .bindAsk := by
  simp [answerMatches, and_assoc]

theorem answerToRequest_unmatched {sender : Identity} {kind : Kind} {seq : BitVec 4} {verdict : Verdict}
    {reason : Option Reason} {i : Fin 4} {e : OpEntry} {s : State} (hf : s.findOp sender = some (i, e))
    (h : ∀ q, e.req = some q → reqKind q.body ≠ kind ∨ q.seq ≠ seq ∨ kind = .bindAsk) :
    answerToRequest sender kind seq verdict reason s = s := by
  cases hq : e.req with
  | none => simp only [answerToRequest, hf, hq]
  | some q =>
    have unmatched : ¬ answerMatches q kind seq = true := fun hm => by
      obtain ⟨hk, hs, hb⟩ := answerMatches_iff.mp hm
      rcases h q hq with h | h | h
      · exact h hk
      · exact h hs
      · exact hb h
    simp only [answerToRequest, hf, hq, if_neg unmatched]

theorem answerToRequest_matched {sender : Identity} {kind : Kind} {seq : BitVec 4} {verdict : Verdict}
    {reason : Option Reason} {i : Fin 4} {e : OpEntry} {q : Request} {s : State} (hf : s.findOp sender = some (i, e))
    (hq : e.req = some q) (h : answerMatches q kind seq = true) :
    answerToRequest sender kind seq verdict reason s = answered i q verdict reason s := by
  simp only [answerToRequest, hf, hq, h, if_true]

theorem withoutWaiting_opEntry (tag : OwnerTag) (i : Fin 4) (s : State) :
    (withoutWaiting tag s).opEntry i = s.opEntry i := rfl

/-- The next CHECK of an entry whose previous one does not wait, with room (R89). -/
theorem makeCheck_new {i : Fin 4} {e : OpEntry} {l : OpLink} {s : State} (he : s.opEntry i = some e)
    (hl : e.link = some l) (hn : ∀ x ∈ s.chan.queue, waitsCheck i l.check x = false) (hr : Room s) :
    makeCheck offer i s =
      let w := putEntry i (some (.op { e with link := some { l with check := l.check + 1 } })) s
      enqueue w.chan.queue (w.unitFrame e.traction 0 (.check (l.check + 1) (BitVec.ofNat 8 (l.period / 100)))) none
        (.check i) w := by
  let w := putEntry i (some (.op { e with link := some { l with check := l.check + 1 } })) s
  have numbered : modOp i (fun x => { x with link := some { l with check := l.check + 1 } }) s = w := modOp_of_opEntry he
  have waiting : w.chan.queue.any (waitsCheck i l.check) = false :=
    List.any_eq_false.mpr fun x hx => by rw [hn x hx]; decide
  have anew (f : Frame) : replaceWhere (waitsCheck i l.check) f w = none := by
    simp [replaceWhere, waiting]
  have room : Room w := hr
  simp only [makeCheck, he, hl, numbered, anew]
  exact offerAnyway_room room nofun

/-- Where no CHECK of the entry waits, its previous one does not. -/
theorem waitsCheck_of_noneWaits {i : Fin 4} {number : Byte} {s : State} (hn : NoneWaits (.check i) s) :
    ∀ x ∈ s.chan.queue, waitsCheck i number x = false := by
  intro x hx
  refine Bool.eq_false_iff.mpr fun hw => ?_
  simp only [waitsCheck, waitsTagged, Bool.and_eq_true, beq_iff_eq, Bool.not_eq_true'] at hw
  simp [hn x hx hw.1.1] at hw

/-- An accepted TAKE enters control with a fresh history and its first CHECK (R80, R89). -/
theorem endRequest_take {i : Fin 4} {e : OpEntry} {q : Request} {l : OpLink} {s : State} (he : s.opEntry i = some e)
    (hq : e.req = some q) (hk : reqKind q.body = .take) (hl : e.link = some l) (hn : NoneWaits (.check i) s)
    (hr : Room s) : endRequest offer i .accepted s =
      let told := raise .outcome false e.traction [reqCommand q.body, q.seq.setWidth 8, 0, 0]
        (putEntry i (some (.op { e with req := none })) s)
      let w := putEntry i (some (.op { e with
        st := .controlling, req := none, link := some { l with check := l.check + 1 }
        sup := some { history := List.replicate 8 .heard, heard := false, due := s.now + l.period } })) told
      enqueue w.chan.queue (w.unitFrame e.traction 0 (.check (l.check + 1) (BitVec.ofNat 8 (l.period / 100)))) none
        (.check i) w := by
  let told := raise .outcome false e.traction [reqCommand q.body, q.seq.setWidth 8, 0, 0]
    (putEntry i (some (.op { e with req := none })) s)
  obtain ⟨units, byTransfer, hb⟩ : ∃ units byTransfer, q.body = .take units byTransfer := by
    cases hb : q.body <;> simp [hb, reqKind] at hk ⊢
  have entry : told.opEntry i = some { e with req := none } := by
    rw [opEntry_of_bond (raise_bond ..), opEntry_putEntry]
  have chan : told.chan = s.chan := by simp [told]
  have now : told.now = s.now := by simp [told]
  let x : OpEntry := { e with
    st := .controlling, req := none
    sup := some { history := List.replicate 8 .heard, heard := false, due := s.now + l.period } }
  let c := putEntry i (some (.op x)) told
  have entered : modOp i (fun y => { y with
      st := .controlling
      sup := some { history := freshHistory, heard := false, due := told.now + (y.link.map OpLink.period).getD 0 } })
      told = c := by
    have period : (e.link.map OpLink.period).getD 0 = l.period := by rw [hl]; rfl
    rw [modOp_of_opEntry entry, now]
    simp only [period]
    rfl
  have quiet : NoneWaits (.check i) c := by
    change ∀ y ∈ told.chan.queue, _
    rwa [chan]
  have room : Room c := by
    change told.chan.queue.length < _
    rwa [chan]
  have checked := makeCheck_new (e := x) (opEntry_putEntry i x told) hl (waitsCheck_of_noneWaits quiet) room
  have ended : endRequest offer i .accepted s = makeCheck offer i c := by
    rw [← entered]
    simp only [endRequest, he, hq, modOp_of_opEntry he, raiseOutcome, hb, afterRequest, enterControl]
    simp only [told, hb]
    rfl
  rw [ended, checked]
  simp only [putEntry_putEntry]
  rfl

/-- Settles O45: at a TRACTION by the transfer, elsewhere by the request the ANSWER matches and its verdict. -/
theorem answerFrameEndsOrRetriesItsRequest : Obligations.AnswerFrameEndsOrRetriesItsRequest := by
  intro dev stamp h kind seq verdict reason s u hu becomes
  have taken {t : State} (ht : (if u.isTraction then answerToOffer h.sender kind verdict u
      else answerToRequest h.sender kind seq verdict reason u) = t) : becomes t := by
    rw [← ht]
    exact exec_answerFrame hu
  refine ⟨fun ht => ⟨fun x hx hxt hk hv hr => ?_, fun hd => ?_⟩, fun ht hf => ?_, fun i e ht hf => ?_⟩
  · subst hk hv
    have frame := unitFrame_congr (transferGone_life u).2 (transferGone_life u).1 x.handing 0 (.settled .declined)
    have sent := sendSettled_room (outcome := .declined) (handing := x.handing) (transferGone_room hr)
    rw [frame] at sent
    exact ⟨_, sent, taken (by rw [if_pos ht, answerToOffer_refused hx hxt])⟩
  · exact taken (by rw [if_pos ht, answerToOffer_discarded hd])
  · exact taken (by rw [if_neg (by simp [ht]), answerToRequest_unbound hf])
  · have entry : u.opEntry i = some e := opEntry_of_findOp hf
    have operator {t : State} (h : answerToRequest h.sender kind seq verdict reason u = t) : becomes t :=
      taken (by rw [if_neg (by simp [ht]), h])
    refine ⟨fun hn => operator (answerToRequest_unmatched hf hn), fun q hq hk hs hb => ?_⟩
    subst hk hs
    intro gone
    have matched := answerToRequest_matched (verdict := verdict) (reason := reason) hf hq
      (answerMatches_iff.mpr ⟨rfl, rfl, hb⟩)
    have withdrawn : withdrawWaiting (requestTag i q.seq q.body) u = gone := withdrawWaiting_eq ..
    have entry' : gone.opEntry i = some e := entry
    refine ⟨fun hv hne => ?_, fun r hv hr => ?_, fun l hv hke hl hr hn => ?_, fun until_ hv hp hlt => ?_,
      fun until_ hv hp hlt => ?_, fun hv hp => ?_⟩
    · subst hv
      refine operator (matched.trans ?_)
      simp only [answered, withdrawn]
      exact endRequest_eq (r := .accepted) entry' hq fun _ => ⟨hb, hne⟩
    · subst hv hr
      refine operator (matched.trans ?_)
      simp only [answered, withdrawn]
      exact endRequest_eq (r := .refused r) entry' hq nofun
    · subst hv
      intro told after w
      have quiet : NoneWaits (.check i) gone := fun x hx ht => hn x (List.mem_of_mem_filter hx) ht
      have room : Room gone := room_of_queue (withoutWaiting_queue_le _ u) hr
      refine ⟨_, enqueue_queued .., operator (matched.trans ?_)⟩
      simp only [answered, withdrawn]
      exact endRequest_take entry' hq hke hl quiet room
    · subst hv
      refine operator (matched.trans ?_)
      simp only [answered, answeredBusy, hp, maxResends, hlt, if_true, modReq, modOp_of_opEntry entry, hq, Option.map_some]
      rfl
    · subst hv
      refine operator (matched.trans ?_)
      simp only [answered, answeredBusy, hp, maxResends, Nat.not_lt.mpr hlt, if_false]
      exact endRequest_eq (r := .noAnswer) entry hq nofun
    · subst hv
      refine operator (matched.trans ?_)
      cases hph : q.phase with
      | awaiting t => exact absurd hph (hp t)
      | queued => simp only [answered, answeredBusy, hph]
      | retry t => simp only [answered, answeredBusy, hph]

/-! ## BIND-ASK (R59, R60) -/

theorem exec_bindAskFrame {dev stamp : Nat} {h : Header} {s u : State} (hu : HeardAt ⟨h, .bindAsk⟩ dev stamp s u) :
    exec (.bindAskFrame dev h) s = .next (judgeNotice (takeBindAsk h.sender u)) :=
  congrArg Host.Outcome.next (receive_heard _ hu)

theorem sendBindReply_room {dest : Identity} {reason : Option Reason} {standstill controlled : Bool} {s : State}
    (hr : Room s) : Queued (s.unitFrame dest 0 (.bindReply (if reason.isSome then .refused else .accepted) reason
        s.cfg.rate standstill controlled)) none .bindReply s (sendBindReply dest reason standstill controlled s) := by
  have sent : sendBindReply dest reason standstill controlled s = _ := offerAnyway_room hr nofun
  rw [sent]
  exact enqueue_queued ..

theorem judgeBind_role {sender : Identity} {s : State} (h : s.peerRole sender ≠ some .operator) :
    judgeBind sender s = (s, some .role) := if_pos h

theorem judgeBind_crew {sender : Identity} {s : State} (hr : s.peerRole sender = some .operator)
    (hc : s.peerCrew sender ≠ some s.cfg.crew) : judgeBind sender s = (s, some .crew) := by
  rw [judgeBind, if_neg (not_not_intro hr), if_pos hc]

theorem judgeBind_known {sender : Identity} {i : Fin 4} {e : TrEntry} {s : State} (hr : s.peerRole sender = some .operator)
    (hc : s.peerCrew sender = some s.cfg.crew) (hf : s.findTr sender = some (i, e)) :
    judgeBind sender s = (putEntry i (some (.tr { e with last := none })) s, none) := by
  rw [judgeBind, if_neg (not_not_intro hr), if_neg (not_not_intro hc)]
  simp only [trSlot_of_findTr hf, modTr_of_trEntry (trEntry_of_findTr hf)]

theorem judgeBind_full {sender : Identity} {s : State} (hr : s.peerRole sender = some .operator)
    (hc : s.peerCrew sender = some s.cfg.crew) (hs : s.trSlot sender = none) (hf : s.freeSlot = none) :
    judgeBind sender s = (s, some .full) := by
  rw [judgeBind, if_neg (not_not_intro hr), if_neg (not_not_intro hc)]
  simp only [hs, hf]

theorem judgeBind_new {sender : Identity} {i : Fin 4} {s : State} (hr : s.peerRole sender = some .operator)
    (hc : s.peerCrew sender = some s.cfg.crew) (hs : s.trSlot sender = none) (hf : s.freeSlot = some i) :
    judgeBind sender s
      = (raiseBond i sender 2 .bound (putEntry i (some (.tr (boundEntry sender false))) s), none) := by
  rw [judgeBind, if_neg (not_not_intro hr), if_neg (not_not_intro hc)]
  simp only [hs, hf]

/-! ## BIND-REPLY (R57) -/

theorem exec_bindReplyFrame {dev stamp : Nat} {h : Header} {verdict : Verdict} {reason : Option Reason} {rate : Rate}
    {standstill controlled : Bool} {s u : State}
    (hu : HeardAt ⟨h, .bindReply verdict reason rate standstill controlled⟩ dev stamp s u) :
    exec (.bindReplyFrame dev h verdict reason rate standstill controlled) s = .next (judgeNotice
      (if u.isTraction then u else takeBindReply h.sender verdict reason rate standstill controlled u)) :=
  congrArg Host.Outcome.next (receive_heard _ hu)

theorem takeBindReply_accepted {sender : Identity} {reason : Option Reason} {rate : Rate} {standstill controlled : Bool}
    {i : Fin 4} {e : OpEntry} {s : State} (hf : s.findOp sender = some (i, e)) (hst : e.st = .asking) :
    takeBindReply sender .accepted reason rate standstill controlled s
      = raise .outcome false sender [0x10, 0, 0, 0, rateCode rate, flagCode standstill, flagCode controlled]
          (putEntry i (some (.op { e with st := .standby, req := none })) (withoutWaiting (.request i .bindAsk 0) s)) := by
  have entry : (withoutWaiting (requestTag i 0 .bindAsk) s).opEntry i = some e := opEntry_of_findOp hf
  simp only [takeBindReply, hf, hst, if_true, withdrawWaiting_eq, modOp_of_opEntry entry]
  rfl

/-- A refused BIND takes the entry and its queued frames with it (R57, R63). -/
theorem takeBindReply_refused {sender : Identity} {r : Reason} {rate : Rate} {standstill controlled : Bool}
    {i : Fin 4} {e : OpEntry} {q : Request} {s : State} (hf : s.findOp sender = some (i, e)) (hst : e.st = .asking)
    (hq : e.req = some q) (hb : q.body = .bindAsk) :
    takeBindReply sender .refused (some r) rate standstill controlled s
      = agePeers (putEntry i none (withdrawSlot i (raise .outcome false sender
          [0x10, q.seq.setWidth 8, 1, reasonCode r]
          (putEntry i (some (.op { e with req := none })) (withoutWaiting (.request i .bindAsk 0) s))))) := by
  have entry : (withoutWaiting (requestTag i 0 .bindAsk) s).opEntry i = some e := opEntry_of_findOp hf
  have ended := endRequest_eq (off := offer) (r := .refused r) entry hq nofun
  simp only [takeBindReply, hf, hst, if_true, withdrawWaiting_eq, ended]
  simp only [requestEnds, hb, true_or, if_true, hst, reduceCtorEq, false_and, if_false, traction_of_findOp hf]
  rfl

/-- Settles O46: a BIND-ASK by the sender's peer record and the slots; a BIND-REPLY by the entry and the verdict. -/
theorem bindFramesMakeAndEndBonds : Obligations.BindFramesMakeAndEndBonds := by
  intro dev stamp h verdict reason rate standstill controlled s u
  refine ⟨fun hu hr => ?_, fun hu => ?_⟩
  · intro reply
    have replied {why : Option Reason} {still held : Bool} {w : State} (hlife : w.life = u.life) (hroom : Room w)
        (hw : takeBindAsk h.sender u = sendBindReply h.sender why still held w) : reply why still held w := by
      have sent := sendBindReply_room (dest := h.sender) (reason := why) (standstill := still) (controlled := held) hroom
      rw [cfg_of_life hlife] at sent
      exact ⟨_, sent, by rw [exec_bindAskFrame hu, hw]⟩
    have judged (ht : u.isTraction = true) {w : State} {why : Option Reason} (hj : judgeBind h.sender u = (w, why)) :
        takeBindAsk h.sender u = sendBindReply h.sender why u.still (u.heldByOther h.sender) w := by
      simp only [takeBindAsk, ht, if_true, hj]
    refine ⟨fun ht => replied rfl hr (by simp [takeBindAsk, ht]), fun ht hp => replied rfl hr (judged ht (judgeBind_role hp)),
      fun ht hp => ⟨fun hc => replied rfl hr (judged ht (judgeBind_crew hp hc)), fun hc => ⟨fun i e hf => ?_, fun hs hf => ?_,
        fun i hs hf => ?_⟩⟩⟩
    · exact replied rfl hr (judged ht (judgeBind_known hp hc hf))
    · exact replied rfl hr (judged ht (judgeBind_full hp hc hs hf))
    · exact replied (by simp) (by simpa [Room] using hr) (judged ht (judgeBind_new hp hc hs hf))
  · intro becomes
    have taken {t : State} (ht : (if u.isTraction then u
        else takeBindReply h.sender verdict reason rate standstill controlled u) = t) : becomes t := by
      rw [← ht]
      exact exec_bindReplyFrame hu
    refine ⟨fun i e ht hf hst => ⟨fun hv => ?_, fun r q hv hr hq hb => ?_⟩, fun hd => ?_⟩
    · subst hv
      exact taken (by rw [if_neg (by simp [ht]), takeBindReply_accepted hf hst])
    · subst hv hr
      exact taken (by rw [if_neg (by simp [ht]), takeBindReply_refused hf hst hq hb])
    · refine taken ?_
      rcases hd with ht | hf | ⟨i, e, hf, hst⟩
      · rw [if_pos ht]
      · simp [takeBindReply, hf]
      · simp [takeBindReply, hf, hst]

end Sys2Proof.Machine
end

section
/-! PROOFS. A TAKE at a traction: control given, repeated and refused, and the transfer it completes or ends (R77, R79, R105,
R106, R108). -/

namespace Sys2Proof.Machine

/-! ## The pending transfer and the entries (R97) -/

theorem detached_of_bond {s t : State} (h : t.bond = s.bond) : t.bond.detached = s.bond.detached := by rw [h]

/-- An entry changed but for its transfer leaves the attached transfer. -/
theorem attached_putEntry {i : Fin 4} {e e' : TrEntry} {s : State} (he : s.trEntry i = some e)
    (ht : e'.transfer = e.transfer) : (putEntry i (some (.tr e')) s).attached = s.attached := by
  have same (j : Fin 4) : ((putEntry i (some (.tr e')) s).trEntry j).bind TrEntry.transfer
      = (s.trEntry j).bind TrEntry.transfer := by
    by_cases hj : j = i
    · subst hj
      simp [he, ht]
    · rw [trEntry_putEntry_of_ne _ _ hj]
  simp only [State.attached, same]

theorem pendingTransfer_of_detached {x : Transfer} {s : State} (ha : s.attached = none) (hd : s.bond.detached = some x) :
    s.pendingTransfer = some x := by
  simp [State.pendingTransfer, ha, hd]

/-- Clearing the transfer leaves every entry but its holder. -/
theorem transferGone_trEntry_of_ne {i : Fin 4} {s : State} (h : ∀ j x, s.attached = some (j, x) → j ≠ i) :
    (transferGone s).trEntry i = s.trEntry i := by
  unfold transferGone
  rw [trEntry_of_bond (withdraw_bond ..)]
  cases ha : s.attached with
  | none => rfl
  | some r =>
    obtain ⟨a, he, -⟩ := attached_entry (i := r.1) (x := r.2) ha
    simp only [he]
    rw [trEntry_of_bond (agePeers_bond _), trEntry_putEntry_of_ne _ _ (h r.1 r.2 ha).symm]

theorem transferGone_trEntry_of_detached {i : Fin 4} {s : State} (h : s.attached = none) :
    (transferGone s).trEntry i = s.trEntry i :=
  transferGone_trEntry_of_ne fun _ _ ha => nomatch h.symm.trans ha

/-- Clearing the transfer takes it from its holder. -/
theorem transferGone_trEntry_holder {j : Fin 4} {x : Transfer} {a : TrEntry} {s : State} (h : s.attached = some (j, x))
    (ha : s.trEntry j = some a) : (transferGone s).trEntry j = some { a with transfer := none } := by
  unfold transferGone
  rw [trEntry_of_bond (withdraw_bond ..), h]
  simp only [ha]
  rw [trEntry_of_bond (agePeers_bond _), trEntry_putEntry]

theorem transferGone_queue_le (s : State) : (transferGone s).chan.queue.length ≤ s.chan.queue.length := by
  rw [← clearTransfer_eq]
  exact clearTransfer_queue_le s

/-- The target's entry goes only from STANDBY. -/
theorem targetGone_trEntry {target : Identity} {cause : Byte} {i : Fin 4} {e : TrEntry} {s : State}
    (he : s.trEntry i = some e) (hst : e.st ≠ .standby) : (targetGone target cause s).trEntry i = some e := by
  unfold targetGone
  split
  · rename_i j y hf
    split_ifs with hy
    · have other : i ≠ j := by
        rintro rfl
        rw [trEntry_of_findTr hf] at he
        exact hst (Option.some.inj he ▸ hy.1)
      rw [trEntry_of_bond (raise_bond ..), trEntry_of_bond (agePeers_bond _), trEntry_putEntry_of_ne _ _ other, he]
    · exact he
  · exact he

theorem targetGone_chan (target : Identity) (cause : Byte) (s : State) : (targetGone target cause s).chan = s.chan := by
  unfold targetGone
  split
  · split_ifs <;> simp
  · rfl

/-! ## An answer followed by a SETTLED (R106, R108) -/

theorem queue_length_of_queued {f : Frame} {nb : Option Nat} {tag : OwnerTag} {s t : State} (h : Queued f nb tag s t) :
    t.chan.queue.length = s.chan.queue.length + 1 := by
  rw [h]
  exact List.length_append

theorem room_of_answered {h : Header} {kind : Kind} {verdict : Verdict} {reason : Option Reason} {s v : State}
    (hv : Answered h kind verdict reason s v) (hs : s.chan.queue.length < 11) : Room v := by
  have grown := queue_length_of_queued hv
  simp only [Room, queueCapacity]
  omega

theorem room_of_lt {s : State} (h : s.chan.queue.length < 11) : Room s := Nat.lt_trans h (by decide)

/-- An acceptance that settles a transfer is answered, recorded, and followed by the SETTLED. -/
theorem answerRequest_settled {h : Header} {kind : Kind} {i : Fin 4} {e : TrEntry} {outcome : SettledOutcome}
    {handing : Identity} {s : State} (hs : s.chan.queue.length < 11) (he : s.trEntry i = some e) :
    ∃ v t, Recorded i e h kind .accepted none s v ∧ Queued (v.unitFrame handing 0 (.settled outcome)) none .settled v t
      ∧ answerRequest h kind (some i) ⟨s, .accepted, none, .settled outcome handing⟩ = t := by
  obtain ⟨v, hv, ha⟩ := answerRequest_recorded (h := h) (kind := kind) (i := i) (e := e)
    (j := ⟨s, .accepted, none, .settled outcome handing⟩) (room_of_lt hs) he (fun hb => nomatch hb)
  have room : Room v := by
    obtain ⟨w, hw, rfl⟩ := hv
    have room : Room w := room_of_answered hw hs
    exact room
  exact ⟨v, _, hv, sendSettled_room room, ha⟩

/-- The same where the sender's entry has gone: nothing is recorded. -/
theorem answerRequest_gone_settled {h : Header} {kind : Kind} {i : Fin 4} {outcome : SettledOutcome} {handing : Identity}
    {s : State} (hs : s.chan.queue.length < 11) (he : s.trEntry i = none) :
    ∃ v t, Answered h kind .accepted none s v ∧ Queued (v.unitFrame handing 0 (.settled outcome)) none .settled v t
      ∧ answerRequest h kind (some i) ⟨s, .accepted, none, .settled outcome handing⟩ = t := by
  obtain ⟨v, hv, ha⟩ := answerRequest_answered (h := h) (kind := kind) (slot := some i)
    (j := ⟨s, .accepted, none, .settled outcome handing⟩) (room_of_lt hs) (fun k hk => Option.some.inj hk ▸ he)
  exact ⟨v, _, hv, sendSettled_room (room_of_answered hv hs), ha⟩

/-! ## Control given (R79, R106) -/

/-- The state in which an entry has been given control, told with a cause (R79, R106). -/
def controlGiven (i : Fin 4) (e : TrEntry) (sender : Identity) (period : Nat) (cause : Byte) (s : State) : State :=
  raise .bond false sender [BitVec.ofNat 8 i.val, 4, cause] (putEntry i (some (.tr (inControlFrom s.now period e))) s)

theorem giveControl_eq {i : Fin 4} {e : TrEntry} {sender : Identity} {period : Nat} {cause : BondCause} {s : State}
    (he : s.trEntry i = some e) : raiseBond i sender 4 cause (giveControl i period s)
      = controlGiven i e sender period (bondCauseCode cause) s := by
  simp only [giveControl, modTr_of_trEntry he]
  rfl

section
variable {i : Fin 4} {e : TrEntry} {sender : Identity} {period : Nat} {cause : Byte} {s : State}

theorem controlGiven_bond : (controlGiven i e sender period cause s).bond
    = (putEntry i (some (.tr (inControlFrom s.now period e))) s).bond := raise_bond ..

theorem controlGiven_chan : (controlGiven i e sender period cause s).chan = s.chan := by simp [controlGiven]

theorem controlGiven_room (hr : Room s) : Room (controlGiven i e sender period cause s) := by
  rwa [Room, controlGiven_chan]

theorem controlGiven_cleared_queue (hq : s.chan.queue.length < 11) :
    (transferGone (controlGiven i e sender period cause s)).chan.queue.length < 11 := by
  have shrunk := transferGone_queue_le (controlGiven i e sender period cause s)
  rw [controlGiven_chan] at shrunk
  omega

theorem controlGiven_trEntry :
    (controlGiven i e sender period cause s).trEntry i = some (inControlFrom s.now period e) := by
  rw [trEntry_of_bond controlGiven_bond, trEntry_putEntry]

theorem controlGiven_trEntry_of_ne {j : Fin 4} (hj : j ≠ i) :
    (controlGiven i e sender period cause s).trEntry j = s.trEntry j := by
  rw [trEntry_of_bond controlGiven_bond, trEntry_putEntry_of_ne _ _ hj]

theorem controlGiven_attached (he : s.trEntry i = some e) :
    (controlGiven i e sender period cause s).attached = s.attached := by
  rw [attached_of_bond controlGiven_bond, attached_putEntry (e' := inControlFrom s.now period e) he rfl]

theorem controlGiven_detached : (controlGiven i e sender period cause s).bond.detached = s.bond.detached := by
  rw [controlGiven_bond]
  rfl

theorem controlGiven_pendingTransfer (he : s.trEntry i = some e) :
    (controlGiven i e sender period cause s).pendingTransfer = s.pendingTransfer := by
  simp only [State.pendingTransfer, controlGiven_attached he, controlGiven_detached]

end

/-! ## The judgement of a plain TAKE (R79, R108) -/

theorem judgeTake_none {sender : Identity} {units : Byte} {s : State} (h : s.findTr sender = none) :
    judgeTake sender units s = refuse .notBound s := by
  simp only [judgeTake, h]

theorem judgeTake_untested {sender : Identity} {units : Byte} {i : Fin 4} {e : TrEntry} {s : State}
    (h : s.findTr sender = some (i, e)) (hg : s.test.gate = false) : judgeTake sender units s = refuse .untested s := by
  simp [judgeTake, h, hg]

theorem judgeTake_moving {sender : Identity} {units : Byte} {i : Fin 4} {e : TrEntry} {s : State}
    (h : s.findTr sender = some (i, e)) (hg : s.test.gate = true) (hs : s.still = false) :
    judgeTake sender units s = refuse .moving s := by
  simp [judgeTake, h, hg, hs]

/-- The operator in control repeats its TAKE: the carried period is taken. -/
theorem judgeTake_again {sender : Identity} {units : Byte} {i : Fin 4} {e : TrEntry} {s : State}
    (h : s.findTr sender = some (i, e)) (hg : s.test.gate = true) (hs : s.still = true) (hst : e.st = .controlling) :
    judgeTake sender units s = accept (putEntry i (some (.tr (withPeriod (carriedPeriod units s) e))) s) := by
  rw [← takePeriod_eq (trEntry_of_findTr h)]
  simp [judgeTake, h, hg, hs, hst]

theorem judgeTake_held {sender : Identity} {units : Byte} {i : Fin 4} {e : TrEntry} {s : State}
    (h : s.findTr sender = some (i, e)) (hg : s.test.gate = true) (hs : s.still = true) (hst : e.st = .standby)
    (hh : s.heldByOther sender = true) : judgeTake sender units s = refuse .held s := by
  simp [judgeTake, h, hg, hs, hst, hh]

theorem judgeTake_given {sender : Identity} {units : Byte} {i : Fin 4} {e : TrEntry} {q : Sequel} {s t : State}
    (h : s.findTr sender = some (i, e)) (hg : s.test.gate = true) (hs : s.still = true) (hst : e.st = .standby)
    (hh : s.heldByOther sender = false)
    (ht : takeOverDetached sender (controlGiven i e sender (carriedPeriod units s) 5 s) = (t, q)) :
    judgeTake sender units s = ⟨t, .accepted, none, q⟩ := by
  have given : raiseBond i sender 4 .taken (giveControl i (s.trPeriod units) s)
      = controlGiven i e sender (carriedPeriod units s) 5 s := giveControl_eq (trEntry_of_findTr h)
  simp only [judgeTake, h, hg, hs, hst, hh, Bool.not_true, Bool.false_eq_true, reduceCtorEq, if_false]
  rw [given, ht]

theorem takeOverDetached_none {sender : Identity} {s : State} (h : s.pendingTransfer = none) :
    takeOverDetached sender s = (s, .none) := by
  simp only [takeOverDetached, h]

theorem takeOverDetached_target {sender : Identity} {x : Transfer} {s : State} (h : s.pendingTransfer = some x)
    (ht : x.target = sender) : takeOverDetached sender s = (transferGone s, .settled .completed x.handing) := by
  simp only [takeOverDetached, h, ht, if_true, clearTransfer_eq]

theorem takeOverDetached_other {sender : Identity} {x : Transfer} {s : State} (h : s.pendingTransfer = some x)
    (ht : x.target ≠ sender) :
    takeOverDetached sender s = (targetGone x.target 12 (transferGone s), .settled .lapsed x.handing) := by
  simp only [takeOverDetached, h, ht, if_false, removeOffered_eq, clearTransfer_eq]
  rfl

/-! ## The judgement of a TAKE by transfer (R105, R106) -/

theorem judgeTransferTake_none {sender : Identity} {units : Byte} {s : State} (h : s.findTr sender = none) :
    judgeTransferTake sender units s = refuse .notOffered s := by
  simp only [judgeTransferTake, h]

theorem judgeTransferTake_again {sender : Identity} {units : Byte} {i : Fin 4} {e : TrEntry} {s : State}
    (h : s.findTr sender = some (i, e)) (hst : e.st = .controlling) : judgeTransferTake sender units s
      = accept (putEntry i (some (.tr (withPeriod (carriedPeriod units s) e))) s) := by
  rw [← takePeriod_eq (trEntry_of_findTr h)]
  simp [judgeTransferTake, h, hst]

theorem judgeTransferTake_notOffered {sender : Identity} {units : Byte} {i : Fin 4} {e : TrEntry} {s : State}
    (h : s.findTr sender = some (i, e)) (hst : e.st = .standby)
    (hx : ∀ x, s.pendingTransfer = some x → x.target ≠ sender) :
    judgeTransferTake sender units s = refuse .notOffered s := by
  cases hp : s.pendingTransfer with
  | none => simp [judgeTransferTake, h, hst, hp]
  | some x => simp [judgeTransferTake, h, hst, hp, hx x hp]

theorem judgeTransferTake_moving {sender : Identity} {units : Byte} {i : Fin 4} {e : TrEntry} {x : Transfer} {s : State}
    (h : s.findTr sender = some (i, e)) (hst : e.st = .standby) (hx : s.pendingTransfer = some x)
    (ht : x.target = sender) (hs : s.still = false) : judgeTransferTake sender units s = refuse .moving s := by
  simp [judgeTransferTake, h, hst, hx, ht, hs]

theorem judgeTransferTake_completes {sender : Identity} {units : Byte} {i : Fin 4} {e : TrEntry} {x : Transfer} {s : State}
    (h : s.findTr sender = some (i, e)) (hst : e.st = .standby) (hx : s.pendingTransfer = some x)
    (ht : x.target = sender) (hs : s.still = true) : judgeTransferTake sender units s
      = ⟨completeTransfer i sender (carriedPeriod units s) .transferred s, .accepted, none, .settled .completed x.handing⟩ := by
  have carried : s.trPeriod units = carriedPeriod units s := rfl
  simp [judgeTransferTake, h, hst, hx, ht, hs, carried]

theorem completeTransfer_detached {i : Fin 4} {e : TrEntry} {sender : Identity} {period : Nat} {cause : BondCause}
    {s : State} (he : s.trEntry i = some e) (ha : s.attached = none) : completeTransfer i sender period cause s
      = transferGone (controlGiven i e sender period (bondCauseCode cause) s) := by
  simp only [completeTransfer, ha, Option.map_none, giveControl_eq he, clearTransfer_eq]

theorem completeTransfer_attached {i j : Fin 4} {e : TrEntry} {x : Transfer} {sender : Identity} {period : Nat}
    {cause : BondCause} {s : State} (he : s.trEntry i = some e) (ha : s.attached = some (j, x)) :
    completeTransfer i sender period cause s
      = handOver j (transferGone (controlGiven i e sender period (bondCauseCode cause) s)) := by
  simp only [completeTransfer, ha, Option.map_some, giveControl_eq he, clearTransfer_eq]

theorem handOver_controlling {j : Fin 4} {a : TrEntry} {s : State} (ha : s.trEntry j = some a) (hst : a.st = .controlling) :
    handOver j s = raise .bond false a.operator [BitVec.ofNat 8 j.val, 2, 10]
      (putEntry j (some (.tr { a with st := .standby, sup := none, lostSince := none })) s) := by
  simp only [handOver, ha, hst, toStandby, modTr_of_trEntry ha]
  rfl

/-- A LOST holder goes, and ends LINK as the last one LOST. -/
theorem handOver_lost {j : Fin 4} {a : TrEntry} {s : State} (ha : s.trEntry j = some a) (hst : a.st = .lost) :
    handOver j s =
      let removed := raise .bond false a.operator [BitVec.ofNat 8 j.val, 0, 10] (agePeers (putEntry j none s))
      if s.otherTr j (fun y => y.st == .lost) then removed else faultEnd .link a.operator removed := by
  have others : (raiseBond j a.operator 0 .transferred (freeEntry j s)).otherTr j (fun y => y.st == .lost)
      = s.otherTr j (fun y => y.st == .lost) := by
    rw [otherTr_of_bond (raiseBond_bond ..), freeEntry, otherTr_of_bond (agePeers_bond _), otherTr_putEntry]
  simp only [handOver, ha, hst, endLinkIfLost, others]
  cases s.otherTr j (fun y => y.st == .lost) <;> rfl

end Sys2Proof.Machine
end

section
/-! PROOFS. A RELEASE at a traction, and the obligation about TAKE and RELEASE (R62, R82, R97, R108, R116). -/

namespace Sys2Proof.Machine

theorem exec_takeFrame {dev stamp : Nat} {h : Header} {units : Byte} {byTransfer : Bool} {s u : State}
    (hu : HeardAt ⟨h, .take units byTransfer⟩ dev stamp s u) : exec (.takeFrame dev h units byTransfer) s
      = .next (judgeNotice (takeRequest h .take true
          (if byTransfer then judgeTransferTake h.sender units else judgeTake h.sender units) u)) :=
  congrArg Host.Outcome.next (receive_heard _ hu)

theorem exec_releaseFrame {dev stamp : Nat} {h : Header} {unbind : Bool} {s u : State}
    (hu : HeardAt ⟨h, .release unbind⟩ dev stamp s u) : exec (.releaseFrame dev h unbind) s
      = .next (judgeNotice (takeRequest h .release true (judgeRelease h.sender unbind) u)) :=
  congrArg Host.Outcome.next (receive_heard _ hu)

/-! ## The judgement of a RELEASE -/

/-- The sender's entry has gone, told with cause UNBOUND (R62, R82). -/
def unbound (i : Fin 4) (sender : Identity) (s : State) : State :=
  raise .bond false sender [BitVec.ofNat 8 i.val, 0, 2] (agePeers (putEntry i none s))

theorem unbound_bond (i : Fin 4) (sender : Identity) (s : State) :
    (unbound i sender s).bond = (putEntry i none s).bond := by simp [unbound]

theorem unbound_chan (i : Fin 4) (sender : Identity) (s : State) : (unbound i sender s).chan = s.chan := by
  simp [unbound]

theorem unbound_trEntry (i : Fin 4) (sender : Identity) (s : State) : (unbound i sender s).trEntry i = none := by
  rw [trEntry_of_bond (unbound_bond ..)]
  simp [State.trEntry]

theorem judgeRelease_none {sender : Identity} {unbind : Bool} {s : State} (h : s.findTr sender = none) :
    judgeRelease sender unbind s = refuse .notBound s := by
  simp only [judgeRelease, h]

theorem judgeRelease_standby {sender : Identity} {i : Fin 4} {e : TrEntry} {s : State}
    (h : s.findTr sender = some (i, e)) (hst : e.st = .standby) : judgeRelease sender false s = refuse .state s := by
  simp [judgeRelease, h, hst]

theorem judgeRelease_unbind {sender : Identity} {i : Fin 4} {e : TrEntry} {q : Sequel} {s t : State}
    (h : s.findTr sender = some (i, e)) (hst : e.st = .standby)
    (ht : clearIfTarget sender (unbound i sender s) = (t, q)) :
    judgeRelease sender true s = ⟨t, .accepted, none, q⟩ := by
  have gone : raiseBond i sender 0 .unbound (freeEntry i s) = unbound i sender s := rfl
  simp only [judgeRelease, h, hst, if_true]
  rw [gone, ht]

theorem clearIfTarget_other {target : Identity} {s : State} (h : ∀ x, s.pendingTransfer = some x → x.target ≠ target) :
    clearIfTarget target s = (s, .none) := by
  cases hx : s.pendingTransfer with
  | none => simp only [clearIfTarget, hx]
  | some x => simp only [clearIfTarget, hx, if_neg (h x hx)]

theorem clearIfTarget_target {target : Identity} {x : Transfer} {s : State} (hx : s.pendingTransfer = some x)
    (ht : x.target = target) : clearIfTarget target s = (transferGone s, .settled .declined x.handing) := by
  simp only [clearIfTarget, hx, ht, if_true, clearTransfer_eq]

/-- A slot that holds no entry holds none after the clearing of the transfer. -/
theorem transferGone_trEntry_none {i : Fin 4} {s : State} (h : s.trEntry i = none) : (transferGone s).trEntry i = none := by
  refine (transferGone_trEntry_of_ne fun j x hj => ?_).trans h
  rintro rfl
  obtain ⟨a, ha, -⟩ := attached_entry hj
  simp [h] at ha

/-- UNATTENDED is added when no other slot is left in control (R116). -/
theorem addUnattended_eq {i : Fin 4} {sender : Identity} {s t : State} (ho : t.otherTr i inControl = s.otherTr i inControl)
    (hi : (t.trEntry i).any inControl = false) : addUnattended sender t
      = if s.otherTr i inControl then t else changeCauses causeUnattended 0 sender t := by
  have any : t.anyInControl = t.otherTr i inControl := by
    refine congrArg allSlots.any (funext fun j => ?_)
    by_cases hj : j = i
    · subst hj
      simp [hi]
    · simp [hj]
  rw [addUnattended, any, ho]
  rfl

theorem transferDetached_trEntry_of_ne {i k : Fin 4} {e : TrEntry} {s : State} (hk : k ≠ i) :
    (transferDetached i e s).trEntry k = s.trEntry k := by
  unfold transferDetached
  split
  · rw [trEntry_of_bond (agePeers_bond _), trEntry_putEntry_of_ne _ _ hk]
    rfl
  · rfl

theorem transferDetached_trEntry {i : Fin 4} {e : TrEntry} {s : State} (he : s.trEntry i = some e) :
    (transferDetached i e s).trEntry i = some { e with transfer := none } := by
  unfold transferDetached
  split
  · rw [trEntry_of_bond (agePeers_bond _), trEntry_putEntry]
  · rename_i hx
    rw [he, ← hx]

theorem transferDetached_chan (i : Fin 4) (e : TrEntry) (s : State) : (transferDetached i e s).chan = s.chan := by
  unfold transferDetached
  split <;> simp

/-- A RELEASE of the operator in control: its transfer detaches, and it returns to STANDBY or goes. -/
theorem judgeRelease_control {sender : Identity} {unbind : Bool} {i : Fin 4} {e : TrEntry} {s : State}
    (h : s.findTr sender = some (i, e)) (hst : e.st ≠ .standby) : judgeRelease sender unbind s =
      let w := transferDetached i e s
      let after : TrEntry := { e with st := .standby, sup := none, lostSince := none, transfer := none }
      let x := if unbind then unbound i sender w
        else raise .bond false sender [BitVec.ofNat 8 i.val, 2, 6] (putEntry i (some (.tr after)) w)
      accept (if s.otherTr i inControl then x else changeCauses causeUnattended 0 sender x) := by
  let w := transferDetached i e s
  let after : TrEntry := { e with st := .standby, sup := none, lostSince := none, transfer := none }
  let x := if unbind then unbound i sender w
    else raise .bond false sender [BitVec.ofNat 8 i.val, 2, 6] (putEntry i (some (.tr after)) w)
  have entry : w.trEntry i = some { e with transfer := none } := transferDetached_trEntry (trEntry_of_findTr h)
  have others : w.otherTr i inControl = s.otherTr i inControl :=
    otherTr_congr _ fun k hk => transferDetached_trEntry_of_ne hk
  have returned : (if unbind then raiseBond i sender 0 .unbound (freeEntry i w)
      else raiseBond i sender 2 .released (toStandby i w)) = x := by
    simp only [toStandby, modTr_of_trEntry entry]
    rfl
  have judged : judgeRelease sender unbind s = accept (addUnattended sender x) := by
    rw [← returned]
    simp only [judgeRelease, h, hst, if_false, detachTransfer_eq (trEntry_of_findTr h)]
    rfl
  rw [judged]
  refine congrArg accept (addUnattended_eq (i := i) ?_ ?_)
  · simp only [x]
    split_ifs
    · rw [otherTr_of_bond (unbound_bond ..), otherTr_putEntry, others]
    · rw [otherTr_of_bond (raise_bond ..), otherTr_putEntry, others]
  · simp only [x]
    split_ifs
    · rw [unbound_trEntry]
      rfl
    · rw [trEntry_of_bond (raise_bond ..), trEntry_putEntry]
      rfl

/-! ## The obligation -/

theorem contactEntry_operator (e : TrEntry) : (contactEntry e).operator = e.operator := by
  unfold contactEntry heardPeriod
  split <;> rfl

theorem trState_not_standby {st : TrState} : st ≠ .standby ↔ st = .controlling ∨ st = .lost := by
  cases st <;> simp

/-- Contact leaves the other slots. -/
theorem contacted_trEntry_of_ne {i k : Fin 4} {e : TrEntry} {s : State} (hk : k ≠ i) :
    (contacted i e s).trEntry k = s.trEntry k := by
  unfold contacted
  split
  · rfl
  · exact trEntry_putEntry_of_ne _ _ hk
  · dsimp only
    split_ifs
    · rw [trEntry_of_bond (raise_bond ..), trEntry_putEntry_of_ne _ _ hk]
    · rw [trEntry_of_bond (faultEnd_bond ..), trEntry_of_bond (raise_bond ..), trEntry_putEntry_of_ne _ _ hk]

/-- Control given to a STANDBY entry, and the transfer cleared, leave whether an entry but the holder is LOST. -/
theorem otherTr_lost_given {i j : Fin 4} {e : TrEntry} {x : Transfer} {sender : Identity} {period : Nat} {cause : Byte}
    {s : State} (he : s.trEntry i = some e) (hst : e.st = .standby) (ha : s.attached = some (j, x)) :
    (transferGone (controlGiven i e sender period cause s)).otherTr j (fun y => y.st == .lost)
      = s.otherTr j (fun y => y.st == .lost) := by
  refine congrArg allSlots.any (funext fun k => ?_)
  by_cases hk : k = j
  · simp [hk]
  · have cleared : (transferGone (controlGiven i e sender period cause s)).trEntry k
        = (controlGiven i e sender period cause s).trEntry k := by
      refine transferGone_trEntry_of_ne fun l y hl => ?_
      rw [controlGiven_attached he, ha] at hl
      obtain ⟨rfl, -⟩ := Prod.mk.inj (Option.some.inj hl)
      exact Ne.symm hk
    rw [cleared]
    by_cases hi : k = i
    · subst hi
      simp only [controlGiven_trEntry, he, Option.any_some, hst, inControlFrom]
      rfl
    · rw [controlGiven_trEntry_of_ne hi]

/-- Settles O47: a TAKE by the judgement in the state after contact, a RELEASE by the sender's standing. -/
theorem takeAndReleaseFramesGiveAndEndControl : Obligations.TakeAndReleaseFramesGiveAndEndControl := by
  intro dev stamp h units byTransfer unbind s u ht
  refine ⟨fun hu => ?_, fun hu => ?_⟩
  · intro period becomes settled
    have judged {t : State} (hj : takeRequest h .take true
        (if byTransfer then judgeTransferTake h.sender units else judgeTake h.sender units) u = t) : becomes t := by
      rw [← hj]
      exact exec_takeFrame hu
    refine ⟨fun hf hr => ?_, fun i e hf hl hr => ?_⟩
    · obtain ⟨t, hans, ha⟩ := answerRequest_unbound (h := h) (kind := .take)
        (r := if byTransfer then .notOffered else .notBound) hr
      refine ⟨t, hans, judged ?_⟩
      rw [takeRequest_unbound ht hf, ← ha]
      cases byTransfer
      · rw [if_neg (by decide), judgeTake_none hf]; rfl
      · rw [if_pos rfl, judgeTransferTake_none hf]; rfl
    · intro w c refusal repeated after given
      have entry : u.trEntry i = some e := trEntry_of_findTr hf
      have found : w.findTr h.sender = some (i, c) := contacted_findTr hf
      have room : Room w := contacted_room hr
      have gate : w.test = u.test := by simp only [w]; rw [contacted_frame]
      have still : w.still = u.still := by simp only [w]; rw [contacted_frame]; rfl
      have carried : carriedPeriod units w = period := by
        simp only [carriedPeriod, period, cfg_of_life (contacted_life i e u), w]
      have standby (hst : e.st = .standby) : w = u ∧ c = e := ⟨contacted_standby hst, contactEntry_standby hst⟩
      have decided {j : Judged} {t : State}
          (hj : (if byTransfer then judgeTransferTake h.sender units else judgeTake h.sender units) w = j)
          (ha : answerRequest h .take (some i) j = t) : becomes t := by
        refine judged ?_
        rw [takeRequest_new ht hf hl, if_pos rfl, hj, ha]
      have refused {r : Reason}
          (hj : (if byTransfer then judgeTransferTake h.sender units else judgeTake h.sender units) w = refuse r w) :
          refusal r := by
        obtain ⟨t, hrec, ha⟩ := answerRequest_refused (h := h) (kind := .take) (r := r) room (trEntry_of_findTr found)
        exact ⟨t, hrec, decided hj ha⟩
      have again (hj : (if byTransfer then judgeTransferTake h.sender units else judgeTake h.sender units) w
          = accept (putEntry i (some (.tr (withPeriod (carriedPeriod units w) c))) w)) : repeated := by
        rw [carried] at hj
        obtain ⟨t, hrec, ha⟩ := answerRequest_accepted (h := h) (kind := .take) (e := withPeriod period c)
          (s := putEntry i (some (.tr (withPeriod period c))) w) room (trEntry_putEntry i _ w)
        exact ⟨t, hrec, decided hj ha⟩
      have settles {outcome : SettledOutcome} {handing : Identity} {x : State}
          (hj : (if byTransfer then judgeTransferTake h.sender units else judgeTake h.sender units) w
            = ⟨x, .accepted, none, .settled outcome handing⟩)
          (hq : x.chan.queue.length < 11) (he : x.trEntry i = some after) : settled i after outcome handing x := by
        obtain ⟨v, t, hrec, hset, ha⟩ := answerRequest_settled (h := h) (kind := .take) hq he
        exact ⟨v, t, hrec, hset, decided hj ha⟩
      have taken (hst : e.st ≠ .standby) : c.st = .controlling := contactEntry_controlling (trState_not_standby.mp hst)
      refine ⟨?_, ?_⟩
      · rintro rfl
        refine ⟨fun hg => ?_, fun hg hs => ?_, fun hg hs hst => ?_, fun hg hs hst hh => ?_, fun hg hs hst hh => ?_⟩
        · exact refused (judgeTake_untested found (by rw [gate, hg]))
        · exact refused (judgeTake_moving found (by rw [gate, hg]) (by rw [still, hs]))
        · exact again (judgeTake_again found (by rw [gate, hg]) (by rw [still, hs]) (taken hst))
        · refine refused ?_
          rw [(standby hst).1]
          exact judgeTake_held hf hg hs hst hh
        · have same := (standby hst).1
          have pending : (given 5).pendingTransfer = u.pendingTransfer := controlGiven_pendingTransfer entry
          have gave {y : State} {q : Sequel} (hy : takeOverDetached h.sender (given 5) = (y, q)) :
              judgeTake h.sender units w = ⟨y, .accepted, none, q⟩ := by
            rw [same]
            exact judgeTake_given hf hg hs hst hh hy
          refine ⟨fun hn => ?_, fun x ha hd hq => ?_⟩
          · obtain ⟨t, hrec, hans⟩ := answerRequest_accepted (h := h) (kind := .take) (e := after) (s := given 5)
              (controlGiven_room hr) controlGiven_trEntry
            exact ⟨t, hrec, decided (gave (takeOverDetached_none (pending.trans hn))) hans⟩
          · have held := pending.trans (pendingTransfer_of_detached ha hd)
            have unattached : (given 5).attached = none := (controlGiven_attached entry).trans ha
            have kept : (transferGone (given 5)).trEntry i = some after :=
              (transferGone_trEntry_of_detached unattached).trans controlGiven_trEntry
            refine ⟨fun hxt => ?_, fun hxt => ?_⟩
            · exact settles (gave (takeOverDetached_target held hxt)) (controlGiven_cleared_queue hq) kept
            · refine settles (gave (takeOverDetached_other held hxt)) ?_
                (targetGone_trEntry kept (by simp [after, inControlFrom]))
              rw [targetGone_chan]
              exact controlGiven_cleared_queue hq
      · rintro rfl
        refine ⟨fun hst => ?_, fun hst hx => ?_, fun x hst hx hxt => ⟨fun hs => ?_, fun hs hq => ⟨fun ha => ?_, fun j a ha hj haj => ?_⟩⟩⟩
        · exact again (judgeTransferTake_again found (taken hst))
        · refine refused ?_
          rw [(standby hst).1]
          exact judgeTransferTake_notOffered hf hst hx
        · refine refused ?_
          rw [(standby hst).1]
          exact judgeTransferTake_moving hf hst hx hxt hs
        · refine settles ?_ (controlGiven_cleared_queue hq) ?_
          · rw [(standby hst).1]
            exact (judgeTransferTake_completes hf hst hx hxt hs).trans
              (by rw [completeTransfer_detached entry ha]; rfl)
          · have unattached : (given 10).attached = none := (controlGiven_attached entry).trans ha
            exact (transferGone_trEntry_of_detached unattached).trans controlGiven_trEntry
        · intro cleared removed
          have attached : (given 10).attached = some (j, x) := (controlGiven_attached entry).trans ha
          have holder : cleared.trEntry j = some { a with transfer := none } :=
            transferGone_trEntry_holder attached ((controlGiven_trEntry_of_ne hj).trans haj)
          have kept : cleared.trEntry i = some after := by
            refine (transferGone_trEntry_of_ne fun k y hk => ?_).trans controlGiven_trEntry
            rw [attached] at hk
            obtain ⟨rfl, -⟩ := Prod.mk.inj (Option.some.inj hk)
            exact hj
          have queue : cleared.chan.queue.length < 11 := controlGiven_cleared_queue hq
          have completes : judgeTransferTake h.sender units w
              = ⟨handOver j cleared, .accepted, none, .settled .completed x.handing⟩ := by
            rw [(standby hst).1]
            exact (judgeTransferTake_completes hf hst hx hxt hs).trans
              (by rw [completeTransfer_attached entry ha]; rfl)
          refine ⟨fun hc => ?_, fun hc => ?_⟩
          · refine settles (completes.trans (by rw [handOver_controlling holder hc])) ?_ ?_
            · simpa using queue
            · rw [trEntry_of_bond (raise_bond ..), trEntry_putEntry_of_ne _ _ hj.symm, kept]
          · have left_ : handOver j cleared = if u.otherTr j (fun y => y.st == .lost) then removed
                else faultEnd .link a.operator removed := by
              have others : cleared.otherTr j (fun y => y.st == .lost) = u.otherTr j (fun y => y.st == .lost) :=
                otherTr_lost_given (sender := h.sender) (period := period) (cause := 10) entry hst ha
              rw [handOver_lost holder hc, others]
            refine settles (completes.trans (by rw [left_])) ?_ ?_
            · split_ifs <;> simpa [removed] using queue
            · have stays : removed.trEntry i = some after := by
                rw [trEntry_of_bond (raise_bond ..), trEntry_of_bond (agePeers_bond _),
                  trEntry_putEntry_of_ne _ _ hj.symm, kept]
              split_ifs
              · exact stays
              · rw [trEntry_of_bond (faultEnd_bond ..), stays]
  · intro becomes
    have judged {t : State} (hj : takeRequest h .release true (judgeRelease h.sender unbind) u = t) : becomes t := by
      rw [← hj]
      exact exec_releaseFrame hu
    refine ⟨fun hf hr => ?_, fun i e hf hl hr => ?_⟩
    · obtain ⟨t, hans, ha⟩ := answerRequest_unbound (h := h) (kind := .release) (r := .notBound) hr
      exact ⟨t, hans, judged (by rw [takeRequest_unbound ht hf, judgeRelease_none hf, ha])⟩
    · intro gone
      have gone_eq (w : State) : gone w = unbound i h.sender w := rfl
      have entry : u.trEntry i = some e := trEntry_of_findTr hf
      have decided {j : Judged} {t : State} (hj : judgeRelease h.sender unbind (contacted i e u) = j)
          (ha : answerRequest h .release (some i) j = t) : becomes t := by
        refine judged ?_
        rw [takeRequest_new ht hf hl, if_pos rfl, hj, ha]
      have emptied (w : State) : ∀ k, some i = some k → (gone w).trEntry k = none := fun k hk =>
        Option.some.inj hk ▸ unbound_trEntry i h.sender w
      refine ⟨fun hst => ⟨?_, ?_⟩, fun hst => ?_⟩
      · rintro rfl
        obtain ⟨t, hrec, ha⟩ := answerRequest_refused (h := h) (kind := .release) (r := .state) hr entry
        exact ⟨t, hrec, decided (by rw [contacted_standby hst, judgeRelease_standby hf hst]) ha⟩
      · rintro rfl
        have left_ {t : State} {q : Sequel} (hc : clearIfTarget h.sender (gone u) = (t, q)) :
            judgeRelease h.sender true (contacted i e u) = ⟨t, .accepted, none, q⟩ := by
          rw [contacted_standby hst]
          exact judgeRelease_unbind hf hst hc
        refine ⟨fun hx => ?_, fun x hx hxt hq => ?_⟩
        · have room : Room (gone u) := by rwa [Room, gone_eq, unbound_chan]
          obtain ⟨t, hans, ha⟩ := answerRequest_answered (h := h) (kind := .release) (slot := some i)
            (j := ⟨gone u, .accepted, none, .none⟩) room (emptied u)
          exact ⟨t, hans, decided (left_ (clearIfTarget_other hx)) ha⟩
        · have queue : (transferGone (gone u)).chan.queue.length < 11 := by
            have shrunk := transferGone_queue_le (gone u)
            rw [gone_eq, unbound_chan] at shrunk
            rw [gone_eq]
            omega
          obtain ⟨v, t, hans, hset, ha⟩ := answerRequest_gone_settled (h := h) (kind := .release)
            (outcome := .declined) (handing := x.handing) queue (transferGone_trEntry_none (emptied u i rfl))
          exact ⟨v, t, hans, hset, decided (left_ (clearIfTarget_target hx hxt)) ha⟩
      · intro c w after back unattended
        have found : (contacted i e u).findTr h.sender = some (i, c) := contacted_findTr hf
        have control : c.st ≠ .standby := by rw [contactEntry_controlling hst]; decide
        have others : (contacted i e u).otherTr i inControl = u.otherTr i inControl :=
          otherTr_congr _ fun k hk => contacted_trEntry_of_ne hk
        have released := judgeRelease_control (unbind := unbind) found control
        simp only [others] at released
        have bond (x : State) : (unattended x).bond = x.bond := by
          simp only [unattended]
          split_ifs <;> simp
        have room {x : State} (hx : x.chan = w.chan) : Room (unattended x) := by
          have same : (unattended x).chan = u.chan := by
            have chan : w.chan = u.chan := (transferDetached_chan ..).trans (contacted_chan ..)
            simp only [unattended]
            split_ifs <;> simp [hx, chan]
          rwa [Room, same]
        refine ⟨?_, ?_⟩
        · rintro rfl
          obtain ⟨t, hrec, ha⟩ := answerRequest_accepted (h := h) (kind := .release) (i := i) (e := after)
            (s := unattended back) (room (by simp [back]))
            (by rw [trEntry_of_bond (bond back), trEntry_of_bond (raise_bond ..), trEntry_putEntry])
          exact ⟨t, hrec, decided released ha⟩
        · rintro rfl
          obtain ⟨t, hans, ha⟩ := answerRequest_answered (h := h) (kind := .release) (slot := some i)
            (j := accept (unattended (gone w))) (room (by rw [gone_eq, unbound_chan]))
            (fun k hk => (trEntry_of_bond (bond (gone w)) k).trans (emptied w k hk))
          exact ⟨t, hans, decided released ha⟩

end Sys2Proof.Machine
end

section
/-! PROOFS. HANDOVER at a traction, OFFER and SETTLED at an operator (R42, R96, R99 to R101, R110). -/

namespace Sys2Proof.Machine

/-! ## The first OFFER of a transfer (R99, R100) -/

/-- Where no transfer is attached, no entry holds one. -/
theorem transfer_none_of_attached {s : State} (h : s.attached = none) (j : Fin 4) :
    (s.trEntry j).bind TrEntry.transfer = none := by
  have all := List.findSome?_eq_none_iff.mp h j (mem_allSlots j)
  cases hj : (s.trEntry j).bind TrEntry.transfer with
  | none => rfl
  | some x => simp [hj] at all

/-- A transfer written where none is attached is the one attached. -/
theorem attached_of_written {i : Fin 4} {e : TrEntry} {x : Transfer} {s : State} (h : s.attached = none)
    (hx : e.transfer = some x) : (putEntry i (some (.tr e)) s).attached = some (i, x) := by
  have other {j : Fin 4} (hj : j ≠ i) : ((putEntry i (some (.tr e)) s).trEntry j).bind TrEntry.transfer = none := by
    rw [trEntry_putEntry_of_ne _ _ hj, transfer_none_of_attached h]
  have own : ((putEntry i (some (.tr e)) s).trEntry i).bind TrEntry.transfer = some x := by
    rw [trEntry_putEntry, Option.bind_some, hx]
  obtain ⟨before, after, split, first⟩ := List.eq_append_cons_of_mem (mem_allSlots i)
  refine List.findSome?_eq_some_iff.mpr ⟨before, i, after, split, by rw [own]; rfl, fun j hj => ?_⟩
  rw [other fun same => first (same ▸ hj)]
  rfl

/-- A new entry without a transfer leaves the attached transfer. -/
theorem attached_putEntry_new {i : Fin 4} {e : TrEntry} {s : State} (hs : s.entry i = none) (ht : e.transfer = none) :
    (putEntry i (some (.tr e)) s).attached = s.attached := by
  have same (j : Fin 4) : ((putEntry i (some (.tr e)) s).trEntry j).bind TrEntry.transfer
      = (s.trEntry j).bind TrEntry.transfer := by
    by_cases hj : j = i
    · subst hj
      simp [State.trEntry, hs, ht]
    · rw [trEntry_putEntry_of_ne _ _ hj]
  simp only [State.attached, same]

theorem entry_of_freeSlot {i : Fin 4} {s : State} (h : s.freeSlot = some i) : s.entry i = none := by
  have free := List.find?_some h
  simpa using free

theorem entry_of_trEntry {i : Fin 4} {e : TrEntry} {s : State} (h : s.trEntry i = some e) :
    s.entry i = some (.tr e) := by
  unfold State.trEntry at h
  split at h
  · rename_i x hx
    rw [hx, Option.some.inj h]
  · cases h

/-- The first OFFER of a transfer just written, with room (R100). -/
theorem sendOffer_first {i : Fin 4} {e : TrEntry} {x : Transfer} {s : State} (ha : s.attached = some (i, x))
    (he : s.trEntry i = some e) (hx : e.transfer = some x) (hn : x.nextOffer = none) (ht : x.expiry = s.now + 15000)
    (hr : Room s) : Queued (s.unitFrame x.target 0 (.offer x.handing 15)) none .offer s (sendOffer offer s) := by
  have pending : s.pendingTransfer = some x := by simp [State.pendingTransfer, ha]
  have same : modTransfer (fun y => { y with nextOffer := none }) s = s := by
    have unchanged : ({ x with nextOffer := none } : Transfer) = x := by rw [← hn]
    have kept : ({ e with transfer := some x } : TrEntry) = e := by rw [← hx]
    rw [modTransfer_eq pending, unchanged]
    simp only [transferBecomes, ha, he, kept]
    exact putEntry_self (entry_of_trEntry he)
  have seconds : BitVec.ofNat 8 ((x.expiry - s.now) / 1000) = 15 := by
    rw [ht, Nat.add_sub_cancel_left]
    rfl
  have sent : sendOffer offer s = enqueue s.chan.queue (s.unitFrame x.target 0 (.offer x.handing 15)) none .offer s := by
    have offered : offer (s.unitFrame x.target 0 (.offer x.handing 15)) none .offer s = _ := offer_room hr nofun
    simp only [sendOffer, pending, same, seconds, offered]
  rw [sent]
  exact enqueue_queued ..

/-! ## The judgement of a HANDOVER (R99) -/

theorem exec_handoverFrame {dev stamp : Nat} {h : Header} {target : Identity} {s u : State}
    (hu : HeardAt ⟨h, .handover target⟩ dev stamp s u) : exec (.handoverFrame dev h target) s
      = .next (judgeNotice (takeRequest h .handover false (judgeHandover h.sender target) u)) :=
  congrArg Host.Outcome.next (receive_heard _ hu)

theorem unfitTarget_iff {sender target : Identity} {s : State} : s.unfitTarget sender target = true
    ↔ ¬(target ≠ sender ∧ s.peerRole target = some .operator ∧ s.peerCrew target = some s.cfg.crew) := by
  simp only [State.unfitTarget, Bool.or_eq_true, beq_iff_eq, bne_iff_ne]
  tauto

theorem judgeHandover_none {sender target : Identity} {s : State} (h : s.findTr sender = none) :
    judgeHandover sender target s = refuse (s.notInControl sender) s := by
  simp only [judgeHandover, trSlot_of_findTr_none h]

section
variable {sender target : Identity} {i : Fin 4} {e : TrEntry} {s : State}

theorem judgeHandover_idle (h : s.findTr sender = some (i, e)) (hst : e.st ≠ .controlling) :
    judgeHandover sender target s = refuse (s.notInControl sender) s := by
  simp [judgeHandover, trSlot_of_findTr h, controls_of_findTr h, hst]

theorem judgeHandover_busy (h : s.findTr sender = some (i, e)) (hst : e.st = .controlling)
    (hx : s.pendingTransfer.isSome = true) : judgeHandover sender target s = busy s := by
  simp [judgeHandover, trSlot_of_findTr h, controls_of_findTr h, hst, hx]

theorem judgeHandover_unfit (h : s.findTr sender = some (i, e)) (hst : e.st = .controlling)
    (hx : s.pendingTransfer = none) (hf : s.unfitTarget sender target = true) :
    judgeHandover sender target s = refuse .crew s := by
  simp [judgeHandover, trSlot_of_findTr h, controls_of_findTr h, hst, hx, hf]

theorem judgeHandover_full (h : s.findTr sender = some (i, e)) (hst : e.st = .controlling)
    (hx : s.pendingTransfer = none) (hf : s.unfitTarget sender target = false) (hs : s.trSlot target = none)
    (hn : s.freeSlot = none) : judgeHandover sender target s = refuse .full s := by
  simp [judgeHandover, trSlot_of_findTr h, controls_of_findTr h, hst, hx, hf, hs, hn]

theorem judgeHandover_known {j : Fin 4} (h : s.findTr sender = some (i, e)) (hst : e.st = .controlling)
    (hx : s.pendingTransfer = none) (hf : s.unfitTarget sender target = false) (hs : s.trSlot target = some j) :
    judgeHandover sender target s
      = ⟨writeTransfer i target sender (ensurePeer target s), .accepted, none, .firstOffer⟩ := by
  simp [judgeHandover, trSlot_of_findTr h, controls_of_findTr h, hst, hx, hf, hs]

/-- The target takes the lowest free slot with offered set (R99). -/
theorem judgeHandover_new {j : Fin 4} (h : s.findTr sender = some (i, e)) (hst : e.st = .controlling)
    (hx : s.pendingTransfer = none) (hf : s.unfitTarget sender target = false) (hs : s.trSlot target = none)
    (hj : s.freeSlot = some j) : judgeHandover sender target s
      = ⟨writeTransfer i target sender (raiseBond j target 2 .offer
          (putEntry j (some (.tr (boundEntry target true))) (ensurePeer target s))), .accepted, none, .firstOffer⟩ := by
  simp only [judgeHandover, trSlot_of_findTr h, controls_of_findTr h, hst, hx, hf, hs, hj]
  rfl

end

/-- The transfer that a HANDOVER writes (R99). -/
def handoverTransfer (target handing : Identity) (now : Nat) : Transfer :=
  { target := target, handing := handing, expiry := now + 15000, nextOffer := none }

/-- An accepted HANDOVER: the transfer in the sender's entry, the ANSWER recorded and the first OFFER queued (R99, R100). -/
theorem answerRequest_handover {h : Header} {target : Identity} {i : Fin 4} {e : TrEntry} {s : State}
    (he : s.trEntry i = some e) (ha : s.attached = none) (hq : s.chan.queue.length < 11) :
    let after : TrEntry := { e with transfer := some (handoverTransfer target h.sender s.now) }
    ∃ v t, Recorded i after h .handover .accepted none (putEntry i (some (.tr after)) s) v
      ∧ Queued (v.unitFrame target 0 (.offer h.sender 15)) none .offer v t
      ∧ answerRequest h .handover (some i) ⟨writeTransfer i target h.sender s, .accepted, none, .firstOffer⟩ = t := by
  intro after
  have written : writeTransfer i target h.sender s = putEntry i (some (.tr after)) s := modTr_of_trEntry he
  rw [written]
  obtain ⟨v, ⟨w, hw, rfl⟩, hans⟩ := answerRequest_recorded (h := h) (kind := .handover) (i := i) (e := after)
    (j := ⟨putEntry i (some (.tr after)) s, .accepted, none, .firstOffer⟩) (room_of_lt hq) (trEntry_putEntry i after s)
    (fun hb => nomatch hb)
  have room : Room w := room_of_answered hw hq
  have attached : w.attached = some (i, handoverTransfer target h.sender s.now) :=
    (attached_of_bond (bond_of_queued hw)).trans (attached_of_written ha rfl)
  have entry : w.trEntry i = some after := by rw [trEntry_of_bond (bond_of_queued hw), trEntry_putEntry]
  have now : w.now = s.now := by rw [hw]; rfl
  refine ⟨_, _, ⟨w, hw, rfl⟩, ?_, hans⟩
  have recorded := attached_putEntry
    (e' := { after with last := some ⟨.handover, h.seq, .accepted, none⟩ }) entry rfl
  refine sendOffer_first (x := handoverTransfer target h.sender s.now) (recorded.trans attached) (trEntry_putEntry i _ w)
    rfl rfl ?_ room
  change s.now + 15000 = w.now + 15000
  rw [now]

/-- Settles O48: the judgement of the sender's standing and of the target's fitness, then the answer and the OFFER. -/
theorem handoverFrameWritesATransfer : Obligations.HandoverFrameWritesATransfer := by
  intro dev stamp h target s u hu ht becomes
  refine ⟨fun hf hr => ?_, fun i e hf hl hr => ?_⟩
  · obtain ⟨t, hans, ha⟩ := answerRequest_unbound (h := h) (kind := .handover)
      (r := if u.heldByOther h.sender then .held else .notBound) hr
    refine ⟨t, hans, (exec_handoverFrame hu).trans ?_⟩
    rw [takeRequest_unbound ht hf, judgeHandover_none hf, notInControl_none hf, ha]
  · intro refusal fit
    have entry : u.trEntry i = some e := trEntry_of_findTr hf
    have decided {j : Judged} {t : State} (hj : judgeHandover h.sender target u = j)
        (ha : answerRequest h .handover (some i) j = t) : becomes t := by
      refine (exec_handoverFrame hu).trans ?_
      rw [takeRequest_new ht hf hl, if_neg (by decide), hj, ha]
    have refused {r : Reason} (hj : judgeHandover h.sender target u = refuse r u) : refusal r := by
      obtain ⟨t, hrec, ha⟩ := answerRequest_refused (h := h) (kind := .handover) (r := r) hr entry
      exact ⟨t, hrec, decided hj ha⟩
    refine ⟨fun hst => ?_, fun hst hx => ?_, fun hst hx => ⟨fun hfit => ?_, fun hfit hs hn => ?_, fun hfit hq => ?_⟩⟩
    · exact refused (by rw [judgeHandover_idle hf hst, notInControl_standby hf])
    · obtain ⟨t, hans, ha⟩ := answerRequest_busy (h := h) (kind := .handover) (slot := some i) (j := busy u) hr rfl
      exact ⟨t, hans, decided (judgeHandover_busy hf hst hx) ha⟩
    · exact refused (judgeHandover_unfit hf hst hx (unfitTarget_iff.mpr hfit))
    · exact refused (judgeHandover_full hf hst hx (Bool.eq_false_iff.mpr fun h => unfitTarget_iff.mp h hfit) hs hn)
    · intro transfer sent
      have fits : u.unfitTarget h.sender target = false := Bool.eq_false_iff.mpr fun h => unfitTarget_iff.mp h hfit
      have known : ensurePeer target u = u := ensurePeer_of_known (peer_known_of_role hfit.2.1)
      have unattached : u.attached = none := by
        cases ha : u.attached with
        | none => rfl
        | some r => simp [State.pendingTransfer, ha] at hx
      refine ⟨fun j x hj => ?_, fun j hs hj => ?_⟩
      · obtain ⟨v, t, hrec, hoff, ha⟩ := answerRequest_handover (h := h) (target := target) entry unattached hq
        have judged := judgeHandover_known hf hst hx fits (trSlot_of_findTr hj)
        rw [known] at judged
        exact ⟨v, t, hrec, hoff, decided judged ha⟩
      · have free : u.entry j = none := entry_of_freeSlot hj
        have other : i ≠ j := by
          rintro rfl
          simp [entry_of_trEntry entry] at free
        have judged := judgeHandover_new hf hst hx fits hs hj
        rw [known] at judged
        obtain ⟨v, t, hrec, hoff, ha⟩ := answerRequest_handover (h := h) (target := target) (i := i) (e := e)
          (s := raiseBond j target 2 .offer (putEntry j (some (.tr (boundEntry target true))) u))
          (by rw [trEntry_of_bond (raiseBond_bond ..), trEntry_putEntry_of_ne _ _ other, entry])
          (by rw [attached_of_bond (raiseBond_bond ..), attached_putEntry_new free rfl, unattached])
          (by simpa using hq)
        have now : (raiseBond j target 2 .offer (putEntry j (some (.tr (boundEntry target true))) u)).now = u.now := by simp
        rw [now] at hrec
        exact ⟨v, t, hrec, hoff, decided judged ha⟩

end Sys2Proof.Machine
end

section
/-! PROOFS. OFFER and SETTLED at an operator (R42, R96, R101, R110). -/

namespace Sys2Proof.Machine

/-! ## OFFER (R101) -/

theorem exec_offerFrame {dev stamp : Nat} {h : Header} {controller : Identity} {seconds : Byte} {s u : State}
    (hu : HeardAt ⟨h, .offer controller seconds⟩ dev stamp s u) : exec (.offerFrame dev h controller seconds) s
      = .next (judgeNotice (takeOffer h.sender controller seconds stamp u)) :=
  congrArg Host.Outcome.next (receive_heard _ hu)

theorem refuseOffer_room {traction : Identity} {r : Reason} {s : State} (hr : Room s) :
    Queued (s.unitFrame traction 0 (.answer .offer 0 .refused (some r))) none .answer s (refuseOffer traction r s) := by
  have sent : refuseOffer traction r s = _ := offerAnyway_room hr nofun
  rw [sent]
  exact enqueue_queued ..

section
variable {sender controller : Identity} {seconds : Byte} {stamp : Nat} {s : State}

theorem takeOffer_role (h : s.isOperator = false ∨ s.peerRole sender ≠ some .traction) :
    takeOffer sender controller seconds stamp s = refuseOffer sender .role s := by
  unfold takeOffer
  rcases h with h | h
  · simp [h]
  · by_cases ho : s.isOperator = true <;> simp [ho, h]

theorem takeOffer_crew (ho : s.isOperator = true) (hr : s.peerRole sender = some .traction)
    (hc : s.peerCrew sender ≠ some s.cfg.crew) :
    takeOffer sender controller seconds stamp s = refuseOffer sender .crew s := by
  simp [takeOffer, ho, hr, hc]

theorem takeOffer_full (ho : s.isOperator = true) (hr : s.peerRole sender = some .traction)
    (hc : s.peerCrew sender = some s.cfg.crew) (hf : s.findOp sender = none) (hn : s.freeSlot = none) :
    takeOffer sender controller seconds stamp s = refuseOffer sender .full s := by
  simp [takeOffer, ho, hr, hc, hf, hn]

theorem takeOffer_new {i : Fin 4} (ho : s.isOperator = true) (hr : s.peerRole sender = some .traction)
    (hc : s.peerCrew sender = some s.cfg.crew) (hf : s.findOp sender = none) (hi : s.freeSlot = some i) :
    takeOffer sender controller seconds stamp s = raiseOffered i sender controller seconds
      (putEntry i (some (.op (offeredEntry sender
          (some { controller := controller, expiry := offerExpiry stamp seconds, madeForOffer := true }))))
        (ensurePeer controller (putEntry i (some (.op (offeredEntry sender none))) s))) := by
  rw [← makeOffered_of_role hr]
  simp [takeOffer, ho, hr, hc, hf, hi]

theorem takeOffer_entry {i : Fin 4} {e : OpEntry} (ho : s.isOperator = true) (hr : s.peerRole sender = some .traction)
    (hc : s.peerCrew sender = some s.cfg.crew) (hf : s.findOp sender = some (i, e)) :
    takeOffer sender controller seconds stamp s = offerToEntry i e controller seconds stamp s := by
  simp [takeOffer, ho, hr, hc, hf]

/-- An entry of the table after a peer has been ensured. -/
theorem ensurePeer_opEntry {i : Fin 4} {e : OpEntry} (he : s.opEntry i = some e) :
    (ensurePeer controller s).opEntry i = some e := (opEntry_of_bond (ensurePeer_bond ..) i).trans he

theorem offerToEntry_renewed {i : Fin 4} {e : OpEntry} {o : Offer} (ht : e.traction = sender)
    (he : s.opEntry i = some e) (hst : e.st = .offered) (ho : e.offer = some o) : offerToEntry i e controller seconds stamp s =
      let offered : Offer :=
        { controller := controller, expiry := offerExpiry stamp seconds, madeForOffer := o.madeForOffer }
      let renewed := agePeers (putEntry i (some (.op { e with offer := some offered })) (ensurePeer controller s))
      if o.controller = controller then renewed else raiseOffer i sender controller seconds renewed := by
  subst ht
  rw [offerToEntry, if_pos hst]
  simp only [renewOffer, modOp_of_opEntry (ensurePeer_opEntry he), ho, Option.map_some, Option.some.injEq]

theorem takingByTransfer_iff {e : OpEntry} : takingByTransfer e = true
    ↔ e.st = .taking ∧ ∃ q period, e.req = some q ∧ q.body = .take true period := by
  unfold takingByTransfer
  rw [Bool.and_eq_true, beq_iff_eq]
  refine and_congr_right fun _ => ?_
  cases hq : e.req with
  | none => simp
  | some q => cases hb : q.body <;> simp [hb]

theorem offerToEntry_taking {i : Fin 4} {e : OpEntry} (h : takingByTransfer e = true) :
    offerToEntry i e controller seconds stamp s = s := by
  have hst : e.st ≠ .offered := by rw [(takingByTransfer_iff.mp h).1]; decide
  rw [offerToEntry, if_neg hst, if_pos h]

theorem offerToEntry_standby {i : Fin 4} {e : OpEntry} (ht : e.traction = sender)
    (he : s.opEntry i = some e) (hst : e.st = .standby) (hq : e.req = none) : offerToEntry i e controller seconds stamp s =
      raiseOffered i sender controller seconds (putEntry i (some (.op { e with
        st := .offered
        offer := some { controller := controller, expiry := offerExpiry stamp seconds, madeForOffer := false } }))
        (ensurePeer controller s)) := by
  subst ht
  have idle : ¬ takingByTransfer e = true := fun h => by
    have taking := (takingByTransfer_iff.mp h).1
    rw [hst] at taking
    cases taking
  have offered : e.st ≠ .offered := by rw [hst]; decide
  rw [offerToEntry, if_neg offered, if_neg idle, if_pos ⟨hst, hq⟩, modOp_of_opEntry (ensurePeer_opEntry he)]

theorem offerToEntry_refused {i : Fin 4} {e : OpEntry} (ho : e.st ≠ .offered) (ht : ¬ takingByTransfer e = true)
    (hs : ¬(e.st = .standby ∧ e.req = none)) :
    offerToEntry i e controller seconds stamp s = refuseOffer e.traction .state s := by
  rw [offerToEntry, if_neg ho, if_neg ht, if_neg hs]

end

/-! ## SETTLED (R96, R110) -/

theorem exec_settledFrame {dev stamp : Nat} {h : Header} {outcome : SettledOutcome} {s u : State}
    (hu : HeardAt ⟨h, .settled outcome⟩ dev stamp s u) : exec (.settledFrame dev h outcome) s
      = .next (judgeNotice (takeSettled h.sender outcome u)) :=
  congrArg Host.Outcome.next (receive_heard _ hu)

theorem commands_eq_true_iff {e : OpEntry} : commands e = true ↔ e.st = .controlling ∨ e.st = .silent := by
  cases hst : e.st <;> simp [commands, hst]

/-- A bond in control returns to STANDBY, told with a cause; the last SILENT one ends LINK (R96). -/
theorem leaveControl_told {i : Fin 4} {e : OpEntry} {cause : BondCause} {s : State} (he : s.opEntry i = some e)
    (hc : commands e = true) : leaveControl i (some cause) s =
      let w := raiseBond i e.traction 2 cause
        (putEntry i (some (.op { e with st := .standby, link := none, sup := none })) (withdrawChecks i s))
      if e.st = .silent ∧ s.otherOp i (fun x => x.st == .silent) = false then faultEnd .link e.traction w else w := by
  have control : inOpControl e = true := by
    rcases commands_eq_true_iff.mp hc with h | h <;> simp [inOpControl, h]
  have entry : (withdrawChecks i s).opEntry i = some e := he
  simp only [leaveControl, he, control, if_true, modOp_of_opEntry entry]
  exact endLinkIfSilent_eq fun p => by
    rw [otherOp_of_bond (raiseBond_bond ..), otherOp_putEntry, otherOp_of_bond (withdrawChecks_bond i s)]

theorem takeSettled_unbound {sender : Identity} {outcome : SettledOutcome} {s : State} (ho : s.isOperator = true)
    (hf : s.findOp sender = none) :
    takeSettled sender outcome s = raise .settled false sender [settledCode outcome, 0xFF] s := by
  simp only [takeSettled, ho, if_true, hf]
  rfl

/-- The handing mark is cleared, and a completed transfer ends control (R110). -/
theorem takeSettled_entry {sender : Identity} {outcome : SettledOutcome} {i : Fin 4} {e : OpEntry} {s : State}
    (ho : s.isOperator = true) (hf : s.findOp sender = some (i, e)) : takeSettled sender outcome s =
      let cleared := agePeers (putEntry i (some (.op { e with handing := none })) s)
      raiseSettled sender outcome (some i)
        (if outcome = .completed ∧ commands e = true then leaveControl i (some .transferred) cleared else cleared) := by
  simp only [takeSettled, ho, if_true, hf, modOp_of_opEntry (opEntry_of_findOp hf)]

/-- Settles O49: an OFFER by the sender's peer record and entry; a SETTLED by the entry and the outcome. -/
theorem offerAndSettledFrames : Obligations.OfferAndSettledFrames := by
  intro dev stamp h controller seconds outcome s u
  refine ⟨fun hu => ?_, fun hu => ?_⟩
  · intro becomes refusal offer_ toldOffer told
    have taken {t : State} (ht : takeOffer h.sender controller seconds stamp u = t) : becomes t := by
      rw [← ht]
      exact exec_offerFrame hu
    have refused {r : Reason} (ht : takeOffer h.sender controller seconds stamp u = refuseOffer h.sender r u) :
        refusal r := fun hr => ⟨_, refuseOffer_room hr, taken ht⟩
    refine ⟨fun hd => refused (takeOffer_role hd), fun ho hp => ⟨fun hc => refused (takeOffer_crew ho hp hc), fun hc =>
      ⟨fun hf hn => refused (takeOffer_full ho hp hc hf hn), fun i hf hi => ?_, fun i e hf => ?_⟩⟩⟩
    · exact taken (takeOffer_new ho hp hc hf hi)
    · intro byTransfer
      have entry : u.opEntry i = some e := opEntry_of_findOp hf
      have traction : e.traction = h.sender := traction_of_findOp hf
      have found {t : State} (ht : offerToEntry i e controller seconds stamp u = t) : becomes t :=
        taken ((takeOffer_entry ho hp hc hf).trans ht)
      refine ⟨fun o hst hoff => ?_, fun ht => found (offerToEntry_taking (takingByTransfer_iff.mpr ht)), fun hst hq => ?_,
        fun hno hnt hns hr => ?_⟩
      · intro renewed
        exact found (offerToEntry_renewed traction entry hst hoff)
      · exact found (offerToEntry_standby traction entry hst hq)
      · have state := offerToEntry_refused (i := i) (controller := controller) (seconds := seconds) (stamp := stamp) (s := u)
          hno (fun h => hnt (takingByTransfer_iff.mp h)) hns
        rw [traction] at state
        exact refused ((takeOffer_entry ho hp hc hf).trans state) hr
  · intro becomes
    have taken {t : State} (ht : takeSettled h.sender outcome u = t) : becomes t := by
      rw [← ht]
      exact exec_settledFrame hu
    refine ⟨fun ho => taken (by simp [takeSettled, ho]), fun ho hf => taken (takeSettled_unbound ho hf), fun i e ho hf => ?_⟩
    intro cleared commanding told
    refine ⟨fun hn => taken ?_, fun hc hcom => taken ?_⟩
    · have kept : ¬(outcome = .completed ∧ commands e = true) := fun hb =>
        hn.elim (fun h => h hb.1) (fun h => h (commands_eq_true_iff.mp hb.2))
      rw [takeSettled_entry ho hf]
      exact congrArg (raiseSettled h.sender outcome (some i)) (if_neg kept)
    · have entry : cleared.opEntry i = some { e with handing := none } := by
        rw [opEntry_of_bond (agePeers_bond _), opEntry_putEntry]
      have others : cleared.otherOp i (fun x => x.st == .silent) = u.otherOp i (fun x => x.st == .silent) := by
        rw [otherOp_of_bond (agePeers_bond _), otherOp_putEntry]
      have left_ := leaveControl_told (cause := .transferred) entry (commands_eq_true_iff.mpr hcom)
      rw [others] at left_
      rw [takeSettled_entry ho hf]
      refine congrArg (raiseSettled h.sender outcome (some i))
        ((if_pos ⟨hc, commands_eq_true_iff.mpr hcom⟩).trans (left_.trans ?_))
      rw [traction_of_findOp hf]
      rfl

end Sys2Proof.Machine
end

section
/-! PROOFS. A HALT heard: the screen, the halt memory, the relay, and the notice to the floor (R122 to R129, R149, R153). -/

namespace Sys2Proof.Machine

/-! ## The screen (R123) -/

theorem exec_haltFrame {dev stamp : Nat} {h : Header} {originator : Identity} {number copy : Byte} {relay : Bool}
    {s u : State} (hu : HeardAt ⟨h, .halt originator number copy relay⟩ dev stamp s u) :
    exec (.haltFrame dev h originator number copy relay) s
      = .next (judgeNotice (takeHalt h originator number copy relay u)) :=
  congrArg Host.Outcome.next (receive_heard _ hu)

theorem screenedOut_iff {h : Header} {originator : Identity} {relay : Bool} {s : State} :
    s.screenedOut h originator relay = true ↔ (relay = false ∧ originator ≠ h.sender)
      ∨ (relay = true ∧ s.peerRole h.sender ≠ some .traction) ∨ originator = s.unitId := by
  simp [State.screenedOut, or_assoc]

theorem authorized_iff {h : Header} {relay : Bool} :
    authorized h relay = true ↔ h.mode ≠ .yard ∨ relay = true ∨ h.authority = true := by
  simp [authorized, or_assoc]

/-! ## The halt memory (R122) -/

/-- The first of the entries heard earliest: those before it were heard later, those after it no earlier. -/
theorem earliestHeard_of_first {pre post : List HaltEntry} {e : HaltEntry} (hpre : ∀ x ∈ pre, e.firstHeard < x.firstHeard)
    (hpost : ∀ x ∈ post, e.firstHeard ≤ x.firstHeard) : earliestHeard (pre ++ e :: post) = some e := by
  induction pre with
  | nil =>
    simp only [List.nil_append, earliestHeard]
    cases h : earliestHeard post with
    | none => rfl
    | some x => exact if_pos (hpost x (earliestHeard_mem h))
  | cons p pre ih =>
    have later := hpre p List.mem_cons_self
    simp only [List.cons_append, earliestHeard, ih fun x hx => hpre x (List.mem_cons_of_mem p hx)]
    exact if_neg (Nat.not_le.mpr later)

theorem roomForPair_of_lt {s : State} (h : s.halt.memory.length < 8) : roomForPair s = s := if_pos h

/-- The state in which a pair has been forgotten, its waiting relay withdrawn (R122). -/
theorem roomForPair_full {s : State} {pre post : List HaltEntry} {e : HaltEntry} (hl : 8 ≤ s.halt.memory.length)
    (he : s.halt.memory = pre ++ e :: post) (hpre : ∀ x ∈ pre, e.firstHeard < x.firstHeard)
    (hpost : ∀ x ∈ post, e.firstHeard ≤ x.firstHeard) : roomForPair s = forgetPair e s := by
  have full : ¬ s.halt.memory.length < haltMemoryCapacity := Nat.not_lt.mpr hl
  have first : earliestHeard s.halt.memory = some e := he ▸ earliestHeard_of_first hpre hpost
  simp only [roomForPair, if_neg full, first]

/-- Forgetting a pair changes the halt memory and the queue only, and no queue grows. -/
theorem forgetPair_frame (e : HaltEntry) (s : State) :
    forgetPair e s = { s with halt := (forgetPair e s).halt, chan := (forgetPair e s).chan } := by
  unfold forgetPair
  dsimp only
  split_ifs
  · rw [withdraw_frame]; rfl
  · rfl

theorem forgetPair_queue_le (e : HaltEntry) (s : State) :
    (forgetPair e s).chan.queue.length ≤ s.chan.queue.length := by
  unfold forgetPair
  dsimp only
  split_ifs
  · exact withdraw_queue_le ..
  · exact Nat.le_refl _

/-- A base state for a new pair: the memory with room for it, nothing else but the queue changed. -/
theorem roomForPair_frame (s : State) :
    roomForPair s = { s with halt := (roomForPair s).halt, chan := (roomForPair s).chan } := by
  unfold roomForPair
  split_ifs
  · rfl
  · split
    · exact forgetPair_frame ..
    · rfl

theorem roomForPair_queue_le (s : State) : (roomForPair s).chan.queue.length ≤ s.chan.queue.length := by
  unfold roomForPair
  split_ifs
  · exact Nat.le_refl _
  · split
    · exact forgetPair_queue_le ..
    · exact Nat.le_refl _

/-- A new pair is entered with no relay queued. -/
theorem enterPair_new {originator : Identity} {number : Byte} {s : State} (h : s.haltEntry originator number = none) :
    enterPair originator number s = { roomForPair s with halt := { (roomForPair s).halt with
      memory := (roomForPair s).halt.memory
        ++ [{ originator := originator, number := number, firstHeard := s.now, relayQueued := false }] } } := by
  have now : (roomForPair s).now = s.now := by rw [roomForPair_frame]
  rw [← now]
  simp only [enterPair, h, Option.isSome_none, Bool.false_eq_true, if_false]
  rfl

theorem pair_of_haltEntry {originator : Identity} {number : Byte} {e : HaltEntry} {s : State}
    (h : s.haltEntry originator number = some e) : e.originator = originator ∧ e.number = number := by
  simpa [pairIs] using List.find?_some h

/-! ## The relay (R126, R127) -/

theorem suppressRelay_waiting {originator : Identity} {number : Byte} {s : State}
    (h : ∃ x ∈ s.chan.queue, x.tag = .relay originator number ∧ x.onAir = false) :
    suppressRelay originator number s
      = setRelay originator number false (withoutWaiting (.relay originator number) s) := by
  simp only [suppressRelay, removalAnswer_removed.mpr h, withdraw_waiting h]

theorem suppressRelay_noneWaits {originator : Identity} {number : Byte} {s : State}
    (h : NoneWaits (.relay originator number) s) :
    suppressRelay originator number s = withdraw (.relay originator number) s := by
  have kept : removalAnswer (.relay originator number) s ≠ .removed := fun hr => by
    obtain ⟨x, hx, ht, ha⟩ := removalAnswer_removed.mp hr
    simp [h x hx ht] at ha
  cases ha : removalAnswer (.relay originator number) s with
  | removed => exact absurd ha kept
  | onAir => simp only [suppressRelay, ha]
  | absent => simp only [suppressRelay, withdraw, ha]

/-- The drawn delay is one of the five of R126. -/
theorem relayDelay_mem (s : State) : s.relayDelay = 20 ∨ s.relayDelay = 40 ∨ s.relayDelay = 60 ∨ s.relayDelay = 80
    ∨ s.relayDelay = 100 := by
  have bound : s.drawn 5 < 5 := Nat.mod_lt _ (by decide)
  simp only [State.relayDelay]
  omega

/-- The relay of a yard halt is queued, with room, and its state turns QUEUED (R126). -/
theorem relayHalt_room {originator : Identity} {number : Byte} {s : State} (hr : Room s) :
    relayHalt offer originator number s
      = setRelay originator number true (enqueue s.chan.queue (s.yardFrame (.halt originator number 0 true))
          (some (s.now + s.relayDelay)) (.relay originator number) (countDraw s)) := by
  have room : Room (countDraw s) := hr
  have offered := offer_room_of_not (f := s.yardFrame (.halt originator number 0 true)) (tag := .relay originator number)
    (nb := some (s.now + s.relayDelay)) room (.inr (.inl (Option.some_ne_none _)))
  simp only [relayHalt]
  change (match offer (s.yardFrame (.halt originator number 0 true)) (some (s.now + s.relayDelay))
    (.relay originator number) (countDraw s) with | some t => _ | none => _) = _
  rw [offered]
  rfl

/-! ## The notice to the floor (R149, R153) -/

theorem haltNotice_claim_waiting {scope : Scope} {s : State} (hf : s.floor.st = .claiming scope none)
    (hw : ∃ x ∈ s.chan.queue, x.tag = .claim ∧ x.onAir = false) : haltNotice offer s
      = raise .floor false noSubject [3, scopeCode scope]
          { withoutWaiting .claim s with floor := { s.floor with st := .free } } := by
  simp only [haltNotice, hf, removalAnswer_removed.mpr hw, withdraw_waiting hw]
  rfl

theorem haltNotice_claim_airing {scope : Scope} {s : State} (hf : s.floor.st = .claiming scope none)
    (ha : ∃ x ∈ s.chan.queue, x.tag = .claim ∧ x.onAir = true) (hn : NoneWaits .claim s) : haltNotice offer s
      = { withdraw .claim s with floor := { s.floor with st := .claiming scope (some .overridden) } } := by
  have floor : (withdraw .claim s).floor = s.floor := by simp
  simp only [haltNotice, hf, removalAnswer_onAir ha hn, State.setFloorState, floor]
  rfl

/-- The floor states that a halt notice leaves. -/
theorem haltNotice_kept {s : State} (h : s.floor.st = .free ∨ (∃ r, s.floor.st = .held r)
    ∨ (∃ scope cause, s.floor.st = .claiming scope (some cause))
    ∨ ∃ sp cause offered left, s.floor.st = .own sp ∧ sp.phase = .clearing cause offered left) : haltNotice offer s = s := by
  rcases h with h | ⟨r, h⟩ | ⟨scope, cause, h⟩ | ⟨sp, cause, offered, left, h, hp⟩
  · simp only [haltNotice, h]
  · simp only [haltNotice, h]
  · simp only [haltNotice, h]
  · simp only [haltNotice, h, hp]

theorem haltNotice_talking {sp : Spurt} {s : State} (hf : s.floor.st = .own sp) (hp : sp.phase = .talking) :
    haltNotice offer s
      = endSpurt offer .overridden (raise .floor false noSubject [3, scopeCode sp.scope] s) := by
  simp only [haltNotice, hf, hp]
  rfl

/-- Behind a block on air the spurt's end waits for it. -/
theorem endSpurt_airing {x : Floor} {sp : Spurt} {cause : SpurtEnd} {s : State} (hx : s.floor = x) (hf : x.st = .own sp)
    (hv : s.voiceOnAir = true) : endSpurt offer cause s = { s with floor := { x with
      st := .own { sp with phase := .clearing cause false x.outlet.length, assembly := [] }, outlet := [] } } := by
  subst hx
  simp only [endSpurt, hf]
  exact if_pos hv

theorem voiceOnAir_congr {s t : State} (h : t.chan = s.chan) : t.voiceOnAir = s.voiceOnAir := by
  simp only [State.voiceOnAir, h]

end Sys2Proof.Machine
end

section
/-! PROOFS. The obligation about a HALT heard, by the cases of its pair and its authority (R122 to R129, R149). -/

namespace Sys2Proof.Machine

theorem takeHalt_screened {h : Header} {originator : Identity} {number copy : Byte} {relay : Bool} {s : State}
    (hs : s.screenedOut h originator relay = true) : takeHalt h originator number copy relay s = s := if_pos hs

theorem takeHalt_known {h : Header} {originator : Identity} {number copy : Byte} {relay : Bool} {e : HaltEntry}
    {s : State} (hs : s.screenedOut h originator relay = false) (he : s.haltEntry originator number = some e) :
    takeHalt h originator number copy relay s = knownHalt h e relay s := by
  simp only [takeHalt, hs, he, Bool.false_eq_true, if_false]

theorem takeHalt_new {h : Header} {originator : Identity} {number copy : Byte} {relay : Bool} {s : State}
    (hs : s.screenedOut h originator relay = false) (he : s.haltEntry originator number = none) :
    takeHalt h originator number copy relay s = newHalt h originator number copy relay s := by
  simp only [takeHalt, hs, he, Bool.false_eq_true, if_false]

theorem knownHalt_unauthorized {h : Header} {e : HaltEntry} {relay : Bool} {s : State}
    (ha : authorized h relay = false) : knownHalt h e relay s = s := by
  simp [knownHalt, ha]

theorem knownHalt_plain {h : Header} {e : HaltEntry} {relay : Bool} {s : State} (ha : authorized h relay = true)
    (hr : relay = false ∨ e.relayQueued = false) : knownHalt h e relay s = haltNotice offer s := by
  simp only [knownHalt, ha, if_true]
  rcases hr with hr | hr <;> simp [hr]

/-- A relay of the pair from another station suppresses the own one (R127). -/
theorem knownHalt_relay {h : Header} {e : HaltEntry} {s : State} (hr : e.relayQueued = true) :
    knownHalt h e true s = haltNotice offer (suppressRelay e.originator e.number s) := by
  simp [knownHalt, authorized, hr]

/-- A halt of a scope adds its cause at a TRACTION (R112). -/
theorem addHaltCause_traction {scope : Scope} {subject : Identity} {s : State} (ht : s.isTraction = true) :
    addHaltCause scope subject s
      = changeCauses (match scope with | .crew => causeCrewHalt | .yard => causeYardHalt) 0 subject s := by
  simp only [addHaltCause, ht, if_true]
  cases scope <;> rfl

theorem addHaltCause_other {scope : Scope} {subject : Identity} {s : State} (ht : s.isTraction = false) :
    addHaltCause scope subject s = s := by
  simp [addHaltCause, ht]

theorem newHalt_unauthorized {h : Header} {originator : Identity} {number copy : Byte} {relay : Bool} {s : State}
    (ha : authorized h relay = false) : newHalt h originator number copy relay s
      = raiseAuthority originator h.sender number (enterPair originator number s) := by
  simp [newHalt, ha]

/-- A new authorized halt is told; a TRACTION adds its cause and relays an original yard halt. -/
theorem newHalt_authorized {h : Header} {originator : Identity} {number copy : Byte} {relay : Bool} {s t : State}
    (ha : authorized h relay = true) (ht : addHaltCause (haltScope h) originator
      (raiseHaltHeard h originator number copy relay (enterPair originator number s)) = t) :
    newHalt h originator number copy relay s
      = haltNotice offer (if t.isTraction && h.mode == .yard && !relay then relayHalt offer originator number t else t) := by
  subst ht
  simp only [newHalt, ha, if_true]

/-- The relay state of a pair is written into the memory as it stands (R127). -/
theorem setRelay_memory {g : State} {m : List HaltEntry} (originator : Identity) (number : Byte) (queued : Bool)
    (hm : g.halt.memory = m) : setRelay originator number queued g = { g with halt := { g.halt with
      memory := m.map (fun x => if pairIs originator number x then { x with relayQueued := queued } else x) } } := by
  subst hm
  rfl

/-- Settles O50: the screen, then a known or a new pair; the notice by the floor's state. -/
theorem haltFrameIsScreenedAndActedOn : Obligations.HaltFrameIsScreenedAndActedOn := by
  refine ⟨fun dev stamp h originator number copy relay s u hu => ?_, fun u => ?_⟩
  · intro becomes screened authorized_ pair scope noRelay
    have taken {t : State} (ht : takeHalt h originator number copy relay u = t) : becomes t := by
      rw [← ht]
      exact exec_haltFrame hu
    have passes (hs : ¬ screened) : u.screenedOut h originator relay = false :=
      Bool.eq_false_iff.mpr fun h => hs (screenedOut_iff.mp h)
    have without (ha : ¬ authorized_) : authorized h relay = false :=
      Bool.eq_false_iff.mpr fun h => ha (authorized_iff.mp h)
    refine ⟨fun hs => taken (takeHalt_screened (screenedOut_iff.mpr hs)), fun e hs he => ?_, fun hs hn => ?_⟩
    · have known := takeHalt_known (copy := copy) (passes hs) he
      obtain ⟨ho, hnum⟩ := pair_of_haltEntry he
      refine ⟨fun ha => taken (known.trans (knownHalt_unauthorized (without ha))),
        fun ha hr => taken (known.trans (knownHalt_plain (authorized_iff.mpr ha) hr)), fun hr hq => ?_⟩
      subst hr
      have suppressed := known.trans (knownHalt_relay hq)
      rw [ho, hnum] at suppressed
      refine ⟨fun hw => taken (suppressed.trans ?_), fun hw => taken (suppressed.trans ?_)⟩
      · rw [suppressRelay_waiting hw]
        rfl
      · rw [suppressRelay_noneWaits hw]
    · intro enters
      have new := takeHalt_new (copy := copy) (passes hs) hn
      have entered : enters (roomForPair u) := by
        dsimp -zeta only [enters]
        intro known told stopped
        have known_eq : enterPair originator number u = known := enterPair_new hn
        have life : told.life = u.life := by
          simp only [told, raise_life, known]
          rw [roomForPair_frame]
        have life' : stopped.life = u.life := by simp [stopped, life]
        have chan : stopped.chan = (roomForPair u).chan := by simp [stopped, told, known]
        have now : stopped.now = u.now := by
          simp only [stopped, changeCauses_now, told, raise_now, known]
          rw [roomForPair_frame]
        have draws : stopped.draws = u.draws := by
          simp only [stopped, changeCauses_draws, told, raise_draws, known]
          rw [roomForPair_frame]
        have unitId : stopped.unitId = u.unitId := by
          simp only [stopped, changeCauses_unitId, told, raise_unitId, known]
          rw [roomForPair_frame]
        have halt : stopped.halt = known.halt := by simp [stopped, told]
        have heard (ht : u.isTraction = true) : addHaltCause (haltScope h) originator
            (raiseHaltHeard h originator number copy relay (enterPair originator number u)) = stopped := by
          rw [known_eq]
          exact addHaltCause_traction (s := told) ((isTraction_of_life life).trans ht)
        refine ⟨fun ha => ?_, fun ha => ⟨fun ht => ?_, fun ht hmode => ?_, fun ht hmode hr room => ?_⟩⟩
        · refine taken (new.trans ?_)
          rw [newHalt_unauthorized (without ha), known_eq]
          rfl
        · have other : addHaltCause (haltScope h) originator
              (raiseHaltHeard h originator number copy relay (enterPair originator number u)) = told := by
            rw [known_eq]
            exact addHaltCause_other (s := told) ((isTraction_of_life life).trans ht)
          refine taken (new.trans ((newHalt_authorized (authorized_iff.mpr ha) other).trans ?_))
          rw [isTraction_of_life life, ht]
          rfl
        · refine taken (new.trans ((newHalt_authorized (authorized_iff.mpr ha) (heard ht)).trans ?_))
          rcases hmode with hm | hm <;> simp [hm]
        · have room' : Room stopped := by
            rw [Room, chan]
            exact Nat.lt_of_le_of_lt (roomForPair_queue_le u) room
          have counted : countDraw stopped = { stopped with draws := u.draws + 1 } := by
            rw [← draws]
            rfl
          have frame : stopped.yardFrame (.halt originator number 0 true) = u.yardFrame (.halt originator number 0 true) :=
            scopeFrame_congr unitId life' .yard _
          have relayed := relayHalt_room (originator := originator) (number := number) room'
          rw [frame, now, counted, setRelay_memory _ _ _ (m := known.halt.memory) (by simp [halt])] at relayed
          refine ⟨stopped.relayDelay, _, relayDelay_mem stopped, enqueue_queued .., ?_⟩
          refine taken (new.trans ((newHalt_authorized (authorized_iff.mpr ha) (heard ht)).trans ?_))
          have relays : (stopped.isTraction && h.mode == .yard && !relay) = true := by
            rw [isTraction_of_life life', ht, hmode, hr]
            rfl
          exact congrArg (haltNotice offer) ((if_pos relays).trans relayed)
      refine ⟨fun hl => ?_, fun pre e post hl he hpre hpost => ?_⟩
      · rw [← roomForPair_of_lt hl]
        exact entered
      · intro others rest
        rw [roomForPair_full hl he hpre hpost] at entered
        exact entered
  · intro overridden
    refine ⟨fun h => haltNotice_kept (h.elim .inl fun h => .inr (.inl h)), fun scope cause h =>
      haltNotice_kept (.inr (.inr (.inl ⟨scope, cause, h⟩))), fun sp cause offered left h hp =>
      haltNotice_kept (.inr (.inr (.inr ⟨sp, cause, offered, left, h, hp⟩))), fun scope h hw =>
      haltNotice_claim_waiting h hw, fun scope h ha hn => haltNotice_claim_airing h ha hn, fun sp h hp => ?_⟩
    intro ended
    have floor : (overridden sp.scope u).floor = u.floor := by simp [overridden]
    have chan : (overridden sp.scope u).chan = u.chan := by simp [overridden]
    have talking := haltNotice_talking h hp
    refine ⟨fun hv => talking.trans (endSpurt_airing floor h ((voiceOnAir_congr chan).trans hv)), fun hv hr => ?_⟩
    have cleared := endSpurt_room (s := overridden sp.scope u) (sp := sp) .overridden (by rw [floor, h])
      ((voiceOnAir_congr chan).trans hv) (by rwa [Room, chan])
    have frame : (overridden sp.scope u).scopeFrame sp.scope (.clear (BitVec.ofNat 8 sp.sent))
        = u.scopeFrame sp.scope (.clear (BitVec.ofNat 8 sp.sent)) :=
      scopeFrame_congr (by simp [overridden]) (by simp [overridden]) _ _
    rw [frame, floor] at cleared
    exact ⟨_, enqueue_queued .., talking.trans cleared⟩

end Sys2Proof.Machine
end

section
/-! PROOFS. Floor frames, and the frames of the host link and the peer table (R8, R48, R50, R144 to R148, R155, R166, R184). -/

namespace Sys2Proof.Machine

/-! ## The playout buffer (R155) -/

/-- A floor whose playout buffer has been offered what a CLAIM or a VOICE brings (R155). -/
def playedFloor (inScope : Bool) (v : Speech) (f : Floor) : Floor :=
  match v with
  | some (_, x) =>
    if inScope then
      (if f.playout.length < 3 then { f with playout := f.playout ++ [x] }
       else { f with playout := f.playout.drop 1 ++ [x], playPos := 0 })
    else f
  | none => f

theorem voiceInScope_iff {h : Header} {s : State} : s.voiceInScope h = true
    ↔ h.mode = .yard ∨ (h.mode = .crew ∧ h.dest = s.cfg.crew.setWidth 24) := by
  simp [State.voiceInScope]

theorem voiceInScope_congr {h : Header} {s t : State} (hl : t.life = s.life) : t.voiceInScope h = s.voiceInScope h := by
  simp only [State.voiceInScope, cfg_of_life hl]

theorem playSpeech_eq {h : Header} {v : Speech} {b : Bool} {s : State} (hb : s.voiceInScope h = b) :
    playSpeech h v s = { s with floor := playedFloor b v s.floor } := by
  subst hb
  unfold playSpeech playedFloor
  match v with
  | none => rfl
  | some (n, x) =>
    by_cases hs : s.voiceInScope h = true
    · by_cases hl : s.floor.playout.length < 3 <;> simp only [hs, hl, if_true, if_false, enterPlayout, playoutCapacity] <;> rfl
    · simp only [hs]
      rfl

theorem playSpeech_none (h : Header) (s : State) : playSpeech h none s = s := rfl

/-! ## The floor taken (R144, R145, R147, R148) -/

/-- The floor state that a CLAIM or a VOICE makes when it takes the floor (R144). -/
def floorTaken (sender : Identity) (now : Nat) (v : Speech) : FloorState :=
  .held { talker := sender, taken := now, last := v.map Prod.fst, missed := 0 }

theorem holdFloor_eq {sender : Identity} {v : Speech} {n : Nat} {s : State} (hn : s.now = n) :
    holdFloor sender (speechNumber v) s = s.setFloorState (floorTaken sender n v) := by
  subst hn
  rfl

section
variable {h : Header} {v : Speech} {s : State}

theorem hearSpeech_free (hf : s.floor.st = .free) : hearSpeech h v s
    = { s with floor := playedFloor (s.voiceInScope h) v { s.floor with st := floorTaken h.sender s.now v } } := by
  simp only [hearSpeech, hf, holdFloor_eq (s := s) rfl]
  exact playSpeech_eq rfl

theorem hearSpeech_lower {r : Held} (hf : s.floor.st = .held r) (hlt : h.sender.toNat < r.talker.toNat) :
    hearSpeech h v s =
      let x : Floor := { s.floor with st := floorTaken h.sender s.now v, playout := [], playPos := 0 }
      { s with floor := playedFloor (s.voiceInScope h) v x } := by
  have other : h.sender ≠ r.talker := fun he => Nat.lt_irrefl _ (he ▸ hlt)
  simp only [hearSpeech, hf, if_neg other, if_pos hlt, holdFloor_eq (s := s) rfl]
  exact playSpeech_eq rfl

theorem hearSpeech_higher {r : Held} (hf : s.floor.st = .held r) (hlt : r.talker.toNat < h.sender.toNat) :
    hearSpeech h v s = s := by
  have other : h.sender ≠ r.talker := fun he => Nat.lt_irrefl _ (he ▸ hlt)
  simp only [hearSpeech, hf, if_neg other, if_neg (Nat.lt_asymm hlt)]

theorem hearSpeech_talker {r : Held} (hf : s.floor.st = .held r) (he : h.sender = r.talker) : hearSpeech h v s
    = { s with floor := playedFloor (s.voiceInScope h) v { s.floor with st := .held (renewHeld r v s.now) } } := by
  simp only [hearSpeech, hf, if_pos he]
  exact playSpeech_eq rfl

theorem hearSpeech_claiming {scope : Scope} {cause : Option SpurtEnd} (hf : s.floor.st = .claiming scope cause) :
    hearSpeech h v s =
      let w := withdraw .claim s
      let t := raise .floor false h.sender [1, scopeCode scope]
        { w with floor := { w.floor with st := floorTaken h.sender s.now v } }
      { t with floor := playedFloor (s.voiceInScope h) v t.floor } := by
  simp only [hearSpeech, hf, holdFloor_eq (s := withdraw .claim s) (withdraw_now ..)]
  exact playSpeech_eq (voiceInScope_congr (by simp [raiseFloor]))

theorem hearSpeech_talking_higher {sp : Spurt} (hf : s.floor.st = .own sp) (hp : sp.phase = .talking)
    (hlt : s.unitId.toNat < h.sender.toNat) : hearSpeech h v s = s := by
  simp only [hearSpeech, hf, hp, if_neg (Nat.lt_asymm hlt)]

theorem hearSpeech_talking_lower {sp : Spurt} (hf : s.floor.st = .own sp) (hp : sp.phase = .talking)
    (hlt : h.sender.toNat < s.unitId.toNat) : hearSpeech h v s =
      let t := raise .spurtEnd false h.sender
        [4, scopeCode sp.scope, BitVec.ofNat 8 sp.sent, BitVec.ofNat 8 sp.discarded, BitVec.ofNat 8 s.floor.outlet.length]
        (raise .floor false h.sender [2, scopeCode sp.scope]
          { s with floor := { s.floor with st := floorTaken h.sender s.now v, outlet := [] } })
      { t with floor := playedFloor (s.voiceInScope h) v t.floor } := by
  simp only [hearSpeech, hf, hp, if_pos hlt, holdFloor_eq (s := s) rfl]
  exact playSpeech_eq (voiceInScope_congr (by simp [raiseFloor, raiseSpurtEnd]))

theorem hearSpeech_clearing {sp : Spurt} {cause : SpurtEnd} {offered : Bool} {left : Nat} (hf : s.floor.st = .own sp)
    (hp : sp.phase = .clearing cause offered left) : hearSpeech h v s =
      let w := if offered then withdraw .clear s else s
      { w with floor := playedFloor (s.voiceInScope h) v { w.floor with st := floorTaken h.sender s.now v } } := by
  have now : (if offered then withdraw .clear s else s).now = s.now := by split_ifs <;> simp
  have life : (if offered then withdraw .clear s else s).life = s.life := by split_ifs <;> simp
  simp only [hearSpeech, hf, hp, holdFloor_eq now]
  exact playSpeech_eq (voiceInScope_congr life)

end

theorem exec_speech {c : Instr} {dev stamp : Nat} {h : Header} {scope : Scope} {number : Byte} {block : List CodecFrame}
    {b : Body} {speech : Speech} {s u : State}
    (hc : (b = .claim scope ∧ c = .claimFrame dev h scope ∧ speech = none)
      ∨ (b = .voice number block ∧ c = .voiceFrame dev h number block ∧ speech = some (number, block)))
    (hu : HeardAt ⟨h, b⟩ dev stamp s u) : exec c s = .next (judgeNotice (hearSpeech h speech u)) := by
  rcases hc with ⟨rfl, rfl, rfl⟩ | ⟨rfl, rfl, rfl⟩ <;> exact congrArg Host.Outcome.next (receive_heard _ hu)

theorem exec_clearFrame {dev stamp : Nat} {h : Header} {sent : Byte} {s u : State}
    (hu : HeardAt ⟨h, .clear sent⟩ dev stamp s u) :
    exec (.clearFrame dev h sent) s = .next (judgeNotice (hearClear h.sender u)) :=
  congrArg Host.Outcome.next (receive_heard _ hu)

/-- Settles O51: by the floor's state and the order of the identities. -/
theorem floorFramesFollowTheLowestTalker : Obligations.FloorFramesFollowTheLowestTalker := by
  intro c dev stamp h scope sent number block b speech s u hc
  refine ⟨fun hu => ?_, fun hu => ⟨fun r hf he => ?_, fun r hf hne => ?_, fun hf => ?_⟩⟩
  · intro played taken_
    have plays : played = playedFloor (u.voiceInScope h) speech := by
      funext f
      simp only [played, playedFloor]
      match speech with
      | none => rfl
      | some (n, x) => simp only [voiceInScope_iff]
    have taken {t : State} (ht : hearSpeech h speech u = t) : exec c s = .next (judgeNotice t) := by
      rw [exec_speech hc hu, ht]
    rw [plays]
    refine ⟨fun hf => taken (hearSpeech_free hf), fun r hf hlt => taken (hearSpeech_lower hf hlt),
      fun r hf hlt => taken (hearSpeech_higher hf hlt), fun r hf he hn => ?_, fun r n x hf he hv => ?_,
      fun claimed end_ hf => taken (hearSpeech_claiming hf), fun sp hf hp hlt => taken (hearSpeech_talking_higher hf hp hlt),
      fun sp hf hp hlt => taken (hearSpeech_talking_lower hf hp hlt),
      fun sp cause offered left hf hp => taken (hearSpeech_clearing hf hp)⟩
    · subst hn
      exact taken (hearSpeech_talker hf he)
    · intro skipped renewed
      have same : renewHeld r speech u.now = renewed := by
        subst hv
        cases hl : r.last <;> simp [renewHeld, renewed, skipped, hl, blocksMissed]
      exact taken ((hearSpeech_talker hf he).trans (by rw [same]))
  · rw [exec_clearFrame hu]
    simp only [hearClear, hf, if_pos he]
    rfl
  · rw [exec_clearFrame hu]
    simp only [hearClear, hf, if_neg hne]
  · rw [exec_clearFrame hu]
    rcases hf with hf | ⟨x, y, hf⟩ | ⟨x, hf⟩ <;> simp only [hearClear, hf]

/-! ## NOTE, PROBE, ECHO, PRESENT and DORMANT (R48, R50, R166, R184) -/

theorem probeMatch_eq_some {sender : Identity} {pattern : List Byte} {sentAt : Nat} {s : State} :
    s.probeMatch sender pattern = some sentAt ↔ s.peers.probe = .awaiting sender pattern sentAt := by
  unfold State.probeMatch
  cases s.peers.probe <;> simp [and_assoc]

/-- Settles O52: each frame by its own rule. -/
theorem noteProbeEchoAndPresenceFrames : Obligations.NoteProbeEchoAndPresenceFrames := by
  intro dev stamp h text pattern quality rate s u
  refine ⟨fun hu hl => ⟨raiseNote h text u, congrArg Host.Outcome.next (receive_heard _ hu), ?_⟩,
    fun hu hr => ⟨_, enqueue_queued .., ?_⟩, fun hu => ⟨fun sentAt hp => ?_, fun hp => ?_⟩,
    fun hu => congrArg Host.Outcome.next (receive_heard _ hu), fun hu => congrArg Host.Outcome.next (receive_heard _ hu)⟩
  · have posted : raiseNote h text u = judgeSrq { u with host := { u.host with reports := u.host.reports ++
        [{ kind := .note, urgent := false, lostBefore := false, time := u.now, subject := h.sender
           detail := [(modeCode h.mode).setWidth 8, BitVec.ofNat 8 text.length], text := text, entryTime := u.now }] } } :=
      postReport_room hl
    rw [posted]
    rfl
  · have sent : offerAnyway (u.unitFrame h.sender 0 (.echo (BitVec.ofNat 8 (7 - dev)) u.cfg.rate pattern)) .echo u = _ :=
      offerAnyway_room hr nofun
    rw [← sent]
    exact congrArg Host.Outcome.next (receive_heard _ hu)
  · have heard : exec (.echoFrame dev h quality rate pattern) s
        = .next (judgeNotice (takeEcho h.sender quality rate pattern stamp (qualityClass dev) u)) :=
      congrArg Host.Outcome.next (receive_heard _ hu)
    rw [heard]
    simp only [takeEcho, probeMatch_eq_some.mpr hp]
    rfl
  · have heard : exec (.echoFrame dev h quality rate pattern) s
        = .next (judgeNotice (takeEcho h.sender quality rate pattern stamp (qualityClass dev) u)) :=
      congrArg Host.Outcome.next (receive_heard _ hu)
    have unmatched : u.probeMatch h.sender pattern = none :=
      Option.eq_none_iff_forall_ne_some.mpr fun sentAt hm => hp sentAt (probeMatch_eq_some.mp hm)
    rw [heard]
    simp only [takeEcho, unmatched]
    rfl

end Sys2Proof.Machine
end

section
/-! PROOFS. Waits of requests that run out, and request frames that are dropped (R56, R58, R63, R69, R72 to R74). -/

namespace Sys2Proof.Machine

/-! ## The end of a request that has been queued again -/

/-- A request under the same sequence and body, queued anew, ends as the first did. -/
theorem requestEnds_again {i : Fin 4} {e : OpEntry} {q r : Request} {x : Option BondEntry} {result : Byte}
    {why : Option Reason} {s : State} (hb : r.body = q.body) (hs : r.seq = q.seq) :
    requestEnds i { e with req := some r } r result why (putEntry i x s) = requestEnds i e q result why s := by
  simp only [requestEnds, putEntry_putEntry, otherOp_putEntry, hb, hs]

/-- The state in which a request has been queued again, its count one higher (R72). -/
def requeued (i : Fin 4) (e : OpEntry) (q : Request) (s : State) : State :=
  putEntry i (some (.op { e with req := some { q with resends := q.resends + 1, phase := .queued } })) s

theorem modReq_requeued {i : Fin 4} {e : OpEntry} {q : Request} {s : State} (he : s.opEntry i = some e)
    (hq : e.req = some q) :
    modReq i (fun r => { r with resends := r.resends + 1, phase := .queued }) s = requeued i e q s := by
  simp only [modReq, modOp_of_opEntry he, hq, Option.map_some, requeued]

section
variable {off : Offering} {n : Nat} {i : Fin 4} {e : OpEntry} {q : Request} {s : State}

/-- A request whose resends are used up ends with NO-ANSWER. -/
theorem resendOrEnd_ends (he : s.opEntry i = some e) (hq : e.req = some q) (h : 2 ≤ q.resends) :
    resendOrEnd off n i s = requestEnds i e q 2 none s := by
  have ended : endRequest off i .noAnswer s = requestEnds i e q 2 none s := endRequest_eq (r := .noAnswer) he hq nofun
  cases n with
  | zero => exact ended
  | succ n => simp only [resendOrEnd, he, hq, maxResends, Nat.not_lt.mpr h, if_false, ended]

theorem resendOrEnd_offered {t : State} (he : s.opEntry i = some e) (hq : e.req = some q) (h : q.resends < 2)
    (ht : off (s.requestFrame e.traction q.seq q.body) none (requestTag i q.seq q.body) (requeued i e q s) = some t) :
    resendOrEnd off (n + 1) i s = t := by
  simp only [resendOrEnd, he, hq, maxResends, h, if_true, modReq_requeued he hq]
  change (match off (s.requestFrame e.traction q.seq q.body) none (requestTag i q.seq q.body) (requeued i e q s) with
    | some t => t | none => _) = t
  rw [ht]

theorem resendOrEnd_refused (he : s.opEntry i = some e) (hq : e.req = some q) (h : q.resends < 2)
    (ht : off (s.requestFrame e.traction q.seq q.body) none (requestTag i q.seq q.body) (requeued i e q s) = none) :
    resendOrEnd off (n + 1) i s = resendOrEnd off n i (requeued i e q s) := by
  simp only [resendOrEnd, he, hq, maxResends, h, if_true, modReq_requeued he hq]
  change (match off (s.requestFrame e.traction q.seq q.body) none (requestTag i q.seq q.body) (requeued i e q s) with
    | some t => t | none => resendOrEnd off n i (requeued i e q s)) = _
  rw [ht]

end

/-- One more round changes nothing once the rounds outnumber the resends that remain. -/
theorem resendOrEnd_succ {off : Offering} : ∀ (n : Nat) {i : Fin 4} {e : OpEntry} {q : Request} {s : State},
    s.opEntry i = some e → e.req = some q → 2 < n + q.resends →
    resendOrEnd off (n + 1) i s = resendOrEnd off n i s
  | 0, i, e, q, s, he, hq, hn => by
    have used : 2 ≤ q.resends := by omega
    rw [resendOrEnd_ends he hq used, resendOrEnd_ends he hq used]
  | n + 1, i, e, q, s, he, hq, hn => by
    by_cases hlt : q.resends < 2
    · cases ht : off (s.requestFrame e.traction q.seq q.body) none (requestTag i q.seq q.body) (requeued i e q s) with
      | some t => rw [resendOrEnd_offered he hq hlt ht, resendOrEnd_offered he hq hlt ht]
      | none =>
        rw [resendOrEnd_refused he hq hlt ht, resendOrEnd_refused he hq hlt ht]
        refine resendOrEnd_succ n (opEntry_putEntry i _ s) rfl ?_
        change 2 < n + (q.resends + 1)
        omega
    · rw [resendOrEnd_ends he hq (Nat.not_lt.mp hlt), resendOrEnd_ends he hq (Nat.not_lt.mp hlt)]

/-- A full queue refuses every round of a class 2 request, and it ends with NO-ANSWER (R74). -/
theorem resendOrEnd_full : ∀ (n : Nat) {i : Fin 4} {e : OpEntry} {q : Request} {s : State},
    s.opEntry i = some e → e.req = some q → ¬ Room s → kindClass (reqKind q.body) = .c2 →
    resendOrEnd offer n i s = requestEnds i e q 2 none s
  | 0, i, e, q, s, he, hq, hr, hc => endRequest_eq (r := .noAnswer) he hq nofun
  | n + 1, i, e, q, s, he, hq, hr, hc => by
    by_cases hlt : q.resends < 2
    · have full : ¬ Room (requeued i e q s) := hr
      have refused := offer_full (nb := none) (tag := requestTag i q.seq q.body) full
        ((congrArg kindClass (frameKind_requestFrame s e.traction q.seq q.body)).trans hc)
      have again := resendOrEnd_full n (q := { q with resends := q.resends + 1, phase := .queued })
        (opEntry_putEntry i _ s) rfl full hc
      exact (resendOrEnd_refused he hq hlt refused).trans (again.trans (requestEnds_again rfl rfl))
    · exact resendOrEnd_ends he hq (Nat.not_lt.mp hlt)

/-! ## Waits (R56, R72, R73) -/

theorem exec_waitExpiry {c : Instr} {i : Fin 4} {e : OpEntry} {q : Request} {end_ : Nat} {s : State}
    (he : s.opEntry i = some e) (hq : e.req = some q)
    (hc : (c = .bindWaitExpiry i ∧ q.body = .bindAsk ∧ q.phase = .awaiting end_)
      ∨ (c = .answerWaitExpiry i ∧ q.body ≠ .bindAsk ∧ q.phase = .awaiting end_)
      ∨ (c = .retryWaitExpiry i ∧ q.phase = .retry end_)) :
    exec c s = .next (if end_ ≤ s.now then noAnswerYet offer i s else s) := by
  have bind : reqKind q.body = .bindAsk ↔ q.body = .bindAsk := by cases q.body <;> simp [reqKind]
  rcases hc with ⟨rfl, hb, hp⟩ | ⟨rfl, hb, hp⟩ | ⟨rfl, hp⟩
  · change Host.Outcome.next (endWait .bind i s) = _
    simp [endWait, waitDue, he, waitOver, hq, hp, bind.mpr hb]
  · have other : reqKind q.body ≠ .bindAsk := fun h => hb (bind.mp h)
    change Host.Outcome.next (endWait .answer i s) = _
    simp [endWait, waitDue, he, waitOver, hq, hp, other]
  · change Host.Outcome.next (endWait .retry i s) = _
    simp [endWait, waitDue, he, waitOver, hq, hp]

/-! ## A request frame dropped (R58, R74) -/

theorem ownerDropped_queued {off : Offering} {i : Fin 4} {e : OpEntry} {q : Request} {s : State}
    (he : s.opEntry i = some e) (hq : e.req = some q) (hp : q.phase = .queued) :
    ownerDropped off (.request i (reqKind q.body) q.seq) s = resendOrEnd off 3 i s := by
  have is : s.requestIs i (reqKind q.body) q.seq = true := by simp [State.requestIs, he, hq]
  have queued : s.requestQueued i = true := by simp [State.requestQueued, he, hq, hp]
  simp only [ownerDropped, requestDropped, is, queued, Bool.and_self, if_true, noAnswerYet]

theorem ownerDropped_sent {off : Offering} {i : Fin 4} {e : OpEntry} {q : Request} {kind : Kind} {seq : BitVec 4}
    {s : State} (he : s.opEntry i = some e) (hq : e.req = some q) (hp : q.phase ≠ .queued) :
    ownerDropped off (.request i kind seq) s = s := by
  have sent : s.requestQueued i = false := by simp [State.requestQueued, he, hq, hp]
  simp [ownerDropped, requestDropped, sent]

/-- Settles O53: a wait by its end and the resends that remain; a drop by the answer to the next offer. -/
theorem requestWaitsResendOrEnd : Obligations.RequestWaitsResendOrEnd := by
  intro i e q s he hq
  refine ⟨fun c end_ hc => ?_, fun off => ?_⟩
  · have run := exec_waitExpiry he hq hc
    refine ⟨fun h => ?_, fun h hlt hr => ?_, fun h hd => ?_⟩
    · rw [run, if_neg (Nat.not_le.mpr h)]
    · obtain ⟨t, hres, ht⟩ := noAnswerYet_resends he hq hlt hr
      exact ⟨t, hres, by rw [run, if_pos h, ht]⟩
    · rw [run, if_pos h]
      rcases hd with hd | ⟨hr, hk⟩
      · exact congrArg _ (resendOrEnd_ends he hq hd)
      · exact congrArg _ (resendOrEnd_full 3 he hq hr hk)
  · intro tag again
    refine ⟨fun hp hlt => ⟨fun t ht => ?_, fun ht => ?_⟩, fun hp h => ?_, fun hp => ownerDropped_sent he hq hp⟩
    · rw [ownerDropped_queued he hq hp]
      exact resendOrEnd_offered he hq hlt ht
    · have entry : again.opEntry i = some { e with req := some { q with resends := q.resends + 1, phase := .queued } } :=
        opEntry_putEntry i _ s
      have dropped := ownerDropped_queued (off := off) entry rfl rfl
      rw [ownerDropped_queued he hq hp]
      refine (resendOrEnd_refused he hq hlt ht).trans ((resendOrEnd_succ 2 entry rfl ?_).symm.trans dropped.symm)
      change 2 < 2 + (q.resends + 1)
      omega
    · rw [ownerDropped_queued he hq hp]
      exact resendOrEnd_ends he hq h

end Sys2Proof.Machine
end

section
/-! PROOFS. The periods of a bond, the abandonment of a lost one and the age of a silent one (R64, R77, R89, R91, R94, R95, R97,
R116). -/

namespace Sys2Proof.Machine

/-! ## A slot written beside a report -/

theorem putEntry_postReport (i : Fin 4) (x : Option BondEntry) (r : Report) (s : State) :
    putEntry i x (postReport r s) = postReport r (putEntry i x s) := by
  by_cases h : s.host.reports.length < reportCapacity
  · rw [postReport_room h, postReport_room (s := putEntry i x s) h]
    rfl
  · rw [postReport_full h, postReport_full (s := putEntry i x s) h]
    rfl

theorem putEntry_raise (i : Fin 4) (x : Option BondEntry) (k : ReportKind) (b : Bool) (id : Identity) (d : List Byte)
    (s : State) : putEntry i x (raise k b id d s) = raise k b id d (putEntry i x s) := putEntry_postReport ..

theorem putEntry_faultLive (i : Fin 4) (x : Option BondEntry) (c : Condition) (id : Identity) (s : State) :
    putEntry i x (faultLive c id s) = faultLive c id (putEntry i x s) := by
  by_cases h : s.isLive c = true
  · have h' : (putEntry i x s).isLive c = true := h
    simp only [faultLive, h, h', if_true]
  · have h' : ¬ (putEntry i x s).isLive c = true := h
    simp only [faultLive, if_neg h, if_neg h']
    exact putEntry_raise ..

/-! ## The loss rule (R91, R94) -/

/-- Five MISSED marks, or the last three (R91). -/
theorem lossRule_iff {history : List Mark} :
    lossRule history = true ↔ 5 ≤ history.count .missed ∨ history.drop 5 = [.missed, .missed, .missed] := by
  have last : ((history.drop 5).length == 3 && (history.drop 5).all (· == .missed)) = true
      ↔ history.drop 5 = List.replicate 3 .missed := by
    rw [List.eq_replicate_iff]
    simp
  rw [lossRule, Bool.or_eq_true, decide_eq_true_iff, last]
  rfl

/-! ## The operator's period (R89, R91) -/

/-- The previous CHECK of an entry waits: the next takes its place (R89). -/
theorem makeCheck_replaces {i : Fin 4} {e : OpEntry} {l : OpLink} {s : State} (he : s.opEntry i = some e)
    (hl : e.link = some l) (hw : ∃ x ∈ s.chan.queue, waitsCheck i l.check x = true) : makeCheck offer i s =
      let w := putEntry i (some (.op { e with link := some { l with check := l.check + 1 } })) s
      let f := w.unitFrame e.traction 0 (.check (l.check + 1) (BitVec.ofNat 8 (l.period / 100)))
      w.setQueue (w.chan.queue.map fun x =>
        if waitsCheck i l.check x then { x with frame := f, needsWake := x.needsWake || w.wakeNeeded f } else x) := by
  let w := putEntry i (some (.op { e with link := some { l with check := l.check + 1 } })) s
  have numbered : modOp i (fun x => { x with link := some { l with check := l.check + 1 } }) s = w := modOp_of_opEntry he
  have waiting : w.chan.queue.any (waitsCheck i l.check) = true := List.any_eq_true.mpr hw
  simp only [makeCheck, he, hl, numbered, replaceWhere, waiting, if_true]
  rfl

/-- The period of an operator's entry has closed with its mark (R91). -/
def opClosed (e : OpEntry) (p : OpSup) (l : OpLink) : OpEntry :=
  { e with sup := some { history := addMark p.heard p.history, heard := false, due := p.due + l.period } }

section
variable {i : Fin 4} {e : OpEntry} {p : OpSup} {l : OpLink} {s : State}

theorem closeOpPeriod_eq (he : s.opEntry i = some e) (hp : e.sup = some p) (hl : e.link = some l) :
    closeOpPeriod i s = putEntry i (some (.op (opClosed e p l))) s := by
  have period : (e.link.map OpLink.period).getD 0 = l.period := by rw [hl]; rfl
  simp only [closeOpPeriod, modOp_of_opEntry he, hp, Option.map_some, period]
  rfl

theorem exec_checkDue (he : s.opEntry i = some e) (hp : e.sup = some p) (hl : e.link = some l) (hd : p.due ≤ s.now)
    (hst : e.st = .controlling ∨ e.st = .silent) : exec (.checkDue i) s
      = .next (makeCheck offer i (judgeSilence i (putEntry i (some (.op (opClosed e p l))) s))) := by
  have due : checkIsDue i s = true := by
    simp [checkIsDue, he, checkOver, commands_eq_true_iff.mpr hst, hp, hd]
  rw [← closeOpPeriod_eq he hp hl]
  exact congrArg Host.Outcome.next (if_pos due)

/-- A history that does not meet the loss rule leaves the entry's state, and so does SILENT. -/
theorem judgeSilence_kept (h : ¬(e.st = .controlling ∧ lossRule (addMark p.heard p.history) = true)) :
    judgeSilence i (putEntry i (some (.op (opClosed e p l))) s) = putEntry i (some (.op (opClosed e p l))) s := by
  simp only [judgeSilence, opEntry_putEntry]
  exact if_neg h

/-- CONTROLLING turns SILENT, with LINK where no other entry was SILENT (R91). -/
theorem judgeSilence_lost (hst : e.st = .controlling) (h : lossRule (addMark p.heard p.history) = true) :
    judgeSilence i (putEntry i (some (.op (opClosed e p l))) s) =
      let told := raise .bond true e.traction [BitVec.ofNat 8 i.val, 5, 7]
        (putEntry i (some (.op { opClosed e p l with st := .silent })) s)
      if s.otherOp i (fun x => x.st == .silent) then told else faultLive .link e.traction told := by
  simp only [judgeSilence, opEntry_putEntry, otherOp_putEntry, modOp_putEntry]
  exact if_pos ⟨hst, h⟩

end

/-- The previous CHECK of a slot waits. -/
theorem waitsCheck_eq (i : Fin 4) (number : Byte) (x : QEntry) : waitsCheck i number x
    = (x.tag == .check i && !x.onAir && (match x.frame.body with | .check n _ => n == number | _ => false)) := rfl

/-! ## The traction's period (R94) -/

section
variable {i : Fin 4} {e : TrEntry} {p : TrSup} {s : State}

/-- The supervision of a traction's entry whose period has closed with its mark (R94). -/
def trClosed (p : TrSup) : TrSup :=
  { p with history := addMark p.heard p.history, heard := false, closeAt := p.closeAt + p.period }

theorem exec_periodClose (he : s.trEntry i = some e) (hp : e.sup = some p) (hd : p.closeAt ≤ s.now)
    (hst : e.st = .controlling ∨ e.st = .lost) : exec (.periodClose i) s
      = .next (judgeLoss i (putEntry i (some (.tr { e with sup := some (trClosed p) })) s)) := by
  have control : inControl e = true := by rcases hst with h | h <;> simp [inControl, h]
  have due : periodDue i s = true := by simp [periodDue, he, periodOver, control, hp, hd]
  have closed : closeTrPeriod i s = putEntry i (some (.tr { e with sup := some (trClosed p) })) s := by
    simp only [closeTrPeriod, modSup, modTr_of_trEntry he, hp, Option.map_some, trClosed]
  rw [← closed]
  exact congrArg Host.Outcome.next (if_pos due)

theorem judgeLoss_kept (h : ¬(e.st = .controlling ∧ lossRule (addMark p.heard p.history) = true)) :
    judgeLoss i (putEntry i (some (.tr { e with sup := some (trClosed p) })) s)
      = putEntry i (some (.tr { e with sup := some (trClosed p) })) s := by
  simp only [judgeLoss, trEntry_putEntry]
  exact if_neg h

/-- CONTROLLING turns LOST: LINK-LOST is added, LINK is live, and the loss is told (R94). -/
theorem judgeLoss_lost (hst : e.st = .controlling) (h : lossRule (addMark p.heard p.history) = true) :
    judgeLoss i (putEntry i (some (.tr { e with sup := some (trClosed p) })) s) =
      let w := changeCauses causeLinkLost 0 e.operator
        (putEntry i (some (.tr { e with sup := some (trClosed p), st := .lost, lostSince := some s.now })) s)
      raise .bond true e.operator [BitVec.ofNat 8 i.val, 7, 7]
        (if s.otherTr i (fun x => x.st == .lost) then w else faultLive .link e.operator w) := by
  simp only [judgeLoss, trEntry_putEntry, otherTr_putEntry, modTr_putEntry]
  exact if_pos ⟨hst, h⟩

end

/-! ## The end of a traction's entry (R64, R95) -/

theorem exec_abandon {i : Fin 4} {e : TrEntry} {since : Nat} {s : State} (he : s.trEntry i = some e) (hst : e.st = .lost)
    (hs : e.lostSince = some since) (hd : since + 60000 ≤ s.now) : exec (.abandon i) s = .next (abandon i e s) := by
  have ended : abandonOver s.now e = true := by simp [abandonOver, hst, hs, abandonMs, hd]
  change execAbandon i s = _
  simp only [execAbandon, he, ended, if_true]

/-- A LOST entry abandoned: it goes, its transfer detaches, UNATTENDED and the end of LINK by the other entries (R95). -/
theorem abandon_eq {i : Fin 4} {e : TrEntry} {s : State} (he : s.trEntry i = some e) (hst : e.st = .lost) :
    abandon i e s =
      let gone := raise .bond false e.operator [BitVec.ofNat 8 i.val, 0, 9]
        (agePeers (putEntry i none (transferDetached i e s)))
      let w := if s.otherTr i inControl then gone else changeCauses causeUnattended 0 e.operator gone
      if s.otherTr i (fun x => x.st == .lost) then w else faultEnd .link e.operator w := by
  let gone := raise .bond false e.operator [BitVec.ofNat 8 i.val, 0, 9]
    (agePeers (putEntry i none (transferDetached i e s)))
  have bond : gone.bond = (putEntry i none (transferDetached i e s)).bond := by simp [gone]
  have others (f : TrEntry → Bool) : gone.otherTr i f = s.otherTr i f := by
    rw [otherTr_of_bond bond, otherTr_putEntry]
    exact otherTr_congr _ fun k hk => transferDetached_trEntry_of_ne hk
  have empty : (gone.trEntry i).any inControl = false := by
    rw [trEntry_of_bond bond]
    simp [State.trEntry]
  have unattended := addUnattended_eq (sender := e.operator) (others inControl) empty
  let w := if s.otherTr i inControl then gone else changeCauses causeUnattended 0 e.operator gone
  have kept : w.otherTr i (fun x => x.st == .lost) = s.otherTr i (fun x => x.st == .lost) := by
    rw [← others]
    refine otherTr_of_bond ?_ i _
    simp only [w]
    split_ifs <;> simp
  have ended : abandon i e s = endLinkIfLost i e w := by
    simp only [abandon, detachTransfer_eq he]
    exact congrArg (endLinkIfLost i e) unattended
  rw [ended, endLinkIfLost, kept, hst]
  cases s.otherTr i (fun x => x.st == .lost) <;> simp <;> rfl

theorem exec_standbyAgeOut {i : Fin 4} {e : TrEntry} {p : PeerEntry} {s : State} (he : s.trEntry i = some e)
    (hst : e.st = .standby) (hp : s.peer e.operator = some p) (hd : heardBase p + 600000 ≤ s.now) :
    exec (.standbyAgeOut i) s = .next (ageStandby i e s) := by
  have aged : standbyAged s e = true := by simp [standbyAged, hst, hp, State.reached, standbyAgeMs, hd]
  change execStandbyAgeOut i s = _
  simp only [execStandbyAgeOut, he, aged, if_true]

/-- Settles O54: the four events by their own rules. -/
theorem supervisionClosesPeriodsAndAbandons : Obligations.SupervisionClosesPeriodsAndAbandons := by
  intro i s marked lost
  refine ⟨fun e p l he hp hl hd => ?_, fun e p he hp hd => ?_, fun e since he hst hs hd => ?_,
    fun e p he hst hp hd => ?_⟩
  · intro history after frame previous made
    have makes {x : OpEntry} {j w : State} (hj : exec (.checkDue i) s = .next (makeCheck offer i j))
        (hx : j.opEntry i = some x) (hxl : x.link = some l) (hxt : x.traction = e.traction)
        (hw : putEntry i (some (.op { x with link := some { l with check := l.check + 1 } })) j = w)
        (hc : w.chan = s.chan) (hpeers : w.peers = s.peers) (hu : w.unitId = s.unitId) (hlife : w.life = s.life) :
        made w := by
      have jchan : j.chan = s.chan := by rw [← hc, ← hw]; rfl
      have framed : w.unitFrame x.traction 0 (.check (l.check + 1) (BitVec.ofNat 8 (l.period / 100))) = frame := by
        rw [unitFrame_congr hu hlife, hxt]
      refine ⟨fun hn hr => ?_, fun hex => ?_⟩
      · have new := makeCheck_new hx hxl (by rw [jchan]; exact hn) (by rwa [Room, jchan])
        simp only [hw, framed] at new
        exact ⟨_, enqueue_queued .., hj.trans (congrArg _ new)⟩
      · have replaced := makeCheck_replaces hx hxl (by rw [jchan]; exact hex)
        simp only [hw, framed] at replaced
        rw [hj, replaced]
        simp only [hc, wakeNeeded_congr hpeers, State.setQueue]
        rfl
    refine ⟨fun hst hn => ?_, fun hst hlost => ?_⟩
    · have kept : ¬(e.st = .controlling ∧ lossRule (addMark p.heard p.history) = true) := fun h =>
        hn ⟨h.1, lossRule_iff.mp h.2⟩
      have run := exec_checkDue he hp hl hd hst
      rw [judgeSilence_kept kept] at run
      exact makes run (opEntry_putEntry ..) hl rfl (putEntry_putEntry ..) rfl rfl rfl rfl
    · intro told
      have run := exec_checkDue he hp hl hd (.inl hst)
      rw [judgeSilence_lost hst (lossRule_iff.mpr hlost)] at run
      refine makes (x := { opClosed e p l with st := .silent }) run ?_ hl rfl ?_ ?_ ?_ ?_ ?_
      · simp only
        split_ifs
        · rw [opEntry_of_bond (raise_bond ..), opEntry_putEntry]
        · rw [opEntry_of_bond (faultLive_bond ..), opEntry_of_bond (raise_bond ..), opEntry_putEntry]
      · simp only
        split_ifs
        · rw [putEntry_raise, putEntry_putEntry]
          rfl
        · rw [putEntry_faultLive, putEntry_raise, putEntry_putEntry]
          rfl
      all_goals split_ifs <;> simp [told]
  · intro history sup
    refine ⟨fun hst hn => ?_, fun hst hlost => ?_⟩
    · rw [exec_periodClose he hp hd hst, judgeLoss_kept fun h => hn ⟨h.1, lossRule_iff.mp h.2⟩]
      rfl
    · rw [exec_periodClose he hp hd (.inl hst), judgeLoss_lost hst (lossRule_iff.mpr hlost)]
      rfl
  · rw [exec_abandon he hst hs hd, abandon_eq he hst]
  · intro gone
    have aged : exec (.standbyAgeOut i) s
        = .next (runSequel (clearIfTarget e.operator gone).2 (clearIfTarget e.operator gone).1) :=
      exec_standbyAgeOut he hst hp hd
    refine ⟨fun hx => ?_, fun x hx ht hr => ?_⟩
    · rw [aged, clearIfTarget_other hx]
      rfl
    · have room : Room (transferGone gone) := transferGone_room (by simpa [Room, gone] using hr)
      have sent := sendSettled_room (outcome := .declined) (handing := x.handing) room
      have frame : (transferGone gone).unitFrame x.handing 0 (.settled .declined)
          = s.unitFrame x.handing 0 (.settled .declined) := by
        obtain ⟨life, unitId⟩ := transferGone_life gone
        exact unitFrame_congr (unitId.trans (by simp [gone])) (life.trans (by simp [gone])) ..
      rw [frame] at sent
      exact ⟨_, sent, by rw [aged, clearIfTarget_target hx ht]; rfl⟩

end Sys2Proof.Machine
end

section
/-! PROOFS. The times that run out in the peer table, the fault monitor, the halt memory, the floor and the report queue. -/

namespace Sys2Proof.Machine

variable {s : State}

/-- Of the entries of one identity, an aged one alone leaves the table (R43). -/
theorem filter_aged {p : PeerEntry} (aged : s.agedOut p = true) (only : ∀ q ∈ s.peers.entries, q.id = p.id → q = p) :
    s.peers.entries.filter (fun q => !(q.id == p.id && s.agedOut q)) = s.peers.entries.filter (fun q => q.id != p.id) := by
  refine List.filter_congr fun q hq => ?_
  by_cases same : q.id = p.id
  · rw [only q hq same, aged]
    simp
  · simp [bne, beq_eq_false_iff_ne.mpr same]

theorem exec_peerAgeOut {p : PeerEntry} (hp : p ∈ s.peers.entries) (free : s.pinned p.id = false)
    (old : heardBase p + 300000 ≤ s.now) (only : ∀ q ∈ s.peers.entries, q.id = p.id → q = p) :
    exec (.peerAgeOut p.id) s = .next
      { s with peers := { s.peers with entries := s.peers.entries.filter (fun q => q.id != p.id) } } := by
  have aged : s.agedOut p = true := by simp [State.agedOut, State.reached, peerAgeMs, free, old]
  have some_aged : s.peers.entries.any (fun q => q.id == p.id && s.agedOut q) = true :=
    List.any_eq_true.mpr ⟨p, hp, by simp [aged]⟩
  change execPeerAgeOut p.id s = _
  rw [execPeerAgeOut, if_pos some_aged, filter_aged aged only]
  rfl

theorem exec_disagreeTimeout {since : Nat} (holds : s.port.disagree = true) (dead : s.isLive .disagree = false)
    (timed : s.fault.timer = some since) (past : since + 30000 ≤ s.now) :
    exec .disagreeTimeout s = .next (faultLive .disagree noSubject s) := by
  have due : disagreeDue s = true := by simp [disagreeDue, State.reached, disagreeMs, holds, dead, timed, past]
  exact congrArg Host.Outcome.next (if_pos due)

theorem exec_probeTimeout {target : Identity} {pattern : List Byte} {sentAt : Nat}
    (waits : s.peers.probe = .awaiting target pattern sentAt) (past : sentAt + 2000 ≤ s.now) :
    exec .probeTimeout s = .next (raise .echo false target [2] { s with peers := { s.peers with probe := .none } }) := by
  have due : probeDue s = true := by simp [probeDue, State.reached, probeMs, waits, past]
  change execProbeTimeout s = _
  simp only [execProbeTimeout, waits, due, if_true]
  rfl

/-- A pair heard 5 s ago leaves the memory, and a relay of it that waits is withdrawn (R122). -/
theorem exec_haltMemoryExpiry {originator : Identity} {number : Byte} {e : HaltEntry}
    (he : s.haltEntry originator number = some e) (past : e.firstHeard + 5000 ≤ s.now) :
    let rest := s.halt.memory.filter (fun x => !(x.originator == originator && x.number == number))
    let gone : State := { s with halt := { s.halt with memory := rest } }
    exec (.haltMemoryExpiry originator number) s
      = .next (if e.relayQueued then withdraw (.relay originator number) gone else gone) := by
  obtain ⟨rfl, rfl⟩ := pair_of_haltEntry he
  have due : pairOver s.now e = true := by simp [pairOver, haltMemoryMs, past]
  change execHaltMemoryExpiry _ _ s = _
  simp only [execHaltMemoryExpiry, he, due, if_true]
  rfl

/-- A held floor is freed 1500 ms after it was last taken, and not before (R146). -/
theorem exec_floorTimeout {h : Held} (held : s.floor.st = .held h) :
    (h.taken + 1500 ≤ s.now → exec .floorTimeout s = .next { s with floor := { s.floor with st := .free } })
      ∧ (s.now < h.taken + 1500 → exec .floorTimeout s = .next s) := by
  have due : floorDue s = true ↔ h.taken + 1500 ≤ s.now := by
    rw [floorDue, held]
    exact decide_eq_true_iff
  exact ⟨fun past => congrArg Host.Outcome.next (if_pos (due.mpr past)),
    fun before => congrArg Host.Outcome.next (if_neg fun d => absurd (due.mp d) (Nat.not_le.mpr before))⟩

/-- Settles O56: each timed event with the moment it waits for. -/
theorem stationTimesRunOut : Obligations.StationTimesRunOut := fun s =>
  ⟨fun _ => exec_disagreeTimeout, fun _ => exec_peerAgeOut, fun _ _ _ => exec_probeTimeout,
    fun _ _ _ => exec_haltMemoryExpiry, fun _ => exec_floorTimeout, judgeSrq s, rfl, rfl, srqWanted_iff s⟩

end Sys2Proof.Machine
end

section
/-! PROOFS. The 20 ms boundaries of the audio port: what the codec frame joins, what the output carries. -/

namespace Sys2Proof.Machine

variable {s : State} {codec : CodecFrame} {f : Floor}

/-! ## The codec frame of the 20 ms (R150, R151) -/

/-- Nothing is assembled while the floor is not the station's own. -/
theorem assemble_of_not_own (h : f.st = .free ∨ (∃ h, f.st = .held h) ∨ (∃ x y, f.st = .claiming x y)) :
    assemble codec f = f := by
  rcases h with h | ⟨_, h⟩ | ⟨_, _, h⟩ <;> simp [assemble, h]

section
variable {sp : Spurt} (own : f.st = .own sp) (talks : sp.phase = .talking)
include own talks

theorem assemble_first (h : sp.started = false) :
    assemble codec f = { f with st := .own { sp with started := true } } := by
  simp [assemble, own, talks, h]

theorem assemble_joins (h : sp.started = true) (short : sp.assembly.length < 9) :
    assemble codec f = { f with st := .own { sp with assembly := sp.assembly ++ [codec] } } := by
  simp [assemble, own, talks, h, short]

theorem assemble_completes (h : sp.started = true) (full : sp.assembly.length = 9) :
    assemble codec f = completeBlock sp (sp.assembly ++ [codec]) f := by
  simp [assemble, own, talks, h, full]

end

theorem completeBlock_room {sp : Spurt} {frames : List CodecFrame} (h : f.outlet.length < 2) :
    completeBlock sp frames f = { f with
      st := .own { sp with nextNo := sp.nextNo + 1, assembly := [] }
      outlet := f.outlet ++ [{ number := sp.nextNo, frames := frames }] } :=
  if_pos h

theorem completeBlock_full {sp : Spurt} {frames : List CodecFrame} (h : 2 ≤ f.outlet.length) :
    completeBlock sp frames f = { f with
      st := .own { sp with nextNo := sp.nextNo + 1, assembly := [], discarded := min 255 (sp.discarded + 1) }
      outlet := f.outlet.drop 1 ++ [{ number := sp.nextNo, frames := frames }] } :=
  if_neg (Nat.not_lt.mpr h)

/-! ## The output of the next 20 ms (R156) -/

theorem choosePlayout_silent (empty : f.playout = []) (pos : f.playPos < 10) :
    choosePlayout f = { f with ado := some 0 } := by
  have kept : retireBlock f = f := if_neg (Nat.not_le.mpr pos)
  simp only [choosePlayout, kept, empty, silence]

theorem choosePlayout_next {b : List CodecFrame} {rest : List (List CodecFrame)} (blocks : f.playout = b :: rest) (pos : f.playPos < 10) :
    choosePlayout f = { f with ado := some (b.getD f.playPos 0), playPos := f.playPos + 1 } := by
  have kept : retireBlock f = f := if_neg (Nat.not_le.mpr pos)
  simp only [choosePlayout, kept, blocks, silence]

/-- Past its tenth frame a block leaves, and the output is that of the blocks behind it. -/
theorem choosePlayout_retires (pos : 10 ≤ f.playPos) :
    choosePlayout f = choosePlayout { f with playout := f.playout.drop 1, playPos := 0 } := by
  have retired : retireBlock f = { f with playout := f.playout.drop 1, playPos := 0 } := if_pos pos
  have kept : retireBlock { f with playout := f.playout.drop 1, playPos := 0 }
    = { f with playout := f.playout.drop 1, playPos := 0 } := if_neg (by decide : ¬ 10 ≤ 0)
  rw [choosePlayout, choosePlayout, retired, kept]

/-! ## The boundary (R150) -/

/-- At a boundary the codec frame is taken, the output is chosen and the next boundary is set. -/
theorem exec_boundary {due : Nat} {g : Floor} (set : s.floor.boundary = some due) (reached : due ≤ s.now)
    (chosen : choosePlayout (assemble codec s.floor) = g) (kept : g.boundary = s.floor.boundary) :
    exec (.audioFrameBoundary codec) s = .next { s with floor := { g with boundary := some (due + 20) } } := by
  have now : boundaryDue s = true := by simp [boundaryDue, State.reached, set, reached]
  have passed : passBoundary codec s.floor = { g with boundary := some (due + 20) } := by
    rw [passBoundary, chosen]
    simp only [kept, set, Option.map_some, audioFrameMs]
  change execAudioFrameBoundary codec s = _
  rw [execAudioFrameBoundary, if_pos now, passed]
  rfl

/-- Settles O57: what is assembled and what is played at a boundary are two choices, each by its own lemma. -/
theorem audioBoundariesAssembleAndPlay : Obligations.AudioBoundariesAssembleAndPlay := by
  intro codec due s set reached
  refine ⟨fun others => ?_, fun sp own talks empty pos =>
    ⟨fun h => ?_, fun h short => ?_, fun h full => ⟨fun room => ?_, fun lost => ?_⟩⟩⟩
  · have asIs : assemble codec s.floor = s.floor := assemble_of_not_own others
    have plays {g : Floor} (chosen : choosePlayout s.floor = g) (kept : g.boundary = s.floor.boundary) :
        exec (.audioFrameBoundary codec) s = .next { s with floor := { g with boundary := some (due + 20) } } :=
      exec_boundary set reached (by rw [asIs, chosen]) kept
    refine ⟨fun empty pos => ?_, fun b rest blocks pos => ?_, fun b c rest blocks pos => ?_, fun b blocks pos => ?_⟩
    · exact plays (choosePlayout_silent empty pos) rfl
    · exact plays (choosePlayout_next blocks pos) rfl
    · have left : s.floor.playout.drop 1 = c :: rest := by rw [blocks]; rfl
      refine plays ((choosePlayout_retires pos).trans ?_) rfl
      rw [left]
      exact choosePlayout_next (f := { s.floor with playout := c :: rest, playPos := 0 }) rfl (by decide : 0 < 10)
    · have left : s.floor.playout.drop 1 = [] := by rw [blocks]; rfl
      refine plays ((choosePlayout_retires pos).trans ?_) rfl
      rw [left]
      exact choosePlayout_silent (f := { s.floor with playout := [], playPos := 0 }) rfl (by decide : 0 < 10)
  · exact exec_boundary set reached (by rw [assemble_first own talks h]; exact choosePlayout_silent empty pos) rfl
  · exact exec_boundary set reached (by rw [assemble_joins own talks h short]; exact choosePlayout_silent empty pos) rfl
  · exact exec_boundary set reached
      (by rw [assemble_completes own talks h full, completeBlock_room room]; exact choosePlayout_silent empty pos) rfl
  · exact exec_boundary set reached
      (by rw [assemble_completes own talks h full, completeBlock_full lost]; exact choosePlayout_silent empty pos) rfl

end Sys2Proof.Machine
end

section
/-! PROOFS. The DORMANT notice of a station that rests, and the sniff windows. -/

namespace Sys2Proof.Machine

variable {s : State}

/-- Every entry rests when the operator side rests without a request and the traction side rests (R161). -/
theorem bondsRest_of_standby (ops : ∀ i e, s.entry i = some (.op e) → e.st = .standby ∧ e.req = none)
    (trs : ∀ i e, s.entry i = some (.tr e) → e.st = .standby) : s.bondsRest = true := by
  refine List.all_eq_true.mpr fun i _ => ?_
  cases held : s.entry i with
  | none => rfl
  | some b =>
    cases b with
    | op e =>
      obtain ⟨rests, free⟩ := ops i e held
      simp [restsInStandby, rests, free]
    | tr e => simp [restsInStandby, trs i e held]

theorem setNotice_of_life {l : Life} {n : Notice} (h : s.life = l) :
    s.setNotice n = { s with life := { l with notice := n } } := by
  subst h
  rfl

/-- The notice of a station with an empty queue is queued, and station control notes it (R161). -/
theorem exec_dormancyDelayExpiry (due : s.dormancyDue = true) (empty : s.chan.queue = []) : ∃ t,
    Queued (s.crewFrame .dormant) none .dormantNotice s t
      ∧ exec .dormancyDelayExpiry s = .next { t with life := { s.life with notice := .queued } } := by
  have room : Room s := by simp [Room, empty, queueCapacity]
  have class2 : kindClass (frameKind (s.crewFrame .dormant)) = .c2 := rfl
  have sent := offer_room_class2 (nb := none) (tag := .dormantNotice) room class2
  refine ⟨_, enqueue_queued _ _ _ _, ?_⟩
  rw [← setNotice_of_life (enqueue_life _ _ _ _ _)]
  change execDormancyDelayExpiry s = _
  simp only [execDormancyDelayExpiry, due, if_true, sent]

/-- A sniff window opens at its moment, and not before (R164). -/
theorem exec_sniffWindowOpen {due : Nat} (dormant : s.life.st = .dormant) (set : s.life.sniff = some due) :
    (due ≤ s.now → exec .sniffWindowOpen s
        = .next { s with life := { s.life with sniff := some (due + 1000), window := some (due + 60) } })
      ∧ (s.now < due → exec .sniffWindowOpen s = .next s) := by
  have opens : windowOpenDue s = true ↔ due ≤ s.now := by simp [windowOpenDue, dormant, set, State.reached]
  change (_ → execSniffWindowOpen s = _) ∧ (_ → execSniffWindowOpen s = _)
  simp only [execSniffWindowOpen, set]
  exact ⟨fun now => congrArg Host.Outcome.next (if_pos (opens.mpr now)),
    fun before => congrArg Host.Outcome.next (if_neg fun d => absurd (opens.mp d) (Nat.not_le.mpr before))⟩

theorem dropLocking_of_ne {m : RxState} (h : ∀ entry bits, m ≠ .locking entry bits) : dropLocking m = m := by
  cases m with
  | locking entry bits => exact absurd rfl (h entry bits)
  | _ => rfl

/-- The close of a sniff window drops a hunt that has not locked (R7, R164). -/
theorem exec_sniffWindowClose {end_ : Nat} (set : s.life.window = some end_) (now : end_ ≤ s.now) :
    exec .sniffWindowClose s
      = .next { s with life := { s.life with window := none }, modem := dropLocking s.modem } := by
  have due : windowCloseDue s = true := by simp [windowCloseDue, State.reached, set, now]
  exact congrArg Host.Outcome.next (if_pos due)

/-- Settles O58: the conditions of the notice together make it due; the windows open and close at their moments. -/
theorem dormancyNoticeAndSniffWindows : Obligations.DormancyNoticeAndSniffWindows := by
  intro s
  refine ⟨?_, fun due dormant set => exec_sniffWindowOpen dormant set, fun end_ set now => ?_⟩
  · intro c last config role delay active idle activity passed ops trs empty free probe own test
    refine exec_dormancyDelayExpiry ((dormancyDue_iff s).mpr ?_) empty
    exact ⟨c, last, config, role, delay, active, idle, activity, passed, bondsRest_of_standby ops trs, empty, free, probe,
      own, test⟩
  · refine ⟨_, exec_sniffWindowClose set now, rfl, fun ⟨entry, bits, locking⟩ => ?_, dropLocking_of_ne⟩
    rw [locking]
    rfl

end Sys2Proof.Machine
end

section
/-! PROOFS. The ends and the steps of the self-tests. -/

namespace Sys2Proof.Machine

variable {s : State}

/-! ## LOOP (R176) -/

/-- LOOP ends by whether its three frames came back, a bit of its report for each that did not. -/
theorem endLoop_eq (full half quarter : Bool) (s : State) :
    let ended (r : TestResult) : State := { s with test := { s.test with running := none, loop := r }, modem := .hunting }
    let missing : BitVec 3 := BitVec.ofBool (!quarter) ++ BitVec.ofBool (!half) ++ BitVec.ofBool (!full)
    endLoop full half quarter s =
      if full = true ∧ half = true ∧ quarter = true then
        raise .testDone false noSubject [1, 0, 0, 0] (faultEnd .loopFail noSubject (ended .pass))
      else raise .testDone false noSubject [1, 1, missing.setWidth 8, 0] (faultLive .loopFail noSubject (ended .fail)) := by
  intro ended missing
  split_ifs with good
  · obtain ⟨rfl, rfl, rfl⟩ := good
    rfl
  · have failed : (full && half && quarter) = false := by
      simpa [and_assoc, ← Bool.not_eq_true] using good
    simp only [endLoop, failed]
    rfl

theorem exec_loopTestEnd {start : Nat} {sent : Frame} (runs : s.test.running = some (.loop start sent))
    (past : start + 400 ≤ s.now) (full half quarter : LoopReading) :
    exec (.loopTestEnd full half quarter) s
      = .next (endLoop (intact .full sent full) (intact .half sent half) (intact .quarter sent quarter) s) := by
  have due : s.reached (start + loopMs) = true := decide_eq_true past
  change execLoopTestEnd full half quarter s = _
  simp only [execLoopTestEnd, runs, due, if_true]

/-! ## STOPLINE (R177) -/

/-- A moment of STOPLINE changes the two lines alone. -/
theorem stoplineDrive_frame (pos : Nat) (u : StopUnit) :
    stoplineDrive pos u = { u with stopA := (stoplineDrive pos u).stopA, stopB := (stoplineDrive pos u).stopB } := by
  unfold stoplineDrive
  split <;> rfl

/-- The drive of the lines changes at the moments 0, 2, 4 and 6. -/
theorem stoplineDrive_judging {pos : Nat} (h : pos = 1 ∨ pos = 3 ∨ pos = 5 ∨ pos = 7) (u : StopUnit) :
    stoplineDrive pos u = u := by
  rcases h with rfl | rfl | rfl | rfl <;> rfl

/-- The first failed step stays. -/
theorem stoplineFailed_some (pos n : Nat) (a b : Bool) : stoplineFailed pos (some n) a b = some n := rfl

theorem stoplineFailed_judged {pos step : Nat} {a b wantA wantB : Bool}
    (h : (pos, step, wantA, wantB) ∈ [(0, 1, true, true), (1, 2, false, true), (3, 3, true, true), (5, 4, true, false),
      (7, 5, true, true)]) :
    stoplineFailed pos none a b = if a = wantA ∧ b = wantB then none else some step := by
  simp only [List.mem_cons, Prod.mk.injEq, List.not_mem_nil, or_false] at h
  rcases h with ⟨rfl, rfl, rfl, rfl⟩ | ⟨rfl, rfl, rfl, rfl⟩ | ⟨rfl, rfl, rfl, rfl⟩ | ⟨rfl, rfl, rfl, rfl⟩ | ⟨rfl, rfl, rfl, rfl⟩
    <;> rfl

theorem stoplineFailed_unjudged {pos : Nat} (h : pos = 2 ∨ pos = 4 ∨ pos = 6) (a b : Bool) :
    stoplineFailed pos none a b = none := by
  rcases h with rfl | rfl | rfl <;> rfl

theorem exec_stoplineStep {start pos moment : Nat} {failed : Option Nat} (a b : Bool)
    (runs : s.test.running = some (.stopline start pos failed)) (h : [0, 8, 10, 23, 25, 33, 35, 48][pos]? = some moment)
    (past : start + moment ≤ s.now) :
    exec (.stoplineStep a b) s = .next { s with
      stop := stoplineDrive pos s.stop
      test := { s.test with running := some (.stopline start (pos + 1) (stoplineFailed pos failed a b)) } } := by
  have due : stoplineStepDue s = true := by simp [stoplineStepDue, runs, stoplineMoment, h, State.reached, past]
  change execStoplineStep a b s = _
  simp only [execStoplineStep, runs, due, if_true]
  rfl

theorem exec_stoplineTestEnd {start pos : Nat} {failed : Option Nat}
    (runs : s.test.running = some (.stopline start pos failed)) (taken : 8 ≤ pos) (past : start + 50 ≤ s.now) :
    exec .stoplineTestEnd s = .next (endStopline failed s) := by
  have due : stoplineEndDue s = true := by simp [stoplineEndDue, runs, taken, State.reached, stoplineMs, past]
  change execStoplineTestEnd s = _
  simp only [execStoplineTestEnd, runs, due, if_true]

/-- A STOPLINE that passes opens the gate (R117, R174). -/
theorem endStopline_pass (s : State) : endStopline none s = raise .testDone false noSubject [2, 0, 0, 0]
    (changeCauses 0 causeTestFail noSubject (faultEnd .stopFail noSubject
      { s with test := { s.test with running := none, stopline := .pass, gate := true } })) := by
  have opened : (s.test.gate || true) = true := Bool.or_true _
  simp only [endStopline, Option.isNone_none, opened]
  rfl

theorem endStopline_fail (n : Nat) (s : State) : endStopline (some n) s =
    raise .testDone false noSubject [2, 1, BitVec.ofNat 8 n, 0] (changeCauses causeTestFail 0 noSubject
      (faultLive .stopFail noSubject { s with test := { s.test with running := none, stopline := .fail } })) := by
  have kept : (s.test.gate || false) = s.test.gate := Bool.or_false _
  simp only [endStopline, Option.isNone_some, kept]
  rfl

/-! ## TIMER (R178) -/

theorem exec_timerTestEnd {start noted : Nat} (runs : s.test.running = some (.timer start noted))
    (past : start + 1000 ≤ s.now) : exec .timerTestEnd s = .next (endTimer (s.supTimer - noted) s) := by
  have due : timerDue s = true := by simp [timerDue, runs, State.reached, timerMs, past]
  change execTimerTestEnd s = _
  simp only [execTimerTestEnd, runs, due, if_true]

theorem endTimer_eq (measure : Nat) (s : State) :
    let passed : Bool := decide (9900 ≤ measure ∧ measure ≤ 10100)
    endTimer measure s = raise .testDone false noSubject
      [3, if passed then 0 else 1, BitVec.ofNat 8 (measure / 256), BitVec.ofNat 8 measure]
      { s with test := { s.test with running := none, timer := if passed then .pass else .fail } } := by
  simp only [Bool.decide_and]
  rfl

/-- Settles O59: the moments and the ends of the three tests, each by its own lemma. -/
theorem selfTestsStepAndEnd : Obligations.SelfTestsStepAndEnd := by
  intro s
  refine ⟨fun start sent readings runs past => ?_, fun start pos failed moment a b runs h past => ?_,
    fun start pos failed runs taken past => ⟨?_, ?_⟩, fun start noted runs past => ?_⟩
  · exact (exec_loopTestEnd runs past _ _ _).trans (congrArg Host.Outcome.next (endLoop_eq _ _ _ s))
  · refine ⟨_, exec_stoplineStep a b runs h past, ?_, ?_, ?_, ?_, ?_, ?_, ?_, ?_⟩
    · rw [← stoplineDrive_frame]
    · rintro rfl
      exact ⟨rfl, rfl⟩
    · rintro rfl
      exact ⟨rfl, rfl⟩
    · rintro (rfl | rfl) <;> exact ⟨rfl, rfl⟩
    · exact fun judging => stoplineDrive_judging judging _
    · rintro n rfl
      rfl
    · rintro rfl step wantA wantB judged
      rw [stoplineFailed_judged judged]
    · rintro rfl driving
      rw [stoplineFailed_unjudged driving]
  · rintro rfl
    exact (exec_stoplineTestEnd runs taken past).trans (congrArg Host.Outcome.next (endStopline_pass s))
  · rintro n rfl
    exact (exec_stoplineTestEnd runs taken past).trans (congrArg Host.Outcome.next (endStopline_fail n s))
  · exact (exec_timerTestEnd runs past).trans (congrArg Host.Outcome.next (endTimer_eq _ s))

end Sys2Proof.Machine
end

section
/-! PROOFS. The presentation cycle of the traction port: the strobe, TACK, the limits, the sampled inputs. -/

namespace Sys2Proof.Machine

variable {s : State}

/-! ## The end of a presentation (R134, R135) -/

/-- A complete presentation is followed by the record in the slot, if there is one. -/
theorem completePresentation_eq (s : State) : completePresentation s = { s with port := match s.port.slot with
    | some r => { s.port with st := .setup (s.now + 2), slot := none, last := r }
    | none => { s.port with st := .idle } } := by
  cases waits : s.port.slot with
  | none =>
    simp only [completePresentation, beginPresentation, State.setPort, waits]
  | some r =>
    have idle : (s.setPort { s.port with st := .idle }).port.st = .idle := rfl
    rw [completePresentation, beginPresentation_idle idle waits]
    rfl

/-! ## The strobe (R133, R134) -/

theorem exec_strobeStart {at_ : Nat} (h : s.port.st = .setup at_) (now : at_ ≤ s.now) :
    exec .strobeStart s
      = .next { s with port := { s.port with st := .strobe (s.now + 10) (s.now + 400) false false } } := by
  have due : strobeStartDue s = true := by simp [strobeStartDue, h, State.reached, now]
  exact congrArg Host.Outcome.next (if_pos due)

theorem exec_strobeEnd {end_ limit : Nat} {acked fell : Bool} (h : s.port.st = .strobe end_ limit acked fell)
    (now : end_ ≤ s.now) : exec .strobeEnd s = .next (endStrobe limit acked fell s) := by
  have due : strobeEndDue s = true := by simp [strobeEndDue, h, State.reached, now]
  change execStrobeEnd s = _
  simp only [execStrobeEnd, h, due, if_true]

/-! ## TACK (R133, R134, R136) -/

/-- A rise of TACK is judged with the pin high. -/
theorem exec_tackRise (low : s.pins.tack = false) :
    exec .tackRise s = .next (acknowledge { s with pins := { s.pins with tack := true } }) :=
  congrArg Host.Outcome.next (if_neg (by simp [low]))

/-- A fall of TACK is judged with the pin low. -/
theorem exec_tackFall (high : s.pins.tack = true) :
    exec .tackFall s = .next (released { s with pins := { s.pins with tack := false } }) :=
  congrArg Host.Outcome.next (if_pos high)

theorem acknowledge_strobe {end_ limit : Nat} {fell : Bool} (h : s.port.st = .strobe end_ limit false fell) :
    acknowledge s = { s with port := { s.port with st := .strobe end_ (s.now + 400) true fell } } := by
  simp only [acknowledge, h]
  rfl

theorem acknowledge_waitAck {limit : Nat} (h : s.port.st = .waitAck limit) :
    acknowledge s = { s with port := { s.port with st := .waitRelease (s.now + 400) } } := by
  simp only [acknowledge, h]
  rfl

theorem released_strobe {end_ limit : Nat} {fell : Bool} (h : s.port.st = .strobe end_ limit true fell) :
    released s = { s with port := { s.port with st := .strobe end_ limit true true } } := by
  simp only [released, h]
  rfl

theorem released_waitRelease {limit : Nat} (h : s.port.st = .waitRelease limit) : released s = completePresentation s := by
  simp only [released, h]

theorem released_failed (h : s.port.st = .failed) : released s = recoverPort s := by
  simp only [released, h]

/-- A FAILED port without PORT-FAULT presents the safe record once TACK is low (R136). -/
theorem recoverPort_eq (failed : s.port.st = .failed) (clear : s.stop.causes &&& causePortFault = 0)
    (low : s.pins.tack = false) (slot : s.port.slot = some safeRecord) :
    recoverPort s =
      let t := faultEnd .port noSubject { s with port := { s.port with st := .idle } }
      { t with port := { s.port with st := .setup (s.now + 2), slot := none, last := safeRecord } } := by
  let idle : State := { s with port := { s.port with st := .idle } }
  have kept : (faultEnd .port noSubject idle).port = idle.port := by simp
  have now : (faultEnd .port noSubject idle).now = s.now := by simp [idle]
  rw [recoverPort, if_pos ⟨failed, clear, low⟩]
  change beginPresentation (faultEnd .port noSubject idle) = _
  rw [beginPresentation_idle (r := safeRecord) (by rw [kept]) (by rw [kept]; exact slot), kept, now]
  rfl

/-! ## The limits (R134, R135) -/

theorem exec_ackLimitExpiry {limit : Nat} (h : s.port.st = .waitAck limit) (now : limit ≤ s.now) :
    exec .ackLimitExpiry s = .next (failPort s) := by
  have due : ackLimitDue s = true := by simp [ackLimitDue, h, State.reached, now]
  exact congrArg Host.Outcome.next (if_pos due)

theorem exec_releaseLimitExpiry {limit : Nat} (h : s.port.st = .waitRelease limit) (now : limit ≤ s.now) :
    exec .releaseLimitExpiry s = .next (failPort s) := by
  have due : releaseLimitDue s = true := by simp [releaseLimitDue, h, State.reached, now]
  exact congrArg Host.Outcome.next (if_pos due)

/-! ## The sampled inputs (R137, R138) -/

theorem exec_inputSampled (held : 20 ≤ s.now) (sample : InputSample) :
    exec (.inputSampled sample) s = .next (takeSample sample s) :=
  congrArg Host.Outcome.next (if_pos (decide_eq_true held))

theorem disagreeWanted_sampled (b : Bool) :
    disagreeWanted { s with port := { s.port with still := some b } } = true
      ↔ s.isTraction = true ∧ s.started = true ∧ s.stop.causes ≠ 0 ∧ b = false := by
  simp [disagreeWanted, State.still, State.isTraction, State.role, State.started, and_assoc]

/-- Settles O60: each event of the port in the state it is for, each by its own lemma. -/
theorem portEventsMoveThePresentation : Obligations.PortEventsMoveThePresentation := by
  intro s
  let low : State := { s with pins := { s.pins with tack := false } }
  have falls {t : State} (high : s.pins.tack = true) (h : released low = t) : exec .tackFall s = .next t := by
    rw [exec_tackFall high, ← h]
  refine ⟨fun at_ => exec_strobeStart, fun end_ limit acked fell h => ⟨fun now => ?_, fun down fresh => ?_, fun high noted => ?_⟩,
    fun limit h => ⟨fun down => ?_, exec_ackLimitExpiry h⟩, fun limit h => ⟨fun high => ?_, exec_releaseLimitExpiry h⟩,
    fun failed high => ⟨fun faulty => ?_, fun clear slot => ?_⟩,
    fun held => ⟨fun b => exec_inputSampled held _, fun v => exec_inputSampled held _, fun b => ?_⟩⟩
  · rw [exec_strobeEnd h now, endStrobe, completePresentation_eq]
    rfl
  · subst fresh
    exact (exec_tackRise down).trans (congrArg Host.Outcome.next (acknowledge_strobe h))
  · subst noted
    exact falls high (released_strobe (s := low) h)
  · exact (exec_tackRise down).trans (congrArg Host.Outcome.next (acknowledge_waitAck h))
  · exact falls high ((released_waitRelease (s := low) h).trans (completePresentation_eq low))
  · exact falls high ((released_failed (s := low) failed).trans
      (recoverPort_of_not (s := low) fun ⟨_, clear, _⟩ => faulty clear))
  · exact falls high ((released_failed (s := low) failed).trans (recoverPort_eq (s := low) failed clear rfl slot))
  · let u : State := { s with port := { s.port with still := some b } }
    have port : (judgeDisagree u).port = { u.port with disagree := disagreeWanted u } := judgeDisagree_port u
    have input : (judgeDisagree u).port.disagree = disagreeWanted u := by rw [port]
    refine ⟨judgeDisagree u, exec_inputSampled held _, ?_, ?_, fun true_ false_ => ?_⟩
    · rw [judgeDisagree_frame u, port]
    · rw [input]
      exact disagreeWanted_sampled b
    · rw [judgeDisagree_rise (s := u) false_ (input ▸ true_)]

end Sys2Proof.Machine
end

section
/-! PROOFS. Transfers and offers that run out: the next OFFER, the lapse of a transfer, the expiry of an offer. -/

namespace Sys2Proof.Machine

variable {s : State}

/-! ## What the end of a transfer leaves of the entries (R97) -/

/-- An entry without the transfer it may hold. -/
def TrEntry.unhanding (e : TrEntry) : TrEntry := { e with transfer := none }

/-- Clearing the transfer changes no other field of an entry. -/
theorem transferGone_trEntry_unhanding (i : Fin 4) (s : State) :
    ((transferGone s).trEntry i).map TrEntry.unhanding = (s.trEntry i).map TrEntry.unhanding := by
  by_cases holder : ∃ x, s.attached = some (i, x)
  · obtain ⟨x, hx⟩ := holder
    obtain ⟨e, he, -⟩ := attached_entry hx
    rw [transferGone_trEntry_holder hx he, he]
    rfl
  · have others : ∀ j x, s.attached = some (j, x) → j ≠ i := by
      rintro j x hj rfl
      exact holder ⟨x, hj⟩
    rw [transferGone_trEntry_of_ne others]

theorem transferGone_trSlot (id : Identity) (s : State) : (transferGone s).trSlot id = s.trSlot id := by
  refine trSlot_congr id fun i => ?_
  have same := congrArg (Option.map TrEntry.operator) (transferGone_trEntry_unhanding i s)
  rwa [Option.map_map, Option.map_map] at same

theorem transferGone_findTr_none {id : Identity} (h : s.findTr id = none) : (transferGone s).findTr id = none := by
  rw [State.findTr, transferGone_trSlot, trSlot_of_findTr_none h]
  rfl

/-- An entry found before is found after, in its slot, with every field but the transfer. -/
theorem transferGone_findTr {id : Identity} {i : Fin 4} {e : TrEntry} (h : s.findTr id = some (i, e)) :
    ∃ e', (transferGone s).findTr id = some (i, e') ∧ e'.st = e.st ∧ e'.offered = e.offered := by
  have same := transferGone_trEntry_unhanding i s
  rw [trEntry_of_findTr h] at same
  obtain ⟨e', he', bare⟩ := Option.map_eq_some_iff.mp same
  refine ⟨e', ?_, (congrArg (fun x : TrEntry => x.st) bare :), (congrArg (fun x : TrEntry => x.offered) bare :)⟩
  rw [State.findTr, transferGone_trSlot, trSlot_of_findTr h]
  simp [he']

/-! ## The target's entry (R107) -/

section
variable {id : Identity} {i : Fin 4} {e : TrEntry} (cause : Byte)

theorem targetGone_none (h : s.findTr id = none) : targetGone id cause s = s := by
  simp only [targetGone, h]

theorem targetGone_bound (h : s.findTr id = some (i, e)) (bound : e.offered = false) : targetGone id cause s = s := by
  simp [targetGone, h, bound]

theorem targetGone_made (h : s.findTr id = some (i, e)) (rests : e.st = .standby) (made : e.offered = true) :
    targetGone id cause s = raise .bond false id [BitVec.ofNat 8 i.val, 0, cause] (agePeers (putEntry i none s)) := by
  simp only [targetGone, h, rests, made, and_self, if_true]

end

/-! ## The next OFFER (R100) -/

theorem exec_offerRepeat {x : Transfer} {due : Nat} (pending : s.pendingTransfer = some x) (set : x.nextOffer = some due)
    (now : due ≤ s.now) : exec .offerRepeat s = .next (repeatOffer x s) := by
  have reached : offerRepeatDue s = true := by simp [offerRepeatDue, pending, set, State.reached, now]
  change execOfferRepeat s = _
  simp only [execOfferRepeat, pending, reached, if_true]

theorem transferBecomes_room {x : Transfer} (h : Room s) : Room (transferBecomes x s) := by
  have chan : (transferBecomes x s).chan = s.chan := by
    unfold transferBecomes
    split
    · split
      · exact putEntry_chan ..
      · rfl
    · rfl
  rwa [Room, chan]

/-- An OFFER is queued with the whole seconds left, and the next is due once it has left the air. -/
theorem sendOffer_room {x : Transfer} (pending : s.pendingTransfer = some x) (hr : Room s) :
    Queued (s.unitFrame x.target 0 (.offer x.handing (BitVec.ofNat 8 ((x.expiry - s.now) / 1000)))) none .offer
      (transferBecomes { x with nextOffer := none } s) (sendOffer offer s) := by
  have room : Room (transferBecomes { x with nextOffer := none } s) := transferBecomes_room hr
  have sent := offer_room (nb := none) (tag := .offer)
    (f := s.unitFrame x.target 0 (.offer x.handing (BitVec.ofNat 8 ((x.expiry - s.now) / 1000)))) room nofun
  simp only [sendOffer, pending, modTransfer_eq pending, sent]
  exact enqueue_queued ..

theorem repeatOffer_first {x : Transfer} (h : s.now + 2000 ≤ x.expiry) : repeatOffer x s = sendOffer offer s := if_pos h

theorem repeatOffer_last {x : Transfer} (pending : s.pendingTransfer = some x) (h : x.expiry < s.now + 2000) :
    repeatOffer x s = transferBecomes { x with nextOffer := none } s :=
  (if_neg (Nat.not_le.mpr h)).trans (modTransfer_eq pending)

/-! ## The lapse of a transfer (R107) -/

theorem exec_transferLapse {x : Transfer} (pending : s.pendingTransfer = some x) (now : x.expiry ≤ s.now) :
    exec .transferLapse s = .next (targetGone x.target 12 (sendSettled offer .lapsed x.handing (transferGone s))) := by
  have reached : transferLapseDue s = true := by simp [transferLapseDue, pending, State.reached, now]
  change execTransferLapse s = _
  simp only [execTransferLapse, pending, reached, if_true, lapseTransfer, removeOffered_eq, clearTransfer_eq]
  rfl

/-- The handing operator is told of the lapse, and the target's entry goes if it was made for the transfer. -/
theorem transfer_lapses {x : Transfer} (pending : s.pendingTransfer = some x) (now : x.expiry ≤ s.now) (hr : Room s) :
    ∃ t, Queued (s.unitFrame x.handing 0 (.settled .lapsed)) none .settled (transferGone s) t
      ∧ exec .transferLapse s = .next (targetGone x.target 12 t)
      ∧ (s.findTr x.target = none → exec .transferLapse s = .next t)
      ∧ (∀ i e, s.findTr x.target = some (i, e) → e.offered = false → exec .transferLapse s = .next t)
      ∧ (∀ i e, s.findTr x.target = some (i, e) → e.st = .standby → e.offered = true → exec .transferLapse s
          = .next (raise .bond false x.target [BitVec.ofNat 8 i.val, 0, 12] (agePeers (putEntry i none t)))) := by
  have lapses := exec_transferLapse pending now
  have told := sendSettled_room (outcome := .lapsed) (handing := x.handing) (transferGone_room hr)
  rw [unitFrame_congr (transferGone_life s).2 (transferGone_life s).1] at told
  generalize sendSettled offer .lapsed x.handing (transferGone s) = t at lapses told
  have bond : t.bond = (transferGone s).bond := by rw [told]
  have found := findTr_of_bond bond x.target
  refine ⟨t, told, lapses, fun absent => ?_, fun i e held bound => ?_, fun i e held rests made => ?_⟩
  · rw [lapses, targetGone_none 12 (found.trans (transferGone_findTr_none absent))]
  · obtain ⟨e', held', -, same⟩ := transferGone_findTr held
    rw [lapses, targetGone_bound 12 (found.trans held') (same.trans bound)]
  · obtain ⟨e', held', rests', made'⟩ := transferGone_findTr held
    rw [lapses, targetGone_made 12 (found.trans held') (rests'.trans rests) (made'.trans made)]

/-! ## The expiry of an offer (R102) -/

theorem exec_offerExpiry {i : Fin 4} {e : OpEntry} {o : Offer} (he : s.opEntry i = some e) (hst : e.st = .offered)
    (ho : e.offer = some o) (now : o.expiry ≤ s.now) : exec (.offerExpiry i) s = .next (endOffer i e .lapsed s) := by
  have past : offerOver s.now e = true := by simp [offerOver, hst, ho, now]
  change execOfferExpiry i s = _
  simp only [execOfferExpiry, he, past, if_true]

/-- An OFFERED entry that ends goes if it was made for the offer, and rests in STANDBY otherwise (R102, R103). -/
theorem endOffer_eq {i : Fin 4} {e : OpEntry} {o : Offer} (cause : BondCause) (he : s.opEntry i = some e)
    (ho : e.offer = some o) : endOffer i e cause s = if o.madeForOffer then
        raise .bond false e.traction [BitVec.ofNat 8 i.val, 0, bondCauseCode cause] (agePeers (putEntry i none s))
      else raise .bond false e.traction [BitVec.ofNat 8 i.val, 2, bondCauseCode cause]
        (agePeers (putEntry i (some (.op { e with st := .standby, offer := none })) s)) := by
  simp only [endOffer, ho, modOp_of_opEntry he]
  rfl

/-- Settles O55: the next OFFER, the lapse and the expiry, each by its own lemma. -/
theorem transfersAndOffersRunOut : Obligations.TransfersAndOffersRunOut := by
  intro i s
  refine ⟨fun x pending => ⟨fun due set now => ⟨fun left hr => ?_, fun few => ?_⟩, fun now hr => ?_⟩,
    fun e o he hst ho now => ?_⟩
  · refine ⟨_, sendOffer_room pending hr, ?_⟩
    rw [exec_offerRepeat pending set now, repeatOffer_first left]
  · rw [exec_offerRepeat pending set now, repeatOffer_last pending few]
  · obtain ⟨t, told, lapses, absent, bound, made⟩ := transfer_lapses pending now hr
    exact ⟨t, told, lapses, absent, bound i, made i⟩
  · rw [exec_offerExpiry he hst ho now, endOffer_eq .lapsed he ho]
    rfl

end Sys2Proof.Machine
end
